-- ==== Sys2Proof/Word.lean ====
section
/-! DEFINITION. The words of the UB2860: bytes of the serial lines, the 32-bit stamps of the millisecond
counter (R2), and tables of a fixed number of entries. -/

namespace Sys2Proof

/-- One byte of the service link or of a pack line (R181). -/
abbrev Byte := BitVec 8

/-- A value of the millisecond counter, which wraps from 4,294,967,295 to 0 (R2). -/
abbrev Stamp := BitVec 32

/-- A table of exactly `n` entries. The spec's tables are numbered from 0 (from 1 for fans). -/
structure Table (α : Type) (n : Nat) where
  list : List α
  size : list.length = n
deriving DecidableEq, Repr

/-- The entry at `i`. -/
def Table.get {α : Type} {n : Nat} (t : Table α n) (i : Fin n) : α :=
  t.list[i.val]'(by rw [t.size]; exact i.isLt)

/-- The table with the entry at `i` replaced whole. -/
def Table.set {α : Type} {n : Nat} (t : Table α n) (i : Fin n) (a : α) : Table α n :=
  ⟨t.list.set i.val a, by rw [List.length_set, t.size]⟩

/-- The table all of whose entries are `a`. -/
def Table.replicate {α : Type} (n : Nat) (a : α) : Table α n :=
  ⟨List.replicate n a, List.length_replicate⟩

/-- The table with `f` applied to every entry. -/
def Table.map {α β : Type} {n : Nat} (f : α → β) (t : Table α n) : Table β n :=
  ⟨t.list.map f, by rw [List.length_map, t.size]⟩

/-- The table whose entry at `i` is `f i`. -/
def Table.ofFn {α : Type} {n : Nat} (f : Fin n → α) : Table α n :=
  ⟨(List.finRange n).map f, by rw [List.length_map, List.length_finRange]⟩

end Sys2Proof
end

