-- ==== Sys2Proof/Syntax.lean ====
section
/-! DEFINITION. The commands of the UB2860: one constructor for each row of spec/opcode_table.json, in the
table's order. Operands are what the outside of the part decides at the event. A host request carries none here:
its frame stands in the request buffer, and the row is the execution of the request at the buffer's head (R184). -/

namespace Sys2Proof

/-- The two battery packs (chapter 3): A internal, source 0; B in the hot-swap bay, source 1. -/
inductive Pack where
  | a
  | b
deriving DecidableEq, Repr

/-- The two fans (chapter 8). -/
inductive Fan where
  | one
  | two
deriving DecidableEq, Repr

/-- The four switch inputs (R124), in the selector order of R132. -/
inductive SwitchInput where
  | lid
  | hinge
  | pwrbtn
  | baylatch
deriving DecidableEq, Repr

/-- The inputs of LID_HINGE_DEBOUNCE_COMPLETE (R127). -/
inductive LidHinge where
  | lid
  | hinge
deriving DecidableEq, Repr

/-- The raw levels of the four contacts as one tick expiry samples them (R124). `true` is the level listed second
in section 7.1's table: LID closed, HINGE tablet, PWRBTN pressed, BAYLATCH open. -/
structure SwitchLevels where
  lid : Bool
  hinge : Bool
  pwrbtn : Bool
  baylatch : Bool
deriving DecidableEq, Repr

/-- What the always-on rail did at a reset (R166). -/
inductive RailCause where
  /-- It rose from a level at which the part holds no state. -/
  | powerOn
  /-- It fell below the part's reset threshold and recovered. -/
  | supplyDip
deriving DecidableEq, Repr

/-- How a pack-line frame fails (R36): by a gap of more than 2 ms between two of its bytes, or by the bytes that
end it. -/
inductive LineFault where
  | gap
  | bytes (bs : List Byte)
deriving DecidableEq, Repr

/-- The commands, one for each row of spec/opcode_table.json. -/
inductive Instr where
  /-- RESET (R15): what the rail did (if the rail caused it), whether RSTIN is asserted, and the presence levels. -/
  | reset (rail : Option RailCause) (rstin : Bool) (prsA prsB : Bool)
  /-- TICK_EXPIRY (R1), with the raw levels SWI samples at it (R124). -/
  | tickExpiry (raw : SwitchLevels)
  /-- TACH_EDGE (R146): a falling edge, `us` microseconds after the channel's count last started (R4). -/
  | tachEdge (f : Fan) (us : Nat)
  /-- SWEEP_START (R7). -/
  | sweepStart
  /-- CONVERSION_COMPLETE (R8): the channel and its converted value, in the channel's unit, before the clamp. -/
  | conversionComplete (ch : Fin 16) (value : Int)
  /-- SWEEP_COMPLETION (R97). -/
  | sweepCompletion
  /-- PRESENCE_ACTIVE (R38). -/
  | presenceActive (p : Pack)
  /-- PRESENCE_TIMER_EXPIRY (R38). -/
  | presenceTimerExpiry (p : Pack)
  /-- PACK_REMOVAL (R40). -/
  | packRemoval (p : Pack)
  /-- SILENCE_TIMER_EXPIRY (R39). -/
  | silenceTimerExpiry (p : Pack)
  /-- STALE_TIMER_EXPIRY (R39). -/
  | staleTimerExpiry (p : Pack)
  /-- PACK_TELEMETRY_RECEIVED (R42): the bytes on the pack line up to the frame's last. -/
  | packTelemetryReceived (p : Pack) (bytes : List Byte)
  /-- PACK_REPLY_RECEIVED (R47): the bytes on the pack line up to the frame's last. -/
  | packReplyReceived (p : Pack) (bytes : List Byte)
  /-- PACK_FRAME_ERROR (R36). -/
  | packFrameError (p : Pack) (e : LineFault)
  /-- PACK_REQUEST_TRANSMIT (R36). -/
  | packRequestTransmit (p : Pack)
  /-- PASS_TIMER_EXPIRY (R47). -/
  | passTimerExpiry (p : Pack)
  /-- PASS_REPLY_QUEUED (R48). -/
  | passReplyQueued (p : Pack)
  /-- CHARGE_TIMEOUT (R72). -/
  | chargeTimeout (p : Pack)
  /-- SCAN_PASS (R101): the raw image, `true` for raw down, position 0 first. -/
  | scanPass (image : List Bool)
  /-- INITIAL_TAKE (R126). -/
  | initialTake (i : SwitchInput)
  /-- LID_HINGE_DEBOUNCE_COMPLETE (R127). -/
  | lidHingeDebounceComplete (i : LidHinge)
  /-- PWRBTN_DEBOUNCE_COMPLETE (R128). -/
  | pwrbtnDebounceComplete
  /-- BAYLATCH_DEBOUNCE_COMPLETE (R129). -/
  | baylatchDebounceComplete
  /-- POWER_BUTTON_HOLD (R130). -/
  | powerButtonHold
  /-- HOLD_10S_EXPIRY (R131). -/
  | hold10sExpiry
  /-- FAN_EVALUATION (R140). -/
  | fanEvaluation
  /-- KICK_END (R144). -/
  | kickEnd (f : Fan)
  /-- RETRY_KICK_END (R147). -/
  | retryKickEnd (f : Fan)
  /-- TACH_SILENCE_TIMEOUT (R147). -/
  | tachSilenceTimeout (f : Fan)
  /-- HOST_TEMP_STALE (R139). -/
  | hostTempStale (slot : Fin 4)
  /-- OVERRIDE_EXPIRY (R143). -/
  | overrideExpiry
  /-- BOOT_TIMEOUT (R159). -/
  | bootTimeout
  /-- WAKE_TIMEOUT (R159). -/
  | wakeTimeout
  /-- HALT_TIMER_EXPIRY (R158). -/
  | haltTimerExpiry
  /-- CRITICAL_GRACE_EXPIRY (R163). -/
  | criticalGraceExpiry
  /-- TELEMETRY_PERIOD_EXPIRY (R178). -/
  | telemetryPeriodExpiry
  /-- SERVICE_FRAME_RECEIVED (R184): the bytes on SLRX up to the frame's last. -/
  | serviceFrameReceived (bytes : List Byte)
  /-- SERVICE_FRAME_ERROR (R182): the bytes on SLRX up to the one that ended the frame. -/
  | serviceFrameError (bytes : List Byte)
  /-- SERVICE_GAP_TIMEOUT (R182). -/
  | serviceGapTimeout
  /-- TRANSMIT_START (R187). -/
  | transmitStart
  /-- TRANSMIT_END (R187). -/
  | transmitEnd
  /-- UNKNOWN_REQUEST (R184). -/
  | unknownRequest
  /-- ONLINE, request 0x01 (R156). -/
  | online
  /-- SLEEP, request 0x02 (R157). -/
  | sleep
  /-- POWER_OFF, request 0x03 (R158). -/
  | powerOff
  /-- RESTART_LINK, request 0x04 (R190). -/
  | restartLink
  /-- READ_CHANNELS, request 0x05 (R14). -/
  | readChannels
  /-- READ_PACK, request 0x06 (R58). -/
  | readPack
  /-- READ_ALLOCATION, request 0x07 (R99). -/
  | readAllocation
  /-- READ_FAULTS, request 0x08 (R33). -/
  | readFaults
  /-- CLEAR_FAULTS, request 0x09 (R32, R73, R148). -/
  | clearFaults
  /-- READ_KEYMAP, request 0x0A (R122). -/
  | readKeymap
  /-- READ_TALLY, request 0x0B (R172). -/
  | readTally
  /-- READ_FANS, request 0x0C (R150). -/
  | readFans
  /-- READ_STATUS, request 0x0D (R188). -/
  | readStatus
  /-- LOAD_PROFILE, request 0x10 (R60). -/
  | loadProfile
  /-- LOAD_ADAPTER, request 0x11 (R83). -/
  | loadAdapter
  /-- LOAD_LIMIT, request 0x12 (R18). -/
  | loadLimit
  /-- LOAD_SCHEDULE, request 0x13 (R10). -/
  | loadSchedule
  /-- LOAD_FAN_CURVE, request 0x14 (R136). -/
  | loadFanCurve
  /-- LOAD_POLICY, request 0x15 (R170). -/
  | loadPolicy
  /-- LOAD_KEYROW, request 0x16 (R119). -/
  | loadKeyrow
  /-- LOAD_PASS_FILTER, request 0x17 (R45). -/
  | loadPassFilter
  /-- READ_TABLE, request 0x18 (R189). -/
  | readTable
  /-- RESTORE_DEFAULTS, request 0x19 (R189). -/
  | restoreDefaults
  /-- SET_INPUT_LIMIT, request 0x20 (R84). -/
  | setInputLimit
  /-- SET_EFFICIENCY, request 0x21 (R85). -/
  | setEfficiency
  /-- SET_BOOST, request 0x22 (R86). -/
  | setBoost
  /-- SET_CHARGE_INHIBIT, request 0x23 (R74). -/
  | setChargeInhibit
  /-- SET_BATTERY_THRESHOLDS, request 0x24 (R164). -/
  | setBatteryThresholds
  /-- SET_HOST_TEMPS, request 0x25 (R139). -/
  | setHostTemps
  /-- SET_FAN_OVERRIDE, request 0x26 (R143). -/
  | setFanOverride
  /-- SET_KEY_DEBOUNCE, request 0x27 (R121). -/
  | setKeyDebounce
  /-- SET_SWITCH_DEBOUNCE, request 0x28 (R132). -/
  | setSwitchDebounce
  /-- SET_TELEMETRY, request 0x29 (R179). -/
  | setTelemetry
  /-- RELEASE_BAY, request 0x2A (R57). -/
  | releaseBay
  /-- BAY_CANCEL, request 0x2B (R57). -/
  | bayCancel
  /-- PASS, the PASS frame at the buffer's head (R46). -/
  | pass
  /-- PACK_REQUEST_TRANSMITTED (R36). -/
  | packRequestTransmitted (p : Pack)
deriving DecidableEq, Repr

end Sys2Proof
end

