-- ==== Sys2Proof/Decode.lean ====
section
/-! DEFINITION. The decoder of command words. The command table gives no row any bits (every row of
spec/opcode_table.json has an empty list of fields and no fixed bits), so no word spells a command (log 32). Request
frames are not command words: they arrive byte by byte (R181 to R184) and stand in the request buffer. -/

namespace Sys2Proof

/-- The command that a word spells by the table's bits: none, for the table gives none (log 32). -/
def decodeTableWord (_nbits _w : Nat) : Option Instr := none

end Sys2Proof
end

