-- ==== Sys2Proof/Machine/Types.lean ====
section
/-! DEFINITION. The state each of the eleven blocks holds (section 0.1), as plain data. -/

namespace Sys2Proof.Machine

/-! ## Values shared by the blocks -/

/-- Something kept once for each pack. -/
structure PerPack (α : Type) where
  a : α
  b : α
deriving DecidableEq, Repr

def PerPack.get {α : Type} (x : PerPack α) : Pack → α
  | .a => x.a
  | .b => x.b

def PerPack.set {α : Type} (x : PerPack α) (p : Pack) (v : α) : PerPack α :=
  match p with
  | .a => { x with a := v }
  | .b => { x with b := v }

def PerPack.map {α β : Type} (f : α → β) (x : PerPack α) : PerPack β :=
  ⟨f x.a, f x.b⟩

/-- Something kept once for each fan. -/
structure PerFan (α : Type) where
  one : α
  two : α
deriving DecidableEq, Repr

def PerFan.get {α : Type} (x : PerFan α) : Fan → α
  | .one => x.one
  | .two => x.two

def PerFan.set {α : Type} (x : PerFan α) (f : Fan) (v : α) : PerFan α :=
  match f with
  | .one => { x with one := v }
  | .two => { x with two := v }

def PerFan.map {α β : Type} (f : α → β) (x : PerFan α) : PerFan β :=
  ⟨f x.one, f x.two⟩

/-- A duration timer (R3): `none` while stopped (it then holds no count), `some n` with `n` tick expiries still to
be counted. At `some 0` its completion is due: the completion is an event of its own (log 2). -/
abbrev Timer := Option Nat

/-- The result codes of section 0.4. -/
inductive ResultCode where
  | ok
  | unknownRequest
  | badLength
  | badArgument
  | notNow
  | busy
  | noPack
  | timeout
  | invalidTable
  | filtered
  | okClamped
deriving DecidableEq, Repr

/-- A whole reply as it stands in the reply queue (R185): the host's tag, the result code, the data, and whether a
pending link-down is tied to it (R157; only ever set on a SLEEP reply). -/
structure Reply where
  tag : Nat
  code : ResultCode
  data : List Byte
  linkDown : Bool
deriving DecidableEq, Repr

/-- A serial receiver (R36, R182): hunting for a sync byte, or inside a frame with the bytes taken since it. -/
inductive Rx where
  | hunting
  | inFrame (taken : List Byte)
deriving DecidableEq, Repr

/-! ## TMB: the timebase (chapter 1) -/

/-- One capture channel (R4). `running` is the condition of FULL; the count is the one the channel was last set to. -/
structure Capture where
  running : Bool
  count : Nat
  reference : Bool
deriving DecidableEq, Repr

structure Tmb where
  /-- The fractional accumulator (R1). -/
  acc : Nat
  /-- The millisecond counter (R2). -/
  ms : Stamp
  /-- The clock periods of the ticks ended since reset (R1's "periods since reset"; the model's own count). -/
  clockPeriods : Nat
  /-- The capture channels of FTACH1 and FTACH2 (R4). -/
  capture : PerFan Capture
deriving DecidableEq, Repr

/-! ## SWS: the sweep sequencer (chapter 1) -/

/-- An entry of the slow-channel schedule (section 1.5). -/
structure SlotEntry where
  enable : Bool
  rep : Nat
  off : Nat
deriving DecidableEq, Repr

/-- An entry of the latest-sample table: the valid flag and the sample record (R8, R13). -/
structure Sample where
  valid : Bool
  clamped : Bool
  value : Int
  sweep : Nat
  stamp : Stamp
deriving DecidableEq, Repr

/-- The sweep in progress (R8, R9): its number, the slow channel chosen for its slot, how many of the fast
channels 0..7 are converted, whether the slow one is, and the counter value at its start. -/
structure Sweep where
  number : Nat
  slot : Option (Fin 8)
  fast : Nat
  slotDone : Bool
  stamp : Stamp
deriving DecidableEq, Repr

structure Sws where
  countdown : Nat
  counter : Nat
  /-- The schedule; entry `i` is channel `8 + i`. -/
  schedule : Table SlotEntry 8
  latest : Table Sample 16
  sweep : Option Sweep
deriving DecidableEq, Repr

/-! ## LMT: the limit monitor (chapter 2) -/

/-- The protective actions, in the order of R17. -/
inductive Action where
  | none
  | chargeStopA
  | chargeStopB
  | chargeStopAll
  | isolateA
  | isolateB
  | inputOpen
  | fanFull
  | throttle
  | systemOff
deriving DecidableEq, Repr

/-- A limit entry (R17); an absent limit is `none`. -/
structure LimitEntry where
  enable : Bool
  warnLow : Option Int
  warnHigh : Option Int
  faultLow : Option Int
  faultHigh : Option Int
  hyst : Int
  deglitch : Nat
  action : Action
  reportWarning : Bool
  reportFault : Bool
deriving DecidableEq, Repr

inductive LimitState where
  | normal
  | warning
  | fault
  | held
deriving DecidableEq, Repr

/-- The limit state, the three runs (section 2.2) and the trip record (R26) of one channel. -/
structure LimitChan where
  state : LimitState
  warnRun : Nat
  faultRun : Nat
  returnRun : Nat
  tripCount : Nat
  tripValue : Option Int
  tripStamp : Option Stamp
deriving DecidableEq, Repr

structure Lmt where
  entries : Table LimitEntry 16
  chans : Table LimitChan 16
  /-- The action set (R27): the present actions, in the order of R17. -/
  actionSet : List Action
deriving DecidableEq, Repr

/-! ## PPT: the pack ports (chapter 3) -/

/-- The alarm flags of a pack (R37, R43). -/
structure Alarms where
  overCharge : Bool
  overTemp : Bool
  terminateCharge : Bool
  terminateDischarge : Bool
  cellImbalance : Bool
deriving DecidableEq, Repr

/-- A pack record, as held (R37), with its receive stamp. -/
structure PackRecord where
  profile : Nat
  cells : Nat
  voltage : Nat
  current : Int
  temp : Int
  soc : Nat
  remaining : Nat
  full : Nat
  reqVoltage : Nat
  reqCurrent : Nat
  maxDischarge : Nat
  alarms : Alarms
  stamp : Stamp
deriving DecidableEq, Repr

inductive PortState where
  | absent
  | identifying
  | active
  | stale
  | unresponsive
deriving DecidableEq, Repr

inductive SlotState where
  | idle
  | waiting
  | resolved
deriving DecidableEq, Repr

/-- The pass-through slot of a port (section 3.4): its state, discard mark, the host's tag, the result a RESOLVED
slot holds, and the 100 ms pass timer. -/
structure PassSlot where
  state : SlotState
  discard : Bool
  tag : Nat
  held : Option Reply
  timer : Timer
deriving DecidableEq, Repr

structure Port where
  state : PortState
  /-- The presence line, `true` for active. -/
  presence : Bool
  record : Option PackRecord
  frameErrors : Nat
  presenceTimer : Timer
  silenceTimer : Timer
  staleTimer : Timer
  rx : Rx
  slot : PassSlot
  /-- The payload of a PACK_REQUEST that is due and not yet begun (R36). -/
  requestDue : Option (List Byte)
  /-- The PACK_REQUEST frame being transmitted on the pack line (R36). -/
  tx : Option (List Byte)
deriving DecidableEq, Repr

inductive Verdict where
  | forward
  | readOnly
  | refuse
deriving DecidableEq, Repr

/-- A non-empty entry of the pass filter table (R45). -/
structure FilterEntry where
  low : Nat
  high : Nat
  verdict : Verdict
deriving DecidableEq, Repr

structure Ppt where
  ports : PerPack Port
  filter : Table (Option FilterEntry) 8
deriving DecidableEq, Repr

/-! ## PPC: the power path controller (chapters 3, 4 and 5) -/

/-- Path modes, in the order of R183's codes. -/
inductive PathMode where
  | opened
  | dischargeOnly
  | full
deriving DecidableEq, Repr

/-- A pack's path mode and its discharge-terminated unsupplied mark (R52). -/
structure Path where
  mode : PathMode
  unsupplied : Bool
deriving DecidableEq, Repr

inductive BayState where
  | latched
  | releasing
  | released
deriving DecidableEq, Repr

/-- The bay release of pack B (section 3.6). -/
structure Bay where
  state : BayState
  pending : Bool
  quiet : Nat
  refused : Bool
deriving DecidableEq, Repr

/-- One temperature band of a profile (R59). -/
structure Band where
  chargeLimit : Nat
  cellVoltage : Nat
  dischargeLimit : Nat
deriving DecidableEq, Repr

/-- A charge profile (R59): `bands` has 1 to 6 entries and `bounds` one entry less. -/
structure Profile where
  bounds : List Int
  bands : List Band
  hyst : Nat
  preThreshold : Nat
  preCurrent : Nat
  taperCurrent : Nat
  rechargeDelta : Nat
  rechargeSoc : Nat
  fastLimit : Nat
deriving DecidableEq, Repr

inductive Phase where
  | none
  | hold
  | precharge
  | bulk
  | taper
  | done
deriving DecidableEq, Repr

/-- The two charge timers (section 4.4). -/
inductive ChargeTimer where
  | precharge
  | fast
deriving DecidableEq, Repr

/-- The charge state of one pack (chapter 4). -/
structure Charge where
  /-- The band in force; `none` for UNKNOWN (R62). -/
  band : Option Nat
  phase : Phase
  taperCount : Nat
  doneCount : Nat
  doneMemory : Bool
  preTimer : Nat
  fastTimer : Nat
  /-- The timeout latch, naming the timer that fired (R72). -/
  latch : Option ChargeTimer
  /-- The timer whose count reached its limit at a counted tick and whose firing is still to be taken (log 19). -/
  due : Option ChargeTimer
  inhibit : Bool
  /-- The profile id used at the previous phase step, and whether that profile was replaced since (R63). -/
  lastProfile : Option Nat
  profileFresh : Bool
  /-- The fast-charge time limit, in minutes, of the profile used at the previous phase step (R60, R72; log 35). -/
  fastLimit : Nat
  cap : Nat
  vChg : Nat
  iDmax : Nat
  supplyCap : Nat
deriving DecidableEq, Repr

inductive AdapterState where
  | absent
  | pendingId
  | identified
  | unknown
deriving DecidableEq, Repr

/-- The adapter record (R79). The class is 0xFF while none has been found. -/
structure Adapter where
  state : AdapterState
  run : Nat
  attachStamp : Option Stamp
  cls : Nat
  aid : Option Int
  iAL : Nat
deriving DecidableEq, Repr

/-- A non-empty entry of the adapter table (R83). -/
structure AdapterEntry where
  low : Nat
  high : Nat
  rating : Nat
deriving DecidableEq, Repr

/-- A pack's setpoints in force at the regulator (R97). -/
structure Setpoints where
  chargeI : Nat
  chargeV : Nat
  boost : Nat
deriving DecidableEq, Repr

inductive AllocMode where
  | adapter
  | batteryOnly
deriving DecidableEq, Repr

/-- A pack's figures in the allocation result (R97, R99). -/
structure PackFigures where
  chargeEligible : Bool
  boostEligible : Bool
  c : Nat
  b : Nat
deriving DecidableEq, Repr

/-- The figures of the latest allocation pass (R97); the setpoints and I_LIM in force are kept beside it. -/
structure Alloc where
  made : Bool
  sweep : Nat
  stamp : Stamp
  mode : AllocMode
  iEff : Nat
  pIn : Nat
  pUse : Nat
  pSys : Nat
  h : Int
  u : Nat
  packs : PerPack PackFigures
deriving DecidableEq, Repr

inductive ThrottleState where
  | released
  | pending
  | asserted
  | releasing
deriving DecidableEq, Repr

structure Throttle where
  state : ThrottleState
  count : Nat
deriving DecidableEq, Repr

structure Ppc where
  adapter : Adapter
  adapterTable : Table (Option AdapterEntry) 8
  /-- The adapter switch (R29): `true` while INPUT_OPEN holds it open. -/
  adapterSwitchOpen : Bool
  profiles : Table Profile 4
  charge : PerPack Charge
  path : PerPack Path
  bay : Bay
  iHL : Nat
  eta : Nat
  boostOn : Bool
  boostFloor : Nat
  setpoints : PerPack Setpoints
  iLim : Nat
  alloc : Alloc
  throttle : Throttle
  /-- The LTR output (R96), `true` for asserted. -/
  ltr : Bool
deriving DecidableEq, Repr

/-! ## KMS: the keyboard matrix scanner (chapter 6) -/

inductive KeyState where
  | up
  | pressDebounce
  | down
  | releaseDebounce
  | ghostHeld
  | blocked
deriving DecidableEq, Repr

inductive Layer where
  | base
  | fn
deriving DecidableEq, Repr

/-- A position record (section 6.2). -/
structure PosRec where
  state : KeyState
  count : Nat
  code : Nat
  layer : Layer
  silent : Bool
  announced : Bool
deriving DecidableEq, Repr

/-- A translation entry (R109). -/
structure KeyEntry where
  base : Nat
  fn : Nat
  fnKey : Bool
  wake : Bool
  isolated : Bool
deriving DecidableEq, Repr

structure Kms where
  positions : Table PosRec 144
  translation : Table KeyEntry 144
  pressCount : Nat
  releaseCount : Nat
  /-- The scan countdown (R102); `none` while the scanner is stopped (R103). -/
  countdown : Option Nat
  firstPass : Bool
  gated : Bool
  /-- A gate exit has started the scanner since the latest tick expiry, so that a pass falling in the same tick is made
  (R104). -/
  exited : Bool
deriving DecidableEq, Repr

/-! ## SWI: the switch inputs (chapter 7) -/

/-- One switch input (R124). A level is `true` for the level listed second in section 7.1. -/
structure Input where
  time : Nat
  level : Option Bool
  run : Nat
  reference : Option Bool
  /-- A completion (R125) or initial take (R126) has been reached and is still to be taken (log 5). -/
  due : Bool
deriving DecidableEq, Repr

inductive HoldStage where
  | idle
  | counting
  | reported
  | spent
deriving DecidableEq, Repr

structure Swi where
  lid : Input
  hinge : Input
  pwrbtn : Input
  baylatch : Input
  holdStage : HoldStage
  holdCount : Nat
  holdRunning : Bool
deriving DecidableEq, Repr

/-! ## FNC: the fan controller (chapter 8) -/

/-- A source mask (R134), in the bit order of section 11.2. -/
structure Sources where
  tch : Bool
  tsk : Bool
  tfz : Bool
  h0 : Bool
  h1 : Bool
  h2 : Bool
  h3 : Bool
deriving DecidableEq, Repr

/-- A fan curve (R134); the point count is the length of `points`. -/
structure Curve where
  sources : Sources
  points : List (Int × Nat)
  hyst : Nat
  minDuty : Nat
  failsafe : Nat
deriving DecidableEq, Repr

/-- A fan configuration (R135). -/
structure FanConfig where
  ppr : Nat
  stallCheck : Bool
deriving DecidableEq, Repr

/-- The curve sets (section 8.1), in code order. -/
inductive CurveSet where
  | openSet
  | closed
  | tablet
deriving DecidableEq, Repr

inductive FanMode where
  | off
  | kick
  | running
  | stallRetry
  | stallLockout
deriving DecidableEq, Repr

/-- One fan (sections 8.4 to 8.6). The drive duty is fixed by state and demand (R144). -/
structure FanState where
  state : FanMode
  demand : Nat
  curveDuty : Nat
  governing : Option Int
  reference : Int
  fresh : Bool
  kickTimer : Timer
  retries : Nat
  interval : Option Nat
  silent : Bool
  silenceTimer : Timer
deriving DecidableEq, Repr

/-- A host temperature slot (section 8.3). -/
structure HostSlot where
  value : Int
  refreshed : Bool
  timer : Timer
deriving DecidableEq, Repr

structure Fnc where
  /-- The six curves, by fan and by set code. -/
  curves : PerFan (Table Curve 3)
  configs : PerFan FanConfig
  set : CurveSet
  fans : PerFan FanState
  slots : Table HostSlot 4
  /-- The override duty; 0 while none is in force (R143). -/
  overrideDuty : Nat
  overrideTimer : Timer
  evalCountdown : Nat
deriving DecidableEq, Repr

/-! ## SSC: the system state controller (chapter 9) -/

inductive SysState where
  | off
  | booting
  | run
  | halting
  | standby
  | waking
deriving DecidableEq, Repr

/-- The part modes (0.2), in the order of their codes. -/
inductive PartMode where
  | full
  | quiet
deriving DecidableEq, Repr

/-- The start causes (R166). -/
inductive StartCause where
  | powerOn
  | supplyDip
  | resetPin
deriving DecidableEq, Repr

/-- The causes of a forcing (section 9.5). -/
inductive ForceCause where
  | button
  | fault
  | critical
deriving DecidableEq, Repr

structure Ssc where
  state : SysState
  sysen : Bool
  wake : Bool
  bootTimer : Timer
  wakeTimer : Timer
  haltTimer : Timer
  graceTimer : Timer
  startCause : StartCause
  wakeCause : Nat
  lowThreshold : Nat
  criticalThreshold : Nat
  /-- The combined SOC (R161); `none` for unknown. -/
  combinedSoc : Option Nat
  low : Bool
  critical : Bool
  mode : PartMode
deriving DecidableEq, Repr

/-! ## EVR: the event router (chapter 10) -/

/-- The event codes of R169, in code order from 0x01. -/
inductive EventCode where
  | adapterAttach
  | adapterDetach
  | adapterClass
  | packPresent
  | packRemoved
  | packLink
  | packAlarm
  | chargePhase
  | chargeTimeout
  | throttleOn
  | throttleOff
  | bayRelease
  | bayRefused
  | limitWarning
  | limitFault
  | limitHeld
  | limitCleared
  | lid
  | tablet
  | powerButton
  | powerButtonHold
  | keyWake
  | fanStall
  | fanLockout
  | fanRecovered
  | batteryLow
  | batteryCritical
  | stateChange
  | bootTimeout
  | wakeTimeout
  | forcedOff
  | gap
  | passLate
  | hostTempStale
  | linkError
deriving DecidableEq, Repr

/-- The classes of the policy table, in the order of R183's codes. -/
inductive PolicyClass where
  | none
  | normal
  | urgent
deriving DecidableEq, Repr

/-- A policy entry (R169). -/
structure Policy where
  cls : PolicyClass
  wake : Bool
  start : Bool
deriving DecidableEq, Repr

/-- An event record (R168). -/
structure EventRecord where
  code : EventCode
  source : Nat
  count : Nat
  wake : Bool
  start : Bool
  acted : Bool
  stamp : Stamp
  value : Int
deriving DecidableEq, Repr

/-- A key record (R114, R115). -/
structure KeyRecord where
  position : Fin 144
  code : Nat
  release : Bool
  layer : Layer
  synthetic : Bool
  stamp : Stamp
deriving DecidableEq, Repr

/-- What the normal queue holds (section 10.5). -/
inductive NormalRecord where
  | event (r : EventRecord)
  | key (r : KeyRecord)
deriving DecidableEq, Repr

/-- The states of the normal queue: OPEN and OVERFLOWED. -/
inductive NormalState where
  | opened
  | overflowed
deriving DecidableEq, Repr

/-- The bulk slots (R177), in rotation order. -/
inductive BulkSlot where
  | relayA
  | relayB
  | telemetry
deriving DecidableEq, Repr

structure Evr where
  /-- The policy table, indexed by code less 1. GAP's place holds a constant that no request can name (R170). -/
  policy : Table Policy 35
  /-- The tallies, indexed by code less 1 (R172). -/
  tally : Table Nat 35
  urgent : List EventRecord
  normal : List NormalRecord
  normalState : NormalState
  discarded : Nat
  keyMark : Bool
  relayA : Option (List Byte)
  relayB : Option (List Byte)
  telemetry : Option (List Byte)
  rotation : BulkSlot
  period : Nat
  periodTimer : Timer
  due : Bool
deriving DecidableEq, Repr

/-! ## SLC: the service link controller (chapter 11) -/

/-- The kinds of frame that the request buffer holds (R184). -/
inductive RequestKind where
  | request
  | pass
deriving DecidableEq, Repr

/-- A frame in the request buffer, with its tag (R184). -/
structure Request where
  kind : RequestKind
  tag : Nat
  payload : List Byte
deriving DecidableEq, Repr

/-- What the transmitter is sending (R187): the reply at the head of the reply queue, or an item taken from EVR. -/
inductive TxSource where
  | reply
  | urgent
  | normal
  | bulk
deriving DecidableEq, Repr

/-- A transmission: its source and the frames that have not wholly left, the first being on the line. -/
structure Tx where
  source : TxSource
  frames : List (List Byte)
deriving DecidableEq, Repr

structure Slc where
  rx : Rx
  gapTimer : Timer
  requests : List Request
  replies : List Reply
  linkUp : Bool
  checkErrors : Nat
  framingErrors : Nat
  overrun : Bool
  tx : Option Tx
deriving DecidableEq, Repr

end Sys2Proof.Machine
end

