-- ==== Sys2Proof/Machine/Flags.lean ====
section
/-! DEFINITION. Codes and sets of flags: the number each enumerated value is sent as (R183), event codes (R169),
result codes (0.4), and the sets of flags that travel in one byte. -/

namespace Sys2Proof.Machine

/-- A set of flags as one number, bit 0 for the first listed (R183). -/
def flagSet : List Bool → Nat
  | [] => 0
  | b :: bs => b.toNat + 2 * flagSet bs

/-- Section 0.4. -/
def ResultCode.num : ResultCode → Nat
  | .ok => 0
  | .unknownRequest => 1
  | .badLength => 2
  | .badArgument => 3
  | .notNow => 4
  | .busy => 5
  | .noPack => 6
  | .timeout => 7
  | .invalidTable => 8
  | .filtered => 9
  | .okClamped => 10

/-- A clamped setting is answered OK_CLAMPED, any other OK (0.3). -/
def okIf (clamped : Bool) : ResultCode := if clamped then .okClamped else .ok

/-- The source number of a pack's events (R41). -/
def packNum : Pack → Nat
  | .a => 0
  | .b => 1

/-- The number of a fan (R136, R147). -/
def fanNum : Fan → Nat
  | .one => 1
  | .two => 2

def otherPack : Pack → Pack
  | .a => .b
  | .b => .a

/-- The actions of R17, in order. -/
def allActions : List Action :=
  [.none, .chargeStopA, .chargeStopB, .chargeStopAll, .isolateA, .isolateB, .inputOpen, .fanFull, .throttle,
    .systemOff]

def Action.num : Action → Nat
  | .none => 0
  | .chargeStopA => 1
  | .chargeStopB => 2
  | .chargeStopAll => 3
  | .isolateA => 4
  | .isolateB => 5
  | .inputOpen => 6
  | .fanFull => 7
  | .throttle => 8
  | .systemOff => 9

/-- DESIGN CHOICE (log 11): no rule gives the limit states codes or lists the four together; the order is that of their
severity. -/
def LimitState.num : LimitState → Nat
  | .normal => 0
  | .warning => 1
  | .fault => 2
  | .held => 3

/-- Section 3.2. -/
def PortState.num : PortState → Nat
  | .absent => 0
  | .identifying => 1
  | .active => 2
  | .stale => 3
  | .unresponsive => 4

def SlotState.num : SlotState → Nat
  | .idle => 0
  | .waiting => 1
  | .resolved => 2

def Verdict.num : Verdict → Nat
  | .forward => 0
  | .readOnly => 1
  | .refuse => 2

def PathMode.num : PathMode → Nat
  | .opened => 0
  | .dischargeOnly => 1
  | .full => 2

/-- Section 3.6. -/
def BayState.num : BayState → Nat
  | .latched => 0
  | .releasing => 1
  | .released => 2

/-- Section 4.3. -/
def Phase.num : Phase → Nat
  | .none => 0
  | .hold => 1
  | .precharge => 2
  | .bulk => 3
  | .taper => 4
  | .done => 5

/-- The value of CHARGE_TIMEOUT (R72). -/
def ChargeTimer.num : ChargeTimer → Nat
  | .precharge => 1
  | .fast => 2

def AdapterState.num : AdapterState → Nat
  | .absent => 0
  | .pendingId => 1
  | .identified => 2
  | .unknown => 3

def AllocMode.num : AllocMode → Nat
  | .adapter => 0
  | .batteryOnly => 1

/-- Section 5.4. -/
def ThrottleState.num : ThrottleState → Nat
  | .released => 0
  | .pending => 1
  | .asserted => 2
  | .releasing => 3

def HoldStage.num : HoldStage → Nat
  | .idle => 0
  | .counting => 1
  | .reported => 2
  | .spent => 3

/-- Section 8.1. -/
def CurveSet.num : CurveSet → Nat
  | .openSet => 0
  | .closed => 1
  | .tablet => 2

/-- The place of a curve set's curve in the table. -/
def CurveSet.idx : CurveSet → Fin 3
  | .openSet => 0
  | .closed => 1
  | .tablet => 2

/-- Section 8.5. -/
def FanMode.num : FanMode → Nat
  | .off => 0
  | .kick => 1
  | .running => 2
  | .stallRetry => 3
  | .stallLockout => 4

/-- Section 9.1. -/
def SysState.num : SysState → Nat
  | .off => 0
  | .booting => 1
  | .run => 2
  | .halting => 3
  | .standby => 4
  | .waking => 5

def PartMode.num : PartMode → Nat
  | .full => 0
  | .quiet => 1

/-- R166. -/
def StartCause.num : StartCause → Nat
  | .powerOn => 1
  | .supplyDip => 2
  | .resetPin => 3

/-- Section 9.5. -/
def ForceCause.num : ForceCause → Nat
  | .button => 1
  | .fault => 2
  | .critical => 3

def PolicyClass.num : PolicyClass → Nat
  | .none => 0
  | .normal => 1
  | .urgent => 2

/-- The event codes in code order from 0x01 (R169). -/
def allCodes : List EventCode :=
  [.adapterAttach, .adapterDetach, .adapterClass, .packPresent, .packRemoved, .packLink, .packAlarm, .chargePhase,
    .chargeTimeout, .throttleOn, .throttleOff, .bayRelease, .bayRefused, .limitWarning, .limitFault, .limitHeld,
    .limitCleared, .lid, .tablet, .powerButton, .powerButtonHold, .keyWake, .fanStall, .fanLockout, .fanRecovered,
    .batteryLow, .batteryCritical, .stateChange, .bootTimeout, .wakeTimeout, .forcedOff, .gap, .passLate,
    .hostTempStale, .linkError]

/-- A code's place in the policy and tally tables: its number less 1. -/
def EventCode.idx : EventCode → Fin 35
  | .adapterAttach => 0
  | .adapterDetach => 1
  | .adapterClass => 2
  | .packPresent => 3
  | .packRemoved => 4
  | .packLink => 5
  | .packAlarm => 6
  | .chargePhase => 7
  | .chargeTimeout => 8
  | .throttleOn => 9
  | .throttleOff => 10
  | .bayRelease => 11
  | .bayRefused => 12
  | .limitWarning => 13
  | .limitFault => 14
  | .limitHeld => 15
  | .limitCleared => 16
  | .lid => 17
  | .tablet => 18
  | .powerButton => 19
  | .powerButtonHold => 20
  | .keyWake => 21
  | .fanStall => 22
  | .fanLockout => 23
  | .fanRecovered => 24
  | .batteryLow => 25
  | .batteryCritical => 26
  | .stateChange => 27
  | .bootTimeout => 28
  | .wakeTimeout => 29
  | .forcedOff => 30
  | .gap => 31
  | .passLate => 32
  | .hostTempStale => 33
  | .linkError => 34

/-- The event code's number, 0x01..0x23 (R169). -/
def EventCode.num (c : EventCode) : Nat := c.idx.val + 1

/-- The codes on which START may be set (R169, R170). -/
def EventCode.mayStart : EventCode → Bool
  | .powerButton | .lid | .adapterAttach | .keyWake => true
  | _ => false

/-- The alarm flags in listed order (R37). -/
def Alarms.flags (a : Alarms) : List Bool :=
  [a.overCharge, a.overTemp, a.terminateCharge, a.terminateDischarge, a.cellImbalance]

/-- The sum of the weights of the flags set: OVER_CHARGE 1 to CELL_IMBALANCE 16 (R43). -/
def Alarms.weight (a : Alarms) : Nat := flagSet a.flags

/-- The flags set in `new` and not in `old` (R43). -/
def Alarms.risen (old new : Alarms) : Alarms :=
  { overCharge := new.overCharge && !old.overCharge
    overTemp := new.overTemp && !old.overTemp
    terminateCharge := new.terminateCharge && !old.terminateCharge
    terminateDischarge := new.terminateDischarge && !old.terminateDischarge
    cellImbalance := new.cellImbalance && !old.cellImbalance }

/-- No flag set: what an empty record carries (R43, R52). -/
def Alarms.clear : Alarms := ⟨false, false, false, false, false⟩

/-- The alarm flags of a telemetry byte: bit 0 OVER_CHARGE to bit 4 CELL_IMBALANCE, bits 5 to 7 not taken
(section 11.2). -/
def Alarms.ofByte (b : Byte) : Alarms :=
  ⟨b.getLsbD 0, b.getLsbD 1, b.getLsbD 2, b.getLsbD 3, b.getLsbD 4⟩

/-- The seven sources of a mask in bit order (section 11.2). -/
def Sources.flags (m : Sources) : List Bool := [m.tch, m.tsk, m.tfz, m.h0, m.h1, m.h2, m.h3]

/-- A source mask from its byte; bit 7 names nothing (section 11.2). -/
def Sources.ofByte (b : Byte) : Sources :=
  ⟨b.getLsbD 0, b.getLsbD 1, b.getLsbD 2, b.getLsbD 3, b.getLsbD 4, b.getLsbD 5, b.getLsbD 6⟩

/-- A count of errors or occurrences that saturates at 255 (0.3). -/
def sat255 (n : Nat) : Nat := if n < 255 then n + 1 else 255

end Sys2Proof.Machine
end

