-- ==== Sys2Proof/Machine/Defaults.lean ====
section
/-! DEFINITION. The default content of every table and the reset state of every block, as the reset rule of each
chapter gives them (R15, R34, R35, R45, R57, R58, R61, R78, R83, R100, R109, R123, R124, R133, R137, R151, R167,
R169, R180, R191). -/

namespace Sys2Proof.Machine

/-! ## Chapter 1 -/

/-- The default schedule (section 1.5): every channel on, r 8, o 0 to 7. -/
def defaultSchedule : Table SlotEntry 8 := Table.ofFn fun i => ⟨true, 8, i.val⟩

/-- A clear entry of the latest-sample table (R13). -/
def noSample : Sample := ⟨false, false, 0, 0, 0⟩

/-- A capture channel in the QUIET condition (R4). -/
def captureStopped : Capture := ⟨false, 0, false⟩

/-- A capture channel at the entry to FULL (R4). -/
def captureStarted : Capture := ⟨true, 0, false⟩

def resetTmb : Tmb := ⟨0, 0, 0, ⟨captureStopped, captureStopped⟩⟩

def resetSws : Sws := ⟨1, 0, defaultSchedule, Table.replicate 16 noSample, none⟩

/-! ## Chapter 2 -/

/-- A default entry: enabled, hysteresis 20, deglitch 3, both reports on (R34). -/
def defaultLimit (warnLow warnHigh faultLow faultHigh : Option Int) (a : Action) : LimitEntry :=
  ⟨true, warnLow, warnHigh, faultLow, faultHigh, 20, 3, a, true, true⟩

/-- The default limit table (R34). -/
def defaultLimits : Table LimitEntry 16 :=
  Table.ofFn fun ch =>
    if ch = 0 then defaultLimit none none none (some 22000) .inputOpen
    else if ch = 2 then defaultLimit none none (some 5500) none .systemOff
    else if ch = 8 then defaultLimit none (some 500) none (some 600) .chargeStopA
    else if ch = 9 then defaultLimit none (some 500) none (some 600) .chargeStopB
    else if ch = 10 then defaultLimit none (some 950) none (some 1100) .fanFull
    else if ch = 11 then defaultLimit none (some 480) none (some 550) .throttle
    else if ch = 14 then defaultLimit (some 3000) none none none .none
    else defaultLimit none none none none .none

/-- A limit channel after reset (R35). -/
def resetChan : LimitChan := ⟨.normal, 0, 0, 0, 0, none, none⟩

def resetLmt : Lmt := ⟨defaultLimits, Table.replicate 16 resetChan, []⟩

/-! ## Chapter 3 -/

/-- The default pass filter (R45): entry 0 refuses 0x80..0xFF, the others are empty. -/
def defaultFilter : Table (Option FilterEntry) 8 :=
  Table.ofFn fun i => if i = 0 then some ⟨0x80, 0xFF, .refuse⟩ else none

/-- An IDLE slot (R58). -/
def resetSlot : PassSlot := ⟨.idle, false, 0, none, none⟩

/-- A port after reset (R58): IDENTIFYING with its 3 s silence timer when the presence line is active, ABSENT
otherwise. -/
def resetPort (presence : Bool) : Port where
  state := if presence then .identifying else .absent
  presence := presence
  record := none
  frameErrors := 0
  presenceTimer := none
  silenceTimer := if presence then some 3000 else none
  staleTimer := none
  rx := .hunting
  slot := resetSlot
  requestDue := none
  tx := none

def resetPpt (prsA prsB : Bool) : Ppt := ⟨⟨resetPort prsA, resetPort prsB⟩, defaultFilter⟩

/-- The bay after reset (R57): RELEASED until SWI takes its initial BAYLATCH level. DESIGN CHOICE (log 38): the refusal mark
of R54, whose reset value no rule gives, is clear. -/
def resetBay : Bay := ⟨.released, false, 0, false⟩

/-! ## Chapter 4 -/

/-- The default profile (R61). -/
def defaultProfile : Profile where
  bounds := [0, 450]
  bands := [⟨0, 4200, 3000⟩, ⟨2000, 4200, 6000⟩, ⟨0, 4100, 3000⟩]
  hyst := 20
  preThreshold := 3000
  preCurrent := 256
  taperCurrent := 256
  rechargeDelta := 100
  rechargeSoc := 95
  fastLimit := 300

def defaultProfiles : Table Profile 4 := Table.replicate 4 defaultProfile

/-- A pack's charge state after reset (R78); the fast-charge limit, which no rule gives and a phase step writes before it is
read, is that of the default profile (log 35). -/
def resetCharge : Charge where
  band := none
  phase := .none
  taperCount := 0
  doneCount := 0
  doneMemory := false
  preTimer := 0
  fastTimer := 0
  latch := none
  due := none
  inhibit := false
  lastProfile := none
  profileFresh := false
  fastLimit := 300
  cap := 0
  vChg := 0
  iDmax := 0
  supplyCap := 0

/-! ## Chapter 5 -/

/-- The record of an absent adapter (R79). -/
def noAdapter : Adapter := ⟨.absent, 0, none, 0xFF, none, 0⟩

/-- The default adapter table (R83). -/
def defaultAdapters : Table (Option AdapterEntry) 8 :=
  Table.ofFn fun i =>
    if i = 0 then some ⟨1200, 1500, 12000⟩ else if i = 1 then some ⟨700, 900, 6000⟩ else none

def noSetpoints : Setpoints := ⟨0, 0, 0⟩

def noFigures : PackFigures := ⟨false, false, 0, 0⟩

/-- The allocation result before the first pass (R99, R100): the flag clear and all figures 0. -/
def noAlloc : Alloc := ⟨false, 0, 0, .adapter, 0, 0, 0, 0, 0, 0, ⟨noFigures, noFigures⟩⟩

/-- The path mode of a port after reset, pack B's bay being RELEASED (R52). -/
def resetPpc (prsA : Bool) : Ppc where
  adapter := noAdapter
  adapterTable := defaultAdapters
  adapterSwitchOpen := false
  profiles := defaultProfiles
  charge := ⟨resetCharge, resetCharge⟩
  path := ⟨⟨if prsA then .dischargeOnly else .opened, false⟩, ⟨.opened, false⟩⟩
  bay := resetBay
  iHL := 0
  eta := 60
  boostOn := true
  boostFloor := 20
  setpoints := ⟨noSetpoints, noSetpoints⟩
  iLim := 0
  alloc := noAlloc
  throttle := ⟨.released, 0⟩
  ltr := false

/-! ## Chapter 6 -/

/-- A position after reset (R123). -/
def keyUp : PosRec := ⟨.up, 0, 0, .base, false, false⟩

/-- The default translation table (R109): position p reports p + 1 on either layer, all flags off. -/
def defaultTranslation : Table KeyEntry 144 :=
  Table.ofFn fun p => ⟨p.val + 1, p.val + 1, false, false, false⟩

def resetKms : Kms := ⟨Table.replicate 144 keyUp, defaultTranslation, 5, 5, none, true, true, false⟩

/-! ## Chapter 7 -/

/-- A switch input after reset (R126, R133), with its default debounce time (R124). -/
def resetInput (time : Nat) : Input := ⟨time, none, 0, none, false⟩

def resetSwi : Swi :=
  ⟨resetInput 50, resetInput 200, resetInput 30, resetInput 20, .idle, 0, false⟩

/-! ## Chapter 8 -/

/-- The default curve (R137). -/
def defaultCurve : Curve where
  sources := ⟨true, true, true, false, false, false, false⟩
  points := [(400, 0), (550, 350), (700, 700), (850, 1000)]
  hyst := 30
  minDuty := 200
  failsafe := 600

/-- The default fan configuration (R135). -/
def defaultConfig : FanConfig := ⟨2, true⟩

def defaultCurves : PerFan (Table Curve 3) :=
  ⟨Table.replicate 3 defaultCurve, Table.replicate 3 defaultCurve⟩

/-- A fan after reset (R151). -/
def resetFan : FanState := ⟨.off, 0, 0, none, 0, true, none, 0, none, true, none⟩

def resetFnc : Fnc where
  curves := defaultCurves
  configs := ⟨defaultConfig, defaultConfig⟩
  set := .openSet
  fans := ⟨resetFan, resetFan⟩
  slots := Table.replicate 4 ⟨0, false, none⟩
  overrideDuty := 0
  overrideTimer := none
  evalCountdown := 100

/-! ## Chapter 9 -/

def resetSsc (cause : StartCause) : Ssc where
  state := .off
  sysen := false
  wake := false
  bootTimer := none
  wakeTimer := none
  haltTimer := none
  graceTimer := none
  startCause := cause
  wakeCause := 0
  lowThreshold := 10
  criticalThreshold := 4
  combinedSoc := none
  low := false
  critical := false
  mode := .quiet

/-! ## Chapter 10 -/

/-- The codes that the default table makes URGENT (R169). -/
def defaultUrgent : EventCode → Bool
  | .chargeTimeout | .throttleOn | .bayRefused | .limitFault | .fanLockout | .batteryCritical | .stateChange
  | .forcedOff => true
  | _ => false

/-- The codes whose WAKE flag the default table sets (R169). -/
def defaultWake : EventCode → Bool
  | .limitFault | .lid | .powerButton | .keyWake | .batteryCritical => true
  | _ => false

/-- The default policy of a code (R169); GAP is always NORMAL with no flags. -/
def defaultPolicyOf (c : EventCode) : Policy where
  cls := if defaultUrgent c then .urgent else if c = .keyWake then .none else .normal
  wake := defaultWake c
  start := c = .powerButton

/-- The default policy table (R169). -/
def defaultPolicy : Table Policy 35 :=
  ⟨allCodes.map defaultPolicyOf, by rw [List.length_map]; rfl⟩

def resetEvr : Evr where
  policy := defaultPolicy
  tally := Table.replicate 35 0
  urgent := []
  normal := []
  normalState := .opened
  discarded := 0
  keyMark := false
  relayA := none
  relayB := none
  telemetry := none
  rotation := .relayA
  period := 0
  periodTimer := none
  due := false

/-! ## Chapter 11 -/

def resetSlc : Slc where
  rx := .hunting
  gapTimer := none
  requests := []
  replies := []
  linkUp := false
  checkErrors := 0
  framingErrors := 0
  overrun := false
  tx := none

end Sys2Proof.Machine
end

