-- ==== Sys2Proof/Machine/State.lean ====
section
/-! DEFINITION. The state of the UB2860: the eleven blocks of section 0.1 and the queue of waiting commands; the
reasons a step could stop; the state after reset. -/

namespace Sys2Proof.Machine

/-- The whole part, as plain data. -/
structure State where
  tmb : Tmb
  sws : Sws
  lmt : Lmt
  ppt : Ppt
  ppc : Ppc
  kms : Kms
  swi : Swi
  fnc : Fnc
  ssc : Ssc
  evr : Evr
  slc : Slc
  /-- The commands that are waiting, first in, first out (log 1). -/
  pending : List Instr
deriving DecidableEq, Repr

/-- The faults of the part: none. The spec stops the part nowhere: refused requests are answered with a result code
(section 0.4), and bad frames are counted (R36, R182). Safe: nothing raises a fault. -/
inductive Fault where
deriving DecidableEq, Repr

/-- The refusals of the model. -/
inductive Refusal where
  /-- Raised only by an arm of `exec` whose command has no meaning yet. Safe: nothing is claimed of it. -/
  | notModelled (mnemonic : String)
deriving DecidableEq, Repr

/-- The state that the reset of section 0.3 leaves, with the start cause it records (R166) and the presence levels
found at it (R58); the command queue is the sender's and is given. -/
def State.afterReset (cause : StartCause) (prsA prsB : Bool) (queue : List Instr) : State where
  tmb := resetTmb
  sws := resetSws
  lmt := resetLmt
  ppt := resetPpt prsA prsB
  ppc := resetPpc prsA
  kms := resetKms
  swi := resetSwi
  fnc := resetFnc
  ssc := resetSsc cause
  evr := resetEvr
  slc := resetSlc
  pending := queue

/-- The part right after a power-on reset with both pack positions empty (DESIGN CHOICE, log 18) and no command
waiting. -/
def State.reset : State := State.afterReset .powerOn false false []

end Sys2Proof.Machine
end

