-- ==== Sys2Proof/Machine/Events.lean ====
section
/-! DEFINITION. The event router's own operations (chapter 10): tallies, placement in the urgent and the normal
queue, and the takes. Each works on EVR's state alone. -/

namespace Sys2Proof.Machine

/-- The policy in force for a code (R169): GAP has no entry, is always NORMAL and is never handed to SSC. -/
def Evr.policyOf (e : Evr) (c : EventCode) : Policy :=
  if c = .gap then ⟨.normal, false, false⟩ else e.policy.get c.idx

/-- One more occurrence of a code (R172). -/
def Evr.addTally (e : Evr) (c : EventCode) : Evr :=
  { e with tally := e.tally.set c.idx (sat255 (e.tally.get c.idx)) }

/-- A queued urgent record with a further occurrence of its code gathered into it (R173): count, source, value and
flags move; timestamp and place stay. -/
def gatherUrgent (old new : EventRecord) : EventRecord :=
  { old with
    count := sat255 old.count
    source := new.source
    value := new.value
    wake := old.wake || new.wake
    start := old.start || new.start
    acted := old.acted || new.acted }

/-- An URGENT event is appended, or gathered into the record of its code (R173). -/
def placeUrgent (q : List EventRecord) (r : EventRecord) : List EventRecord :=
  if q.any (fun x => decide (x.code = r.code)) then
    q.map fun x => if x.code = r.code then gatherUrgent x r else x
  else q ++ [r]

def NormalRecord.isKey : NormalRecord → Bool
  | .key _ => true
  | .event _ => false

/-- Whether an arriving record would be appended to the normal queue (R175). -/
def Evr.accepts (e : Evr) : Bool :=
  match e.normalState with
  | .opened => decide (e.normal.length < 32)
  | .overflowed => false

/-- A record arriving at the normal queue (R175): appended, or discarded and counted. -/
def Evr.placeNormal (e : Evr) (r : NormalRecord) : Evr :=
  match e.normalState with
  | .opened =>
    if e.normal.length < 32 then { e with normal := e.normal ++ [r] }
    else { e with normalState := .overflowed, discarded := 1, keyMark := r.isKey }
  | .overflowed => { e with discarded := sat255 e.discarded, keyMark := e.keyMark || r.isKey }

/-- An event record placed by its class (R168, step 2). -/
def Evr.place (e : Evr) (cls : PolicyClass) (r : EventRecord) : Evr :=
  match cls with
  | .none => e
  | .normal => e.placeNormal (.event r)
  | .urgent => { e with urgent := placeUrgent e.urgent r }

/-- Steps 1 and 2 of R168 for one occurrence, `acted` telling what SSC reports in step 3. -/
def Evr.take (e : Evr) (c : EventCode) (source : Nat) (value : Int) (acted : Bool) (now : Stamp) : Evr :=
  (e.addTally c).place (e.policyOf c).cls
    { code := c
      source := source
      count := 1
      wake := (e.policyOf c).wake
      start := (e.policyOf c).start
      acted := acted
      stamp := now
      value := value }

/-- The GAP record of R176. -/
def gapRecord (e : Evr) (now : Stamp) : EventRecord where
  code := .gap
  source := 0
  count := 1
  wake := false
  start := false
  acted := false
  stamp := now
  value := e.discarded + 256 * e.keyMark.toNat

/-- Whether the take of the head of the normal queue appends a GAP: the queue is OVERFLOWED and the take leaves 16
records or fewer (R176). -/
def Evr.gapDue (e : Evr) : Bool :=
  decide (e.normalState = .overflowed) && decide (e.normal.tail.length ≤ 16)

/-- The normal queue after its head is taken (R176). -/
def Evr.afterNormalTake (e : Evr) (now : Stamp) : Evr :=
  if e.gapDue then
    { (e.addTally .gap) with
      normal := e.normal.tail ++ [.event (gapRecord e now)]
      normalState := .opened
      discarded := 0
      keyMark := false }
  else { e with normal := e.normal.tail }

def Evr.bulk (e : Evr) : BulkSlot → Option (List Byte)
  | .relayA => e.relayA
  | .relayB => e.relayB
  | .telemetry => e.telemetry

/-- A frame placed in a bulk slot replaces what it holds (R177); `none` empties it. -/
def Evr.setBulk (e : Evr) (b : BulkSlot) (f : Option (List Byte)) : Evr :=
  match b with
  | .relayA => { e with relayA := f }
  | .relayB => { e with relayB := f }
  | .telemetry => { e with telemetry := f }

/-- The slot after a slot, wrapping from TELEMETRY to RELAY_A (R177). -/
def BulkSlot.next : BulkSlot → BulkSlot
  | .relayA => .relayB
  | .relayB => .telemetry
  | .telemetry => .relayA

/-- The slot a take from the bulk slots finds: the first non-empty one from the rotation position on (R177). -/
def Evr.bulkPick (e : Evr) : Option BulkSlot :=
  [e.rotation, e.rotation.next, e.rotation.next.next].find? fun b => (e.bulk b).isSome

/-- EVR's part of RESTART_LINK (R180). -/
def Evr.restart (e : Evr) : Evr :=
  { e with
    urgent := []
    normal := []
    normalState := .opened
    discarded := 0
    keyMark := false
    relayA := none
    relayB := none
    telemetry := none
    tally := Table.replicate 35 0
    rotation := .relayA }

/-- The codes that would be URGENT under a policy table, together with those that have a record in the urgent queue:
what check 4 of R170 counts. -/
def urgentCodes (policy : Table Policy 35) (q : List EventRecord) : List EventCode :=
  allCodes.filter fun c =>
    (decide (c ≠ .gap) && decide ((policy.get c.idx).cls = .urgent)) || q.any fun r => decide (r.code = c)

/-- The relay slot of a pack (R44). -/
def relaySlot : Pack → BulkSlot
  | .a => .relayA
  | .b => .relayB

end Sys2Proof.Machine
end

