-- ==== Sys2Proof/Machine/FanOps.lean ====
section
/-! DEFINITION. The fan controller's own operations (chapter 8): a demand acting on a fan, the part-mode changes,
the drive duty, the rpm, the curve reading. -/

namespace Sys2Proof.Machine

/-- The drive duty on the fan's FPWM output (R144). -/
def FanState.drive (f : FanState) : Nat :=
  match f.state with
  | .off | .stallLockout => 0
  | .kick | .stallRetry => 1000
  | .running => f.demand

/-- The rpm figure of a fan (R146). -/
def fanRpm (cfg : FanConfig) (f : FanState) : Nat :=
  if f.silent then 0
  else
    match f.interval with
    | none => 0
    | some i => 60000000 / (i * cfg.ppr)

/-- Entry to RUNNING (R144): in FULL the silence timer is restarted; in QUIET it stays as it is. -/
def FanState.enterRunning (f : FanState) (m : PartMode) : FanState :=
  match m with
  | .full => { f with state := .running, silenceTimer := some 1000 }
  | .quiet => { f with state := .running }

/-- A demand acting on a fan, by its state (R144). -/
def FanState.setDemand (f : FanState) (d : Nat) : FanState :=
  match f.state with
  | .off => if d = 0 then { f with demand := d } else { f with demand := d, state := .kick, kickTimer := some 300 }
  | .running => if d = 0 then { f with demand := d, state := .off } else { f with demand := d }
  | .stallRetry =>
    if d = 0 then { f with demand := d, state := .off, retries := 0, kickTimer := none } else { f with demand := d }
  | .kick | .stallLockout => { f with demand := d }

/-- FAN_FULL joining, at one fan (R145): a fan not in STALL_LOCKOUT is given demand 1000 at once. -/
def FanState.fullDemand (f : FanState) : FanState :=
  if f.state = .stallLockout then f else f.setDemand 1000

/-- Entry to QUIET at the states and demand of one fan (R149). -/
def FanState.quietDrive (f : FanState) (fanFull : Bool) : FanState :=
  if f.state = .stallLockout then f
  else if fanFull then
    match f.state with
    | .off => { f with demand := 1000, state := .kick, kickTimer := some 300 }
    | .stallRetry => { f with demand := 1000, state := .running, retries := 0, kickTimer := none }
    | _ => { f with demand := 1000 }
  else { f with state := .off, demand := 0, retries := 0, kickTimer := none }

/-- Entry to QUIET at one fan (R149): its drive, and its tach record, whatever its state. -/
def FanState.quiet (f : FanState) (fanFull : Bool) : FanState :=
  { (f.quietDrive fanFull) with silenceTimer := none, interval := none, silent := true }

/-- Entry to FULL at one fan (R149). -/
def FanState.wakeFull (f : FanState) : FanState :=
  if f.state = .running then { f with silenceTimer := some 1000 } else f

/-- The curve set that SWI's debounced levels choose (R138); a level not taken counts as open or laptop. -/
def curveSetOf (lid hinge : Option Bool) : CurveSet :=
  if lid = some true then .closed else if hinge = some true then .tablet else .openSet

/-- A curve set coming into force (R138): when it differs from the present one, both fresh-reference marks are set. -/
def Fnc.select (f : Fnc) (set : CurveSet) : Fnc :=
  if set = f.set then f
  else { f with set := set, fans := f.fans.map fun x => { x with fresh := true } }

/-- The curve in use for a fan (R140). -/
def Fnc.curveOf (f : Fnc) (fan : Fan) : Curve := (f.curves.get fan).get f.set.idx

/-- The segment reading of R142 for a reference at or above the first point of the list. -/
def curveSegment (r : Int) : List (Int × Nat) → Nat
  | [] => 0
  | [(_, d)] => d
  | (t, d) :: (t', d') :: rest =>
    if r < t' then ((d : Int) + ((r - t) * ((d' : Int) - d)).tdiv (t' - t)).toNat
    else curveSegment r ((t', d') :: rest)

/-- The curve value at a reference temperature (R142). -/
def curveValue (points : List (Int × Nat)) (r : Int) : Nat :=
  match points with
  | [] => 0
  | (t, d) :: rest => if r ≤ t then d else curveSegment r ((t, d) :: rest)

/-- The reference temperature moved by a governing temperature (R141). -/
def moveReference (fresh : Bool) (r t : Int) (hyst : Nat) : Int :=
  if fresh then t else if t > r then t else if t < r - hyst then t + hyst else r

end Sys2Proof.Machine
end

