-- ==== Sys2Proof/Machine/Frame.lean ====
section
/-! DEFINITION. Frames of the service link and of the pack lines (section 11.1): the check, the receiver's byte
rule, and the bytes of a frame. -/

namespace Sys2Proof.Machine

/-- The check register after one more byte (R181): generator x^16 + x^12 + x^5 + 1, most significant bit first,
nothing reflected. -/
def crcByte (crc : BitVec 16) (b : Byte) : BitVec 16 :=
  (List.range 8).foldl
    (fun c _ => if c.msb then (c <<< 1) ^^^ 0x1021#16 else c <<< 1)
    (crc ^^^ (b.setWidth 16 <<< 8))

/-- The check of R181 over a run of bytes: the register starts at 0xFFFF, with no final inversion. -/
def crc16 (bs : List Byte) : BitVec 16 :=
  bs.foldl crcByte 0xFFFF#16

/-- The sync byte (R181). -/
def syncByte : Byte := 0x5A#8

/-- The bytes of a frame from header to last payload byte. -/
def frameBody (kind tag : Nat) (payload : List Byte) : List Byte :=
  BitVec.ofNat 8 (16 * kind + tag) :: BitVec.ofNat 8 payload.length :: payload

/-- A body with its check, high byte first (R181). -/
def withCheck (body : List Byte) : List Byte :=
  body ++ [(crc16 body >>> 8).setWidth 8, (crc16 body).setWidth 8]

/-- A whole frame as it is transmitted (R181, R183). -/
def frameBytes (kind tag : Nat) (payload : List Byte) : List Byte :=
  syncByte :: withCheck (frameBody kind tag payload)

/-- A received frame whose check matches: kind and tag nibbles, payload, and the bytes from header to check. -/
structure Frame where
  kind : Nat
  tag : Nat
  payload : List Byte
  raw : List Byte
deriving DecidableEq, Repr

/-- What the end of a frame shows (R36, R182). -/
inductive LineEvent where
  | lengthError
  | checkError
  | frame (f : Frame)
deriving DecidableEq, Repr

/-- The judgement of the bytes after the sync byte, once they are as many as the length byte calls for: the check
is compared with the last two bytes (R181, R182). -/
def judgeFrame (taken : List Byte) : LineEvent :=
  let body := taken.dropLast.dropLast
  if withCheck body = taken then
    .frame
      { kind := (taken.getD 0 0).toNat / 16
        tag := (taken.getD 0 0).toNat % 16
        payload := body.drop 2
        raw := taken }
  else .checkError

/-- One byte at a receiver (R36, R182). Outside a frame, bytes are skipped until a sync byte. Inside, a length above
60 ends the frame at the length byte; otherwise the frame ends with its second check byte. R182 says so of the service
link; that a pack line's receiver does the same at a length above 60 is a DESIGN CHOICE (log 34). -/
def rxFeed (rx : Rx) (b : Byte) : Rx × Option LineEvent :=
  match rx with
  | .hunting => if b = syncByte then (.inFrame [], none) else (.hunting, none)
  | .inFrame taken =>
    let taken' := taken ++ [b]
    if taken'.length < 2 then (.inFrame taken', none)
    else if (taken'.getD 1 0).toNat > 60 then (.hunting, some .lengthError)
    else if taken'.length < (taken'.getD 1 0).toNat + 4 then (.inFrame taken', none)
    else (.hunting, some (judgeFrame taken'))

/-- What a hunting receiver makes of a run of bytes: the first event, if it comes exactly at the last byte. -/
def endsFrame : Rx → List Byte → Option LineEvent
  | _, [] => none
  | rx, [b] => (rxFeed rx b).2
  | rx, b :: bs =>
    match (rxFeed rx b).2 with
    | some _ => none
    | none => endsFrame (rxFeed rx b).1 bs

end Sys2Proof.Machine
end

