-- ==== Sys2Proof/Machine/Keys.lean ====
section
/-! DEFINITION. The keyboard scanner's own operations (chapter 6): the ghost rule, the Fn layer, the gate, and what
stopping and starting the scanner do to the positions. -/

namespace Sys2Proof.Machine

/-- The row of a position (section 6.1). -/
def keyRow (p : Fin 144) : Fin 8 := ⟨p.val / 18, by omega⟩

/-- The column of a position (section 6.1). -/
def keyCol (p : Fin 144) : Fin 18 := ⟨p.val % 18, by omega⟩

/-- The position at a row and a column: row × 18 + column. -/
def keyAt (row : Fin 8) (col : Fin 18) : Fin 144 := ⟨row.val * 18 + col.val, by omega⟩

def Kms.isDown (k : Kms) (p : Fin 144) : Bool := decide ((k.positions.get p).state = .down)

def Kms.isolated (k : Kms) (p : Fin 144) : Bool := (k.translation.get p).isolated

/-- The rectangle through `p` with opposite corner at `row`, `col` meets the condition of R107: its three corners are
DOWN and none of the four positions is ISOLATED. -/
def Kms.rectangle (k : Kms) (p : Fin 144) (row : Fin 8) (col : Fin 18) : Bool :=
  decide (row ≠ keyRow p) && decide (col ≠ keyCol p) &&
    k.isDown (keyAt row col) && k.isDown (keyAt (keyRow p) col) && k.isDown (keyAt row (keyCol p)) &&
    !k.isolated p && !k.isolated (keyAt row col) && !k.isolated (keyAt (keyRow p) col) &&
    !k.isolated (keyAt row (keyCol p))

/-- A possible ghost: some rectangle through the position meets the condition (R107). -/
def Kms.possibleGhost (k : Kms) (p : Fin 144) : Bool :=
  (List.finRange 8).any fun row => (List.finRange 18).any fun col => k.rectangle p row col

/-- The Fn layer is active: some DOWN position has FN_KEY on in its present entry (R110). -/
def Kms.fnActive (k : Kms) : Bool :=
  (List.finRange 144).any fun p => k.isDown p && (k.translation.get p).fnKey

def Kms.setPos (k : Kms) (p : Fin 144) (r : PosRec) : Kms :=
  { k with positions := k.positions.set p r }

/-- The record of a position that goes UP: its press is over (R106, R117). -/
def keyReleased (r : PosRec) : PosRec :=
  { r with state := .up, count := 0, code := 0, silent := false, announced := false }

/-- What a stop does to one position record (R117). -/
def keyStopped (r : PosRec) : PosRec :=
  match r.state with
  | .down | .releaseDebounce => keyReleased r
  | _ => { r with state := .up, count := 0 }

/-- A RELEASE record for a position: its stored code and layer (R115). -/
def releaseRecord (p : Fin 144) (r : PosRec) (synthetic : Bool) (now : Stamp) : KeyRecord :=
  ⟨p, r.code, true, r.layer, synthetic, now⟩

/-- Whether a stop makes a RELEASE record for a position (R115, R117). -/
def stopReleases (r : PosRec) : Bool :=
  (decide (r.state = .down) || decide (r.state = .releaseDebounce)) && r.announced

/-- The synthetic RELEASE records a stop makes, in ascending position order (R117). -/
def Kms.stopRecords (k : Kms) (now : Stamp) : List KeyRecord :=
  ((List.finRange 144).filter fun p => stopReleases (k.positions.get p)).map fun p =>
    releaseRecord p (k.positions.get p) true now

/-- KMS after a stop (R103, R117): every position UP, the scanner stopped, the first-pass mark set. -/
def Kms.stopped (k : Kms) : Kms :=
  { k with positions := k.positions.map keyStopped, countdown := none, firstPass := true, exited := false }

/-- KMS when the scanner starts to run again (R103): the countdown is 1, so the next tick expiry brings the pass. -/
def Kms.started (k : Kms) : Kms := { k with countdown := some 1, firstPass := true }

/-- KMS when a gate exit starts the scanner: a pass that falls in the same tick is made as well (R104). -/
def Kms.ungated (k : Kms) : Kms := { k.started with exited := true }

/-- A pass is made: the countdown of a running scanner stands at 0 (R102), or a gate exit was taken before the pass in the
present tick (R104; log 37). -/
def Kms.passDue (k : Kms) : Bool := decide (k.countdown = some 0) || (k.exited && k.countdown.isSome)

/-- Every announced field cleared (R116). -/
def Kms.unannounced (k : Kms) : Kms :=
  { k with positions := k.positions.map fun r => { r with announced := false } }

/-- The keyboard gate from SWI's debounced levels (R104): gated until both are taken, then while LID is closed or
HINGE is in tablet position. -/
def gateOf (lid hinge : Option Bool) : Bool :=
  match lid, hinge with
  | some closed, some tablet => closed || tablet
  | _, _ => true

/-- The scan period of a system state (R102); none where the scanner is stopped. -/
def scanPeriod : SysState → Option Nat
  | .off => none
  | .standby => some 8
  | _ => some 1

end Sys2Proof.Machine
end

