-- ==== Sys2Proof/Machine/Ops.lean ====
section
/-! DEFINITION. The operations that reach across blocks: timers, events on their way through EVR to SSC (R168), moves
of the system state (R152) and of the part mode (R165), forcings (R160), and the reply queue (R185). -/

namespace Sys2Proof.Machine

/-! ## Timers (R3) -/

/-- One counted tick expiry of a timer. A timer at 0 has reached its count: its completion is due and stays due until
it is taken, restarted or stopped (log 2). -/
def timerTick (t : Timer) : Timer := t.map (· - 1)

/-- A timer's completion is due. -/
def timerDue (t : Timer) : Bool := decide (t = some 0)

/-- The remaining count of a timer in ms; 0 when it is not running. -/
def timerLeft (t : Timer) : Nat := t.getD 0

/-! ## The part mode (R165) -/

/-- SSC hands a part mode to TMB (R4), SWS (R7) and FNC (R149); a mode already in force changes nothing. -/
def setMode (m : PartMode) (s : State) : State :=
  if m = s.ssc.mode then s
  else
    match m with
    | .full =>
      { s with
        ssc := { s.ssc with mode := .full }
        tmb := { s.tmb with capture := ⟨captureStarted, captureStarted⟩ }
        sws := { s.sws with countdown := min s.sws.countdown 1 }
        fnc := { s.fnc with
          evalCountdown := min s.fnc.evalCountdown 1
          fans := s.fnc.fans.map FanState.wakeFull } }
    | .quiet =>
      { s with
        ssc := { s.ssc with mode := .quiet }
        tmb := { s.tmb with capture := ⟨captureStopped, captureStopped⟩ }
        fnc := { s.fnc with
          fans := s.fnc.fans.map fun f => f.quiet (s.lmt.actionSet.contains .fanFull) } }

/-- The adapter is present (R79). -/
def Adapter.present (a : Adapter) : Bool := decide (a.state ≠ .absent)

/-! ## Moves of the system state (R152) -/

/-- The lines of a system state (section 9.1): SYSEN off only in OFF, WAKE on only in WAKING. -/
def driveState (new : SysState) (s : State) : State :=
  { s with
    ssc := { s.ssc with
      state := new
      sysen := decide (new ≠ .off)
      wake := decide (new = .waking) } }

/-- A run of key records arriving at the normal queue, in order (R175). -/
def placeKeys (rs : List KeyRecord) (e : Evr) : Evr :=
  rs.foldl (fun e r => e.placeNormal (.key r)) e

/-- A stop of the keyboard: gate entry or OFF entry (R117). -/
def stopKeys (s : State) : State :=
  { s with
    evr := placeKeys (s.kms.stopRecords s.tmb.ms) s.evr
    kms := s.kms.stopped }

/-- The link set DOWN with any pending link-down void (R153, R186). -/
def linkDownVoid (c : Slc) : Slc :=
  { c with linkUp := false, replies := c.replies.map fun r => { r with linkDown := false } }

/-- What entry to OFF does at SSC and SLC (R153). -/
def offEntry (s : State) : State :=
  { s with
    ssc := { s.ssc with bootTimer := none, wakeTimer := none, haltTimer := none }
    slc := linkDownVoid s.slc }

/-- Step 4 of R152 and, for OFF, R153: the move handed to KMS (R102, R103, R117) and to SLC. -/
def handMove (old new : SysState) (s : State) : State :=
  if new = .off then offEntry (stopKeys s)
  else if old = .off then
    if s.kms.gated then s else { s with kms := s.kms.started }
  else if old = .standby ∧ new = .waking then
    { s with kms := { s.kms with countdown := s.kms.countdown.map (min · 1) } }
  else s

/-- Step 5 of R152: the part mode at a move (R165). -/
def moveMode (old new : SysState) (s : State) : State :=
  if new = .off then (if s.ppc.adapter.present then s else setMode .quiet s)
  else if old = .off then setMode .full s
  else s

/-! ## Events (R168) -/

/-- One occurrence tallied and placed (R168, steps 1 and 2), with the ACTED flag as given. -/
def record (c : EventCode) (source : Nat) (value : Int) (acted : Bool) (s : State) : State :=
  { s with evr := s.evr.take c source value acted s.tmb.ms }

/-- A move made on an event that EVR hands to SSC: into BOOTING or WAKING, where a further event moves nothing
(R155), so its STATE_CHANGE is tallied and placed only. -/
def moveOnEvent (new : SysState) (s : State) : State :=
  moveMode s.ssc.state new
    (handMove s.ssc.state new (record .stateChange 0 new.num false (driveState new s)))

/-- An event at the active level of its switch (R154). -/
def qualifies (c : EventCode) (value : Int) : Bool :=
  match c with
  | .powerButton => decide (value = 1)
  | .lid | .tablet => decide (value = 0)
  | _ => true

/-- SSC's decision on an event handed to it (R154, R155): it starts from OFF, it wakes from STANDBY. -/
def sscActs (p : Policy) (c : EventCode) (value : Int) (x : Ssc) : Bool :=
  match x.state with
  | .off => p.start && qualifies c value && !x.critical
  | .standby => p.wake && qualifies c value
  | _ => false

/-- SSC starts (R154) or wakes (R155) the system on an event: the wake cause, the move, then the boot or wake
timer. -/
def sscAct (c : EventCode) (s : State) : State :=
  if s.ssc.state = .off then
    let t := moveOnEvent .booting { s with ssc := { s.ssc with wakeCause := c.num } }
    { t with ssc := { t.ssc with bootTimer := some 30000 } }
  else
    let t := moveOnEvent .waking { s with ssc := { s.ssc with wakeCause := c.num } }
    { t with ssc := { t.ssc with wakeTimer := some 10000 } }

/-- A block sends an event to EVR (R168). ACTED is set in the record when SSC acts within the same event. -/
def route (c : EventCode) (source : Nat) (value : Int) (s : State) : State :=
  if sscActs (s.evr.policyOf c) c value s.ssc then sscAct c (record c source value true s)
  else record c source value false s

/-- A move of the system state (R152) with the event that its rule names before STATE_CHANGE, if any. -/
def moveState (new : SysState) (named : Option (EventCode × Int)) (s : State) : State :=
  let old := s.ssc.state
  let s1 := driveState new s
  let s2 := match named with
    | some (c, v) => route c 0 v s1
    | none => s1
  moveMode old new (handMove old new (route .stateChange 0 new.num s2))

/-- A forcing (R160): outside OFF the state moves to OFF with FORCED_OFF; in OFF nothing changes. -/
def forceOff (cause : ForceCause) (s : State) : State :=
  if s.ssc.state = .off then s else moveState .off (some (.forcedOff, cause.num)) s

/-! ## The reply queue (R185) -/

def slotResolved (x : Port) : Bool := decide (x.slot.state = .resolved)

/-- How many pass-through slots wait for a place (R185). -/
def slotsWaiting (s : State) : Nat :=
  (slotResolved s.ppt.ports.a).toNat + (slotResolved s.ppt.ports.b).toNat

/-- A place is free beyond those that waiting slots are given first (R185). -/
def replyRoom (s : State) : Bool := decide (s.slc.replies.length + slotsWaiting s < 4)

/-- A reply entering the reply queue (R185). -/
def enqueueReply (r : Reply) (s : State) : State :=
  { s with slc := { s.slc with replies := s.slc.replies ++ [r] } }

end Sys2Proof.Machine
end

