-- ==== Sys2Proof/Machine/Battery.lean ====
section
/-! DEFINITION. The battery level and its two conditions (section 9.6). -/

namespace Sys2Proof.Machine

/-- The remaining or full capacity a port adds to the combined SOC: ACTIVE ports only (R161). -/
def activeCapacity (f : PackRecord → Nat) (x : Port) : Nat :=
  match x.state, x.record with
  | .active, some r => f r
  | _, _ => 0

/-- The combined SOC (R161): unknown when no port is ACTIVE or the full capacities sum to 0. -/
def combinedSocOf (t : Ppt) : Option Nat :=
  let rem := activeCapacity PackRecord.remaining t.ports.a + activeCapacity PackRecord.remaining t.ports.b
  let full := activeCapacity PackRecord.full t.ports.a + activeCapacity PackRecord.full t.ports.b
  if full = 0 then none else some (min 100 (100 * rem / full))

/-- The adapter is absent or opened by INPUT_OPEN (R162, R163). -/
def adapterAway (s : State) : Bool :=
  !s.ppc.adapter.present || s.lmt.actionSet.contains .inputOpen

/-- A known combined SOC below a threshold. -/
def socBelow (soc : Option Nat) (threshold : Nat) : Bool :=
  match soc with
  | some v => decide (v < threshold)
  | none => false

/-- Battery low (R162). -/
def batteryLowHolds (s : State) : Bool :=
  adapterAway s && socBelow s.ssc.combinedSoc s.ssc.lowThreshold

/-- Battery critical (R163). -/
def batteryCriticalHolds (s : State) : Bool :=
  adapterAway s &&
    (socBelow s.ssc.combinedSoc s.ssc.criticalThreshold || s.ppc.path.a.unsupplied || s.ppc.path.b.unsupplied)

/-- R162 re-decided. -/
def decideLow (s : State) : State :=
  if batteryLowHolds s then
    if s.ssc.low then s
    else route .batteryLow 0 ((s.ssc.combinedSoc.getD 0 : Nat) : Int) { s with ssc := { s.ssc with low := true } }
  else { s with ssc := { s.ssc with low := false } }

/-- The critical grace started (R163). -/
def startGrace (s : State) : State := { s with ssc := { s.ssc with graceTimer := some 30000 } }

/-- R163 re-decided. -/
def decideCritical (s : State) : State :=
  if batteryCriticalHolds s then
    if s.ssc.critical then s
    else
      startGrace (route .batteryCritical 0 ((s.ssc.combinedSoc.getD 0xFF : Nat) : Int)
        { s with ssc := { s.ssc with critical := true } })
  else if s.ssc.critical then { s with ssc := { s.ssc with critical := false, graceTimer := none } }
  else s

/-- SSC re-decides both conditions (R162, then R163). -/
def decideBattery (s : State) : State := decideCritical (decideLow s)

/-- SSC works out the combined SOC afresh and re-decides both conditions (R161). -/
def refreshSoc (s : State) : State :=
  decideBattery { s with ssc := { s.ssc with combinedSoc := combinedSocOf s.ppt } }

end Sys2Proof.Machine
end

