-- ==== Sys2Proof/Machine/Paths.lean ====
section
/-! DEFINITION. Path modes and the bay release of pack B (sections 3.5 and 3.6), and the setpoints they lower to 0
between passes (R98). -/

namespace Sys2Proof.Machine

/-! ## Zeroing setpoints (R98) -/

/-- A pack's charge current and charge voltage setpoints set to 0; the boost setpoint left as it stands. -/
def Setpoints.noCharge (x : Setpoints) : Setpoints := { x with chargeI := 0, chargeV := 0 }

def Setpoints.noBoost (x : Setpoints) : Setpoints := { x with boost := 0 }

def Ppc.zeroCharge (c : Ppc) (p : Pack) : Ppc :=
  { c with setpoints := c.setpoints.set p (c.setpoints.get p).noCharge }

def Ppc.zeroAll (c : Ppc) (p : Pack) : Ppc :=
  { c with setpoints := c.setpoints.set p noSetpoints }

def Ppc.zeroBoth (c : Ppc) : Ppc := { c with setpoints := ⟨noSetpoints, noSetpoints⟩ }

/-! ## Alternative supply and path mode (R51, R52) -/

def isolateOf : Pack → Action
  | .a => .isolateA
  | .b => .isolateB

def chargeStopOf : Pack → Action
  | .a => .chargeStopA
  | .b => .chargeStopB

/-- A CHARGE_STOP action for the pack, its own or CHARGE_STOP_ALL, is in the action set (R28). -/
def chargeStopped (acts : List Action) (p : Pack) : Bool :=
  acts.contains (chargeStopOf p) || acts.contains .chargeStopAll

/-- The alarm flags of a port's record; an empty record carries none (R52). -/
def Port.alarms (x : Port) : Alarms :=
  match x.record with
  | some r => r.alarms
  | none => Alarms.clear

/-- Row 1 of R52. -/
def pathForcedOpen (s : State) (p : Pack) : Bool :=
  decide ((s.ppt.ports.get p).state = .absent) || s.lmt.actionSet.contains (isolateOf p) ||
    (decide (p = .b) && decide (s.ppc.bay.state = .released))

/-- The pack can supply the other one (R51): its mode without the TERMINATE_DISCHARGE clause is not OPEN, its record
carries no TERMINATE_DISCHARGE, and, for pack B, the bay state is LATCHED. -/
def canSupply (s : State) (p : Pack) : Bool :=
  !pathForcedOpen s p && !(s.ppt.ports.get p).alarms.terminateDischarge &&
    (decide (p = .a) || decide (s.ppc.bay.state = .latched))

/-- Pack `p` has an alternative supply (R51). -/
def altSupply (s : State) (p : Pack) : Bool := !adapterAway s || canSupply s (otherPack p)

/-- The path mode and the discharge-terminated unsupplied mark of a pack, by the first row of R52 that applies. -/
def pathOf (s : State) (p : Pack) : Path :=
  if pathForcedOpen s p then ⟨.opened, false⟩
  else if (s.ppt.ports.get p).alarms.terminateDischarge then
    if altSupply s p then ⟨.opened, false⟩ else ⟨.dischargeOnly, true⟩
  else if decide ((s.ppt.ports.get p).state ≠ .active) || (s.ppt.ports.get p).alarms.terminateCharge ||
      chargeStopped s.lmt.actionSet p || (decide (p = .b) && decide (s.ppc.bay.state = .releasing)) then
    ⟨.dischargeOnly, false⟩
  else ⟨.full, false⟩

/-- The setpoints of a pack after its path mode is decided (R53): a change into OPEN or DISCHARGE_ONLY zeroes. -/
def pathSetpoints (old new : PathMode) (x : Setpoints) : Setpoints :=
  if new = old then x
  else
    match new with
    | .opened => noSetpoints
    | .dischargeOnly => x.noCharge
    | .full => x

/-- PPC re-decides both packs' path modes (R52), which acts on the setpoints at once (R53). -/
def redecidePaths (s : State) : State :=
  { s with
    ppc := { s.ppc with
      path := ⟨pathOf s .a, pathOf s .b⟩
      setpoints :=
        ⟨pathSetpoints s.ppc.path.a.mode (pathOf s .a).mode s.ppc.setpoints.a,
          pathSetpoints s.ppc.path.b.mode (pathOf s .b).mode s.ppc.setpoints.b⟩ } }

/-- PPC re-decides the paths and SSC then re-decides the battery conditions (R52, R162, R163; log 14). -/
def repath (s : State) : State := decideBattery (redecidePaths s)

/-! ## The bay release (R54 to R57) -/

/-- Entry to RELEASING from LATCHED (R54). -/
def enterReleasing (s : State) : State :=
  repath (route .bayRelease 0 1
    { s with
      ppc := { (s.ppc.zeroAll .b) with
        bay := { s.ppc.bay with state := .releasing, quiet := 0, refused := false } } })

/-- The return to LATCHED is due (R56): RELEASING or RELEASED, the latch closed, no request pending. -/
def bayReturnDue (s : State) : Bool :=
  decide (s.ppc.bay.state ≠ .latched) && decide (s.swi.baylatch.level = some false) && !s.ppc.bay.pending

/-- The return to LATCHED at PPC (R56). -/
def bayLatched (s : State) : State :=
  redecidePaths (route .bayRelease 0 0
    { s with ppc := { s.ppc with bay := { s.ppc.bay with state := .latched, quiet := 0 } } })

/-- The return to LATCHED where it is due (R56), with SSC's decisions. -/
def bayReturn (s : State) : State := if bayReturnDue s then decideBattery (bayLatched s) else s

/-- The latch level SWI reports at a debounce completion (R54, R56, R129). -/
def bayLatchReported (opened : Bool) (s : State) : State :=
  if opened then (if s.ppc.bay.state = .latched then enterReleasing s else s) else bayReturn s

/-- A pass in RELEASING finds the bay quiet (R55). -/
def bayQuiet (s : State) : State :=
  if s.ppc.bay.quiet + 1 < 2 then
    { s with ppc := { s.ppc with bay := { s.ppc.bay with quiet := s.ppc.bay.quiet + 1 } } }
  else
    repath (route .bayRelease 0 2
      { s with ppc := { s.ppc with bay := { s.ppc.bay with state := .released, quiet := 2 } } })

/-- A pass in RELEASING finds no alternative supply for pack B (R55). -/
def bayRefuse (s : State) : State :=
  let t := { s with ppc := { s.ppc with bay := { s.ppc.bay with quiet := 0, refused := true } } }
  if s.ppc.bay.refused then t else route .bayRefused 0 0 t

/-- The bay examination at the end of an allocation pass (R55), with that sweep's IPB sample. -/
def examineBay (s : State) : State :=
  if s.ppc.bay.state ≠ .releasing then s
  else if altSupply s .b then
    if ((s.sws.latest.get 7).value).natAbs < 200 then bayQuiet s
    else { s with ppc := { s.ppc with bay := { s.ppc.bay with quiet := 0 } } }
  else bayRefuse s

/-- A change of adapter presence handed on after its event (R79): PPC re-decides the paths, then SSC takes the part
mode (R165) and the battery conditions. -/
def adapterChanged (s : State) : State :=
  let t := redecidePaths s
  decideBattery
    (if t.ppc.adapter.present then setMode .full t
     else if t.ssc.state = .off then setMode .quiet t
     else t)

end Sys2Proof.Machine
end

