-- ==== Sys2Proof/Machine/Limits.lean ====
section
/-! DEFINITION. The limit monitor (chapter 2): zones, the runs of one channel, trip records, the action set and what
its joins and leaves do at the blocks that read it. -/

namespace Sys2Proof.Machine

/-! ## Measures of a sample value (R17) -/

/-- Beyond a low or a high limit, an absent one setting no bound. -/
def outside (low high : Option Int) (v : Int) : Bool :=
  (match low with
    | some l => decide (v < l)
    | none => false) ||
  (match high with
    | some h => decide (v > h)
    | none => false)

/-- Inside a band narrowed by the hysteresis (R17); an absent limit bounds nothing. -/
def insideNarrowed (low high : Option Int) (hyst v : Int) : Bool :=
  (match low with
    | some l => decide (v ≥ l + hyst)
    | none => true) &&
  (match high with
    | some h => decide (v ≤ h - hyst)
    | none => true)

/-- The zones of R20. -/
inductive Zone where
  | f
  | w
  | n
deriving DecidableEq, Repr

def zoneOf (e : LimitEntry) (v : Int) : Zone :=
  if outside e.faultLow e.faultHigh v then .f
  else if outside e.warnLow e.warnHigh v then .w
  else .n

/-- Zone N inside the narrowed warn band (R20). -/
def settledWarn (e : LimitEntry) (v : Int) : Bool :=
  decide (zoneOf e v = .n) && insideNarrowed e.warnLow e.warnHigh e.hyst v

/-- Zone N or W inside the narrowed fault band (R20). -/
def settledFault (e : LimitEntry) (v : Int) : Bool :=
  decide (zoneOf e v ≠ .f) && insideNarrowed e.faultLow e.faultHigh e.hyst v

/-! ## One sample at one channel (R20 to R24) -/

def LimitChan.runs (c : LimitChan) (warn fault ret : Nat) : LimitChan :=
  { c with warnRun := warn, faultRun := fault, returnRun := ret }

/-- A change of limit state sets all three runs to 0 (R20). -/
def LimitChan.enter (c : LimitChan) (st : LimitState) : LimitChan :=
  { c with state := st, warnRun := 0, faultRun := 0, returnRun := 0 }

/-- The runs and the limit state after a sample (R21 to R24). -/
def judgeChan (e : LimitEntry) (c : LimitChan) (v : Int) : LimitChan :=
  match c.state with
  | .normal =>
    match zoneOf e v with
    | .f => if c.faultRun + 1 ≥ e.deglitch then c.enter .fault else c.runs 0 (c.faultRun + 1) c.returnRun
    | .w => if c.warnRun + 1 ≥ e.deglitch then c.enter .warning else c.runs (c.warnRun + 1) 0 c.returnRun
    | .n => c.runs 0 0 c.returnRun
  | .warning =>
    if zoneOf e v = .f then
      if c.faultRun + 1 ≥ e.deglitch then c.enter .fault else c.runs c.warnRun (c.faultRun + 1) 0
    else if settledWarn e v then
      if c.returnRun + 1 ≥ e.deglitch then c.enter .normal else c.runs c.warnRun 0 (c.returnRun + 1)
    else c.runs c.warnRun 0 0
  | .fault =>
    if settledFault e v then
      if c.returnRun + 1 ≥ e.deglitch then c.enter .held else c.runs c.warnRun c.faultRun (c.returnRun + 1)
    else c.runs c.warnRun c.faultRun 0
  | .held =>
    if zoneOf e v = .f then
      if c.faultRun + 1 ≥ e.deglitch then c.enter .fault else c.runs c.warnRun (c.faultRun + 1) c.returnRun
    else c.runs c.warnRun 0 c.returnRun

/-- An entry to FAULT replaces the trip record (R26). -/
def LimitChan.trip (c : LimitChan) (v : Int) (now : Stamp) : LimitChan :=
  { c with tripCount := sat255 c.tripCount, tripValue := some v, tripStamp := some now }

/-! ## The action set (R27) -/

def Lmt.setChan (l : Lmt) (ch : Fin 16) (c : LimitChan) : Lmt := { l with chans := l.chans.set ch c }

/-- A channel in FAULT or HELD carries the action of its entry (R27). -/
def Lmt.carries (l : Lmt) (a : Action) (ch : Fin 16) : Bool :=
  (decide ((l.chans.get ch).state = .fault) || decide ((l.chans.get ch).state = .held)) &&
    decide ((l.entries.get ch).action = a)

/-- The union of the carried actions, NONE excepted, in the order of R17 (R27). -/
def Lmt.carried (l : Lmt) : List Action :=
  allActions.filter fun a => decide (a ≠ .none) && (List.finRange 16).any (l.carries a)

/-- PPC re-drives LTR (R96). -/
def redriveLtr (s : State) : State :=
  { s with
    ppc := { s.ppc with
      ltr := decide (s.ppc.throttle.state = .asserted) || decide (s.ppc.throttle.state = .releasing) ||
        s.lmt.actionSet.contains .throttle } }

/-- What a join does at the block that reads the action (R28 to R30). SYSTEM_OFF acts by its assertions (R31). -/
def joinEffect (a : Action) (s : State) : State :=
  match a with
  | .chargeStopA => { s with ppc := s.ppc.zeroCharge .a }
  | .chargeStopB => { s with ppc := s.ppc.zeroCharge .b }
  | .chargeStopAll => { s with ppc := (s.ppc.zeroCharge .a).zeroCharge .b }
  | .isolateA => { s with ppc := s.ppc.zeroAll .a }
  | .isolateB => { s with ppc := s.ppc.zeroAll .b }
  | .inputOpen => { s with ppc := { s.ppc.zeroBoth with adapterSwitchOpen := true } }
  | .fanFull => { s with fnc := { s.fnc with fans := s.fnc.fans.map FanState.fullDemand } }
  | .throttle => redriveLtr s
  | .none | .systemOff => s

/-- What a leave does at the block that reads the action (R28 to R30). -/
def leaveEffect (a : Action) (s : State) : State :=
  match a with
  | .inputOpen => { s with ppc := { s.ppc with adapterSwitchOpen := false } }
  | .throttle => redriveLtr s
  | _ => s

/-- One action handed on (R27): its join or leave, then PPC's path decision and SSC's battery decisions. -/
def handAction (old new : List Action) (s : State) (a : Action) : State :=
  if new.contains a && !old.contains a then repath (joinEffect a s)
  else if old.contains a && !new.contains a then repath (leaveEffect a s)
  else s

/-- LMT recomputes the action set (R27): the set is replaced whole, then each join and leave is handed on, in the
order of R17 (log 13). -/
def recomputeActions (s : State) : State :=
  let old := s.lmt.actionSet
  let new := s.lmt.carried
  allActions.foldl (handAction old new) { s with lmt := { s.lmt with actionSet := new } }

/-! ## Transitions with their events (R25, R31) -/

/-- Channel `ch` enters FAULT (R25, R26, R27, R31): LIMIT_FAULT first, then the action set, then the assertion. -/
def enterFault (ch : Fin 16) (c : LimitChan) (v : Int) (s : State) : State :=
  let e := s.lmt.entries.get ch
  let s1 := { s with lmt := s.lmt.setChan ch (c.trip v s.tmb.ms) }
  let s2 := if e.reportFault then route .limitFault ch.val v s1 else s1
  let s3 := recomputeActions s2
  if e.action = .systemOff then forceOff .fault s3 else s3

/-- LMT takes a sample that SWS hands on (R20). -/
def judgeSample (ch : Fin 16) (v : Int) (s : State) : State :=
  let e := s.lmt.entries.get ch
  let old := s.lmt.chans.get ch
  if e.enable then
    let c := judgeChan e old v
    if c.state = old.state then { s with lmt := s.lmt.setChan ch c }
    else
      match c.state with
      | .fault => enterFault ch c v s
      | .warning =>
        if e.reportWarning then route .limitWarning ch.val v { s with lmt := s.lmt.setChan ch c }
        else { s with lmt := s.lmt.setChan ch c }
      | .held => route .limitHeld ch.val 0 { s with lmt := s.lmt.setChan ch c }
      | .normal => { s with lmt := s.lmt.setChan ch c }
  else s

/-- A channel returned to NORMAL by a request, with LIMIT_CLEARED (R19, R32). -/
def clearChan (ch : Fin 16) (s : State) : State :=
  route .limitCleared ch.val 0 { s with lmt := s.lmt.setChan ch ((s.lmt.chans.get ch).enter .normal) }

/-- Whether a replaced entry asserts SYSTEM_OFF: given to a channel in FAULT that did not carry it (R31). -/
def assertsOff (old new : LimitEntry) (c : LimitChan) : Bool :=
  decide (c.state = .fault) && decide (new.action = .systemOff) && decide (old.action ≠ .systemOff)

/-- An accepted load of channel `ch`'s entry (R19). -/
def loadLimitEntry (ch : Fin 16) (e : LimitEntry) (s : State) : State :=
  let old := s.lmt.entries.get ch
  let c := s.lmt.chans.get ch
  let s1 := { s with lmt := { s.lmt with entries := s.lmt.entries.set ch e } }
  if e.enable then
    let s2 := recomputeActions s1
    if assertsOff old e c then forceOff .fault s2 else s2
  else
    recomputeActions
      (if c.state = .fault ∨ c.state = .held then clearChan ch s1
       else { s1 with lmt := s1.lmt.setChan ch (c.enter .normal) })

/-- RESTORE_DEFAULTS of the limit table (R34): sixteen loads with enable on, the action set recomputed once. -/
def restoreLimits (s : State) : State :=
  let asserts := (List.finRange 16).any fun ch =>
    assertsOff (s.lmt.entries.get ch) (defaultLimits.get ch) (s.lmt.chans.get ch)
  let s1 := recomputeActions { s with lmt := { s.lmt with entries := defaultLimits } }
  if asserts then forceOff .fault s1 else s1

/-- LMT's part of CLEAR_FAULTS (R32): the channels in HELD return to NORMAL in ascending order, then the action set
is recomputed once. -/
def clearHeld (s : State) : State :=
  recomputeActions
    ((List.finRange 16).foldl
      (fun t ch => if (t.lmt.chans.get ch).state = .held then clearChan ch t else t) s)

/-! ## The checks of LOAD_LIMIT (R18) -/

/-- The clamp range of a channel (R5). -/
def clampRange (ch : Fin 16) : Int × Int :=
  match ch.val with
  | 0 => (0, 30000)
  | 1 => (0, 16000)
  | 3 => (0, 20000)
  | 5 => (-16000, 16000)
  | 7 => (-16000, 16000)
  | 2 => (0, 24000)
  | 4 => (0, 24000)
  | 6 => (0, 24000)
  | 13 => (0, 3300)
  | 14 => (0, 4000)
  | 15 => (0, 3300)
  | _ => (-400, 1500)

/-- A limit that is absent, or lies in the channel's clamp range (check 3). -/
def limitInRange (ch : Fin 16) (l : Option Int) : Bool :=
  match l with
  | some v => decide ((clampRange ch).1 ≤ v) && decide (v ≤ (clampRange ch).2)
  | none => true

/-- Two limits that are not both present, or stand in order (check 4). -/
def limitsLe (x y : Option Int) : Bool :=
  match x, y with
  | some a, some b => decide (a ≤ b)
  | _, _ => true

/-- A pair of limits of one kind: not both present, or apart by at least twice the hysteresis and not equal
(checks 4 and 5). -/
def pairApart (low high : Option Int) (hyst : Int) : Bool :=
  match low, high with
  | some a, some b => decide (a ≠ b) && decide (b - a ≥ 2 * hyst)
  | _, _ => true

/-- Checks 2 to 5 of R18 on a complete entry; each failure is answered INVALID_TABLE. -/
def limitEntryValid (ch : Fin 16) (e : LimitEntry) : Bool :=
  decide (e.hyst ≤ 1000) && decide (1 ≤ e.deglitch) && decide (e.deglitch ≤ 15) &&
    limitInRange ch e.warnLow && limitInRange ch e.warnHigh && limitInRange ch e.faultLow &&
    limitInRange ch e.faultHigh &&
    limitsLe e.faultLow e.warnLow && limitsLe e.faultLow e.warnHigh && limitsLe e.faultLow e.faultHigh &&
    limitsLe e.warnLow e.warnHigh && limitsLe e.warnLow e.faultHigh && limitsLe e.warnHigh e.faultHigh &&
    pairApart e.warnLow e.warnHigh e.hyst && pairApart e.faultLow e.faultHigh e.hyst

end Sys2Proof.Machine
end

