-- ==== Sys2Proof/Machine/Charge.lean ====
section
/-! DEFINITION. Charge profiles and phases (chapter 4): the band in force, the phase step of one pack, the figures it
hands to the allocation pass, and the charge timers. -/

namespace Sys2Proof.Machine

/-! ## Inputs of a phase step -/

/-- A thermistor channel's usable temperature (R6). -/
def usableTemp (s : State) (ch : Fin 16) : Option Int :=
  if (s.sws.latest.get ch).valid && !(s.sws.latest.get ch).clamped then some (s.sws.latest.get ch).value else none

/-- The pack's thermistor channel (R62): 8 for A, 9 for B. -/
def thermistorOf : Pack → Fin 16
  | .a => 8
  | .b => 9

/-- The pack's voltage channel (R66): 4 for A, 6 for B. -/
def voltageOf : Pack → Fin 16
  | .a => 4
  | .b => 6

/-- The pack's current channel (R68): 5 for A, 7 for B. -/
def currentOf : Pack → Fin 16
  | .a => 5
  | .b => 7

/-- The pack voltage VPx, in mV; never negative by its clamp range. -/
def packVolt (s : State) (p : Pack) : Nat := ((s.sws.latest.get (voltageOf p)).value).toNat

/-- The higher of two optional temperatures; one alone governs alone. -/
def higher (x y : Option Int) : Option Int :=
  match x, y with
  | some a, some b => some (max a b)
  | some a, none => some a
  | none, y => y

/-- The governing temperature of a pack (R62). -/
def governingTemp (s : State) (p : Pack) : Option Int :=
  match (s.ppt.ports.get p).record with
  | none => none
  | some r =>
    higher (if (s.ppt.ports.get p).state = .active then some r.temp else none) (usableTemp s (thermistorOf p))

/-- The profile a profile id selects; an id above 3 is taken as 0 (R37). -/
def profileAt (t : Table Profile 4) (id : Nat) : Profile :=
  if h : id < 4 then t.get ⟨id, h⟩ else t.get 0

/-! ## The band in force (R59, R63, R64) -/

/-- The raw band of a temperature (R59): how many boundaries it is at or above. -/
def rawBand (bounds : List Int) (t : Int) : Nat := (bounds.filter fun b => decide (b ≤ t)).length

/-- A rise from band `i` (R63): while it is not the top band and `t` is at or above its upper boundary. -/
def riseBand (bounds : List Int) (t : Int) (i : Nat) : Nat :=
  i + ((bounds.drop i).takeWhile fun b => decide (t ≥ b)).length

/-- A fall (R63): while it is not band 0 and `t` is below its lower boundary less the hysteresis. -/
def fallBand (bounds : List Int) (t : Int) (hyst : Nat) : Nat → Nat
  | 0 => 0
  | i + 1 => if t < bounds.getD i 0 - hyst then fallBand bounds t hyst i else i + 1

/-- The band in force moved by a step (R63). -/
def moveBand (prof : Profile) (t : Int) (i : Nat) : Nat :=
  if riseBand prof.bounds t i = i then fallBand prof.bounds t prof.hyst i else riseBand prof.bounds t i

/-- The band after a step (R63): UNKNOWN without a governing temperature, taken afresh from UNKNOWN or at the first
step under a new profile, moved otherwise. -/
def nextBand (c : Charge) (prof : Profile) (id : Nat) (t : Option Int) : Option Nat :=
  match t with
  | none => none
  | some v =>
    match c.band with
    | none => some (rawBand prof.bounds v)
    | some i =>
      if c.lastProfile ≠ some id ∨ c.profileFresh then some (rawBand prof.bounds v)
      else some (moveBand prof v i)

/-- Some fan is in STALL_LOCKOUT (R64). -/
def anyLockout (s : State) : Bool :=
  decide (s.fnc.fans.one.state = .stallLockout) || decide (s.fnc.fans.two.state = .stallLockout)

/-- The band limits in force (R64); all 0 with band UNKNOWN. -/
def bandLimits (prof : Profile) (band : Option Nat) (lockout : Bool) : Band :=
  match band with
  | none => ⟨0, 0, 0⟩
  | some i =>
    let b := prof.bands.getD i ⟨0, 0, 0⟩
    if lockout then { b with chargeLimit := b.chargeLimit / 2 } else b

/-- The charge voltage V_CHG (R76); 0 with band UNKNOWN. -/
def chargeVoltage (r : PackRecord) (band : Option Nat) (lim : Band) : Nat :=
  match band with
  | none => 0
  | some _ => min 20000 (min r.reqVoltage (r.cells * lim.cellVoltage) / 8 * 8)

/-! ## The phase (R65 to R70) -/

/-- An inhibit of R65 stands. -/
def inhibited (s : State) (p : Pack) (band : Option Nat) (lim : Band) : Bool :=
  decide ((s.ppt.ports.get p).state = .stale) || band.isNone || decide (lim.chargeLimit = 0) ||
    (s.ppc.charge.get p).inhibit || chargeStopped s.lmt.actionSet p ||
    (s.ppt.ports.get p).alarms.terminateCharge || decide ((s.ppc.path.get p).mode ≠ .full) || adapterAway s ||
    (s.ppc.charge.get p).latch.isSome

/-- What the rules R66 to R69 read at a step: the record, the profile, V_CHG, VPx, IPx and the pack's charge current
setpoint as it stands. -/
structure StepView where
  record : PackRecord
  prof : Profile
  vChg : Nat
  volt : Nat
  current : Int
  setpoint : Nat
deriving DecidableEq, Repr

/-- The cell voltage of R66. -/
def StepView.cell (x : StepView) : Nat := x.volt / x.record.cells

/-- Recharge is due (R69). -/
def StepView.rechargeDue (x : StepView) : Bool :=
  decide (x.volt + x.prof.rechargeDelta * x.record.cells < x.vChg) || decide (x.record.soc < x.prof.rechargeSoc)

/-- The pack stands at V_CHG for the taper test (R67). -/
def StepView.atVoltage (x : StepView) : Bool := decide (x.vChg ≤ x.volt + 16 * x.record.cells)

/-- The pack takes less than the taper current while given more (R68). -/
def StepView.tapered (x : StepView) : Bool :=
  decide (x.current < x.prof.taperCurrent) && decide (x.setpoint > x.prof.taperCurrent)

/-- The phase that R66 to R69 give, with no inhibit standing. -/
def stepPhase (c : Charge) (x : StepView) : Phase :=
  match c.phase with
  | .none | .hold =>
    if x.cell < x.prof.preThreshold then .precharge
    else if c.doneMemory && !x.rechargeDue then .done
    else .bulk
  | .precharge => if x.cell ≥ x.prof.preThreshold + 100 then .bulk else .precharge
  | .bulk => if x.atVoltage && decide (c.taperCount + 1 ≥ 3) then .taper else .bulk
  | .taper => if x.tapered && decide (c.doneCount + 1 ≥ 8) then .done else .taper
  | .done => if x.rechargeDue then .bulk else .done

/-- The two counts of a step that keeps its phase (R67, R68). -/
def stepCounts (c : Charge) (x : StepView) : Charge :=
  match c.phase with
  | .bulk => { c with taperCount := if x.atVoltage then c.taperCount + 1 else 0 }
  | .taper => { c with doneCount := if x.tapered then c.doneCount + 1 else 0 }
  | _ => c

/-- A change of phase at the charge state (R65, R71): both counts 0, the done memory, and, into DONE, the timers. -/
def Charge.enter (c : Charge) (ph : Phase) : Charge :=
  match ph with
  | .done =>
    { c with phase := .done, taperCount := 0, doneCount := 0, doneMemory := true, preTimer := 0, fastTimer := 0,
             due := none }
  | .precharge | .bulk | .taper =>
    { c with phase := ph, taperCount := 0, doneCount := 0, doneMemory := false }
  | .none | .hold => { c with phase := ph, taperCount := 0, doneCount := 0 }

def setCharge (p : Pack) (c : Charge) (s : State) : State :=
  { s with ppc := { s.ppc with charge := s.ppc.charge.set p c } }

/-- The phase set at an event (R65): a change produces CHARGE_PHASE; a pack already in the phase stays as it is. -/
def setPhase (p : Pack) (ph : Phase) (s : State) : State :=
  if (s.ppc.charge.get p).phase = ph then s
  else route .chargePhase (packNum p) ph.num (setCharge p ((s.ppc.charge.get p).enter ph) s)

/-- The phase step's decision on the phase (R65). -/
def decidePhase (p : Pack) (lim : Band) (x : Option StepView) (s : State) : State :=
  let c := s.ppc.charge.get p
  match (s.ppt.ports.get p).state with
  | .absent | .identifying | .unresponsive => setPhase p .none s
  | _ =>
    if inhibited s p c.band lim then setPhase p .hold s
    else
      match x with
      | none => s
      | some v =>
        if stepPhase c v = c.phase then setCharge p (stepCounts c v) s else setPhase p (stepPhase c v) s

/-! ## The figures handed to the allocation pass (R75 to R77) -/

/-- The charge cap (R75). -/
def capOf (ph : Phase) (prof : Profile) (lim : Band) (r : PackRecord) (vChg : Nat) : Nat :=
  if vChg < 5000 then 0
  else
    match ph with
    | .precharge => prof.preCurrent
    | .bulk | .taper => min lim.chargeLimit r.reqCurrent
    | .none | .hold | .done => 0

/-- The supply cap (R77): I_DMAX with the boost-floor case left out. -/
def supplyCapOf (s : State) (p : Pack) (band : Option Nat) (lim : Band) (r : PackRecord) : Nat :=
  if r.alarms.terminateDischarge ∨ (s.ppc.path.get p).mode = .opened ∨ (s.ppt.ports.get p).state ≠ .active ∨
      band = none then 0
  else min lim.dischargeLimit r.maxDischarge

/-- The four figures of a step (R75 to R77), all 0 with an empty record. -/
def handFigures (p : Pack) (lim : Band) (prof : Profile) (s : State) : State :=
  let c := s.ppc.charge.get p
  match (s.ppt.ports.get p).record with
  | none => setCharge p { c with cap := 0, vChg := 0, iDmax := 0, supplyCap := 0 } s
  | some r =>
    let v := chargeVoltage r c.band lim
    let cap := supplyCapOf s p c.band lim r
    setCharge p
      { c with
        cap := capOf c.phase prof lim r v
        vChg := v
        iDmax := if r.soc < s.ppc.boostFloor then 0 else cap
        supplyCap := cap } s

/-- The profile that a pack's record selects; with an empty record no profile is read. -/
def packProfile (s : State) (p : Pack) : Profile :=
  match (s.ppt.ports.get p).record with
  | some r => profileAt s.ppc.profiles r.profile
  | none => profileAt s.ppc.profiles 0

/-- The band moved by a step (R62, R63); from this step on the profile's fast-charge time limit governs (R60). -/
def stepBand (p : Pack) (s : State) : State :=
  let c := s.ppc.charge.get p
  match (s.ppt.ports.get p).record with
  | none => setCharge p { c with band := none, lastProfile := none, profileFresh := false } s
  | some r =>
    setCharge p
      { c with
        band := nextBand c (profileAt s.ppc.profiles r.profile) r.profile (governingTemp s p)
        lastProfile := some r.profile
        profileFresh := false
        fastLimit := (profileAt s.ppc.profiles r.profile).fastLimit } s

/-- One phase step of one pack (R63 to R69, R75 to R77). -/
def phaseStep (p : Pack) (s : State) : State :=
  let s1 := stepBand p s
  let prof := packProfile s p
  let lim := bandLimits prof (s1.ppc.charge.get p).band (anyLockout s)
  let view := (s.ppt.ports.get p).record.map fun r =>
    { record := r
      prof := prof
      vChg := chargeVoltage r (s1.ppc.charge.get p).band lim
      volt := packVolt s p
      current := (s.sws.latest.get (currentOf p)).value
      setpoint := (s.ppc.setpoints.get p).chargeI : StepView }
  handFigures p lim prof (decidePhase p lim view s1)

/-! ## Charge timers (R71 to R73) and removal (R70) -/

/-- The limit of the precharge timer: 30 min (R72). -/
def preLimit : Nat := 1800000

/-- One tick expiry at a pack's charge timers (R71), and the firing that its count brings due (R72). -/
def chargeTick (fastLimit : Nat) (chargeI : Nat) (c : Charge) : Charge :=
  match c.phase with
  | .precharge =>
    { c with preTimer := c.preTimer + 1, due := if c.preTimer + 1 ≥ preLimit then some .precharge else c.due }
  | .bulk | .taper =>
    if chargeI > 0 then
      { c with fastTimer := c.fastTimer + 1, due := if c.fastTimer + 1 ≥ fastLimit then some .fast else c.due }
    else c
  | _ => c

/-- R71 at one pack, the fast limit being the minutes of the profile that governs the pack since its last phase step,
times 60,000. A loaded profile governs from the next phase step on (R60); that a profile id changed by telemetry does
so too is a DESIGN CHOICE (log 35). -/
def packTick (s : State) (p : Pack) : Charge :=
  chargeTick ((s.ppc.charge.get p).fastLimit * 60000) (s.ppc.setpoints.get p).chargeI (s.ppc.charge.get p)

/-- The firing of a charge timer (R72), where one is due. -/
def fireTimeout (p : Pack) (s : State) : State :=
  match (s.ppc.charge.get p).due with
  | none => s
  | some t =>
    let s1 := setCharge p { (s.ppc.charge.get p) with latch := some t, due := none } s
    let s2 := { s1 with ppc := s1.ppc.zeroCharge p }
    setPhase p .hold (route .chargeTimeout (packNum p) t.num s2)

/-- A removal at the charge state (R70), but for the phase. -/
def Charge.removed (c : Charge) : Charge :=
  { c with band := none, taperCount := 0, doneCount := 0, doneMemory := false, preTimer := 0, fastTimer := 0,
           latch := none, due := none }

/-- A removal at PPC's charge state (R70). -/
def chargeRemoval (p : Pack) (s : State) : State :=
  setPhase p .none (setCharge p (s.ppc.charge.get p).removed s)

/-- PPC's part of CLEAR_FAULTS at one pack (R73). -/
def Charge.clearLatch (c : Charge) : Charge :=
  if c.latch.isSome then { c with latch := none, preTimer := 0, fastTimer := 0, due := none } else c

/-- A replaced profile noted for the packs that used it at their last step (R60, R63). -/
def Charge.noteProfile (c : Charge) (id : Nat) : Charge :=
  if c.lastProfile = some id then { c with profileFresh := true } else c

end Sys2Proof.Machine
end

