-- ==== Sys2Proof/Config.lean ====
section
/-! DEFINITION. What the spec leaves open and the machine goes on: free values. Nothing in Lean can evaluate
them, so a claim holds whatever they are. -/

namespace Sys2Proof

/-- DESIGN CHOICE (log 12): the on/off reading of a request's flag byte that is neither 0 nor 1, where the
owning rule states no check of it (R10, R18, R45, R83 name a flag or mark of two values and R183 gives it a
whole byte). A free value: no body, so nothing can be proved of it. -/
opaque Config.oddFlag : Byte → Bool

end Sys2Proof
end

