-- ==== Sys2Proof/Machine/Operands.lean ====
section
/-! DEFINITION. Operands of requests and fields of replies: reading fields out of a request's arguments and writing
fields into reply data, by the encodings of R183. -/

namespace Sys2Proof.Machine

/-! ## Writing fields (R183) -/

/-- A 1-byte unsigned field. -/
def put1 (n : Nat) : List Byte := [BitVec.ofNat 8 n]

/-- A flag or mark that takes a byte of its own. -/
def putFlag (b : Bool) : List Byte := put1 b.toNat

/-- Flags listed one after another: one set, in one byte. -/
def putFlags (bs : List Bool) : List Byte := put1 (flagSet bs)

/-- A 2-byte field, high byte first, two's complement where signed. -/
def put2 (v : Int) : List Byte :=
  [(BitVec.ofInt 16 v >>> 8).setWidth 8, (BitVec.ofInt 16 v).setWidth 8]

/-- A 4-byte field, high byte first, two's complement where signed. -/
def put4 (v : Int) : List Byte :=
  [(BitVec.ofInt 32 v >>> 24).setWidth 8, (BitVec.ofInt 32 v >>> 16).setWidth 8,
    (BitVec.ofInt 32 v >>> 8).setWidth 8, (BitVec.ofInt 32 v).setWidth 8]

/-- The ms counter or a timestamp. -/
def putStamp (t : Stamp) : List Byte := put4 t.toNat

/-- A 1-byte value with a none mark: 0xFF for none (R183). -/
def put1Mark (v : Option Nat) : List Byte := put1 (v.getD 0xFF)

/-- A 2-byte value with a none mark: 0x8000 for none (R183). -/
def put2Mark (v : Option Int) : List Byte := put2 (v.getD (-32768))

/-- An optional 2-byte field: an absent one is sent as 0 (R183); its presence bit stands ahead of the entry. -/
def put2Opt (v : Option Int) : List Byte := put2 (v.getD 0)

/-- A duration or an age in ms, sent in two bytes and saturated at 65535 (R14, R58). -/
def age (now stamp : Stamp) : Nat := min 65535 (now - stamp).toNat

/-! ## Reading fields (R183) -/

/-- The 1-byte field at offset `i`. -/
def arg1 (bs : List Byte) (i : Nat) : Nat := (bs.getD i 0).toNat

/-- The unsigned 2-byte field at offset `i`. -/
def arg2 (bs : List Byte) (i : Nat) : Nat := 256 * arg1 bs i + arg1 bs (i + 1)

/-- The signed 2-byte field at offset `i`. -/
def arg2s (bs : List Byte) (i : Nat) : Int := (BitVec.ofNat 16 (arg2 bs i)).toInt

/-- Bit `k` of the set of flags at offset `i`. -/
def argBit (bs : List Byte) (i k : Nat) : Bool := (bs.getD i 0).getLsbD k

/-- A flag byte whose owning rule states no check: 0 is off, 1 is on, any other value reads as the free value of
Config (log 12). -/
def argFlag (bs : List Byte) (i : Nat) : Bool :=
  if bs.getD i 0 = 0 then false else if bs.getD i 0 = 1 then true else Config.oddFlag (bs.getD i 0)

/-- An optional signed field: present when bit `k` of the presence byte at `pres` is set (R183). -/
def argOpt (bs : List Byte) (pres k i : Nat) : Option Int :=
  if argBit bs pres k then some (arg2s bs i) else none

/-- A setting brought to the nearer end of its range, and whether that changed it (0.3). -/
def clampNat (lo hi v : Nat) : Nat × Bool :=
  if v < lo then (lo, true) else if v > hi then (hi, true) else (v, false)

/-- A signed setting brought to the nearer end of its range, and whether that changed it (0.3). -/
def clampInt (lo hi v : Int) : Int × Bool :=
  if v < lo then (lo, true) else if v > hi then (hi, true) else (v, false)

end Sys2Proof.Machine
end

