-- ==== Sys2Proof/Machine/Allocation.lean ====
section
/-! DEFINITION. The adapter, the allocation pass, the throttle and the telemetry frame (chapter 5, R178): what a sweep
completion does at PPC and EVR. -/

namespace Sys2Proof.Machine

/-! ## The adapter examination (R79 to R82) -/

/-- A stamp is after another (R2): their difference modulo 2^32 lies in 1..2,147,483,647. -/
def stampAfter (t s : Stamp) : Bool :=
  decide (1 ≤ (t - s).toNat) && decide ((t - s).toNat ≤ 2147483647)

/-- The adapter record on attaching (R80). -/
def attachedAdapter (stamp : Stamp) : Adapter := ⟨.pendingId, 0, some stamp, 0xFF, none, 2000⟩

def setAdapter (a : Adapter) (s : State) : State := { s with ppc := { s.ppc with adapter := a } }

/-- The adapter attaches (R80). -/
def attachAdapter (s : State) : State :=
  adapterChanged (route .adapterAttach 0 0 (setAdapter (attachedAdapter (s.sws.latest.get 0).stamp) s))

/-- The adapter detaches (R81): every setpoint and I_LIM to 0, the record cleared, the event, the hand-over. -/
def detachAdapter (s : State) : State :=
  adapterChanged (route .adapterDetach 0 0
    { s with ppc := { s.ppc.zeroBoth with iLim := 0, adapter := noAdapter } })

/-- The VAD examination (R80, R81). -/
def examineVad (s : State) : State :=
  let v := (s.sws.latest.get 0).value
  if s.ppc.adapter.present then (if v < 4000 then detachAdapter s else s)
  else if v < 4500 then setAdapter { s.ppc.adapter with run := 0 } s
  else if s.ppc.adapter.run + 1 ≥ 3 then attachAdapter s
  else setAdapter { s.ppc.adapter with run := s.ppc.adapter.run + 1 } s

/-- An adapter table entry contains an AID value (R82). -/
def aidMatches (v : Int) (e : Option AdapterEntry) : Bool :=
  match e with
  | some x => decide ((x.low : Int) ≤ v) && decide (v ≤ (x.high : Int))
  | none => false

/-- The record after an identification with AID value `v` (R82): the first matching entry, or UNKNOWN. -/
def identify (t : Table (Option AdapterEntry) 8) (a : Adapter) (v : Int) : Adapter :=
  match (List.finRange 8).find? fun i => aidMatches v (t.get i) with
  | some i =>
    { a with
      state := .identified
      iAL := ((t.get i).map AdapterEntry.rating).getD 2000
      cls := i.val
      aid := some v }
  | none => { a with state := .unknown, aid := some v }

/-- The AID examination (R82), while PENDING_ID. -/
def examineAid (s : State) : State :=
  let e := s.sws.latest.get 13
  if decide (s.ppc.adapter.state = .pendingId) && e.valid &&
      stampAfter e.stamp (s.ppc.adapter.attachStamp.getD 0) then
    let a := identify s.ppc.adapterTable s.ppc.adapter e.value
    route .adapterClass a.cls a.iAL (setAdapter a s)
  else s

/-! ## The pass (R87 to R94) -/

/-- Rounded down to a multiple of 32. -/
def qDown (x : Nat) : Nat := x / 32 * 32

/-- Rounded up to a multiple of 32. -/
def qUp (x : Nat) : Nat := (x + 31) / 32 * 32

/-- The ceiling of a quotient. -/
def ceilDiv (a b : Nat) : Nat := (a + b - 1) / b

/-- A fast channel's value, where its clamp range has no negative value. -/
def chNat (s : State) (ch : Fin 16) : Nat := ((s.sws.latest.get ch).value).toNat

/-- The mode (R87). -/
def allocMode (s : State) : AllocMode := if adapterAway s then .batteryOnly else .adapter

/-- I_EFF in ADAPTER mode (R87). In BATTERY_ONLY mode, for which R87 gives I_LIM alone, it is 0: DESIGN CHOICE
(log 36). -/
def effLimit (s : State) : Nat :=
  match allocMode s with
  | .batteryOnly => 0
  | .adapter => if s.ppc.iHL = 0 then s.ppc.adapter.iAL else min s.ppc.adapter.iAL s.ppc.iHL

/-- I_LIM (R87). -/
def inputLimit (s : State) : Nat := effLimit s * 31 / 32

/-- P_IN (R88). -/
def powerIn (s : State) : Nat := chNat s 0 * inputLimit s / 1000

/-- P_USE (R88). -/
def powerUse (s : State) : Nat := powerIn s * s.ppc.eta / 64

/-- P_SYS (R88). -/
def powerSys (s : State) : Nat := chNat s 2 * chNat s 3 / 1000

/-- The headroom H (R88). -/
def headroom (s : State) : Int := (powerUse s : Int) - powerSys s

/-- For pack B, the bay state is LATCHED (R89). -/
def bayAllows (s : State) (p : Pack) : Bool := decide (p = .a) || decide (s.ppc.bay.state = .latched)

/-- Charge-eligible (R89). -/
def chargeEligible (s : State) (p : Pack) : Bool :=
  (match (s.ppc.charge.get p).phase with
    | .precharge | .bulk | .taper => true
    | _ => false) &&
    decide ((s.ppc.path.get p).mode = .full) && decide (packVolt s p ≥ 5000) && bayAllows s p

/-- C_k (R89); 0 for a pack not eligible. -/
def chargeCap (s : State) (p : Pack) : Nat :=
  if chargeEligible s p then min (qDown (s.ppc.charge.get p).cap) 8064 else 0

/-- The record's SOC; an empty record counts as 0. -/
def packSoc (s : State) (p : Pack) : Nat :=
  match (s.ppt.ports.get p).record with
  | some r => r.soc
  | none => 0

/-- Path not OPEN and port ACTIVE: the pack can give current (R89). -/
def canGive (s : State) (p : Pack) : Bool :=
  decide ((s.ppc.path.get p).mode ≠ .opened) && decide ((s.ppt.ports.get p).state = .active)

/-- Boost-eligible (R89). -/
def boostEligible (s : State) (p : Pack) : Bool :=
  decide (allocMode s = .adapter) && s.ppc.boostOn && canGive s p && decide (packSoc s p ≥ s.ppc.boostFloor) &&
    decide (packVolt s p ≥ 5000) && decide (min (qDown (s.ppc.charge.get p).iDmax) 8064 ≥ 128) && bayAllows s p

/-- B_k of a boost-eligible pack (R89); 0 for a pack not eligible. -/
def boostCap (s : State) (p : Pack) : Nat :=
  if boostEligible s p then min (qDown (s.ppc.charge.get p).iDmax) 8064 else 0

/-- PB_k of a supplying pack in BATTERY_ONLY mode (R89); 0 for a pack that does not supply. -/
def supplyPower (s : State) (p : Pack) : Nat :=
  if canGive s p then packVolt s p * min (qDown (s.ppc.charge.get p).supplyCap) 8064 / 1000 else 0

/-- Pack B is taken before pack A at stage 4: its SOC is lower (R90). -/
def chargeBFirst (s : State) : Bool := decide (packSoc s .b < packSoc s .a)

/-- Pack B is taken before pack A at stage 5: its SOC is higher (R92). -/
def boostBFirst (s : State) : Bool := decide (packSoc s .a < packSoc s .b)

/-- Power shared between two packs in order (R90, R92): the first takes up to its cap, the second of what is left. -/
def share (bFirst : Bool) (capA capB total : Nat) : PerPack Nat :=
  if bFirst then ⟨min capA (total - min capB total), min capB total⟩
  else ⟨min capA total, min capB (total - min capA total)⟩

/-- The charge current setpoint of an assigned power (R90). -/
def chargeCurrent (power volt : Nat) : Nat :=
  if qDown (power * 1000 / volt) < 128 then 0 else qDown (power * 1000 / volt)

/-- The boost setpoint of an assigned power under the cap B_k (R92). -/
def boostCurrent (power volt b : Nat) : Nat :=
  let i := min (qUp (ceilDiv (power * 1000) volt)) b
  if power > 0 ∧ i < 128 then min 128 b else i

/-- PC_k or PB_k: the power of a cap at the pack's voltage (R89). -/
def capPower (s : State) (p : Pack) (cap : Nat) : Nat := packVolt s p * cap / 1000

/-- The charge setpoints of a pack at stage 4, with the voltage setpoint of R91. -/
def chargeSetpoint (s : State) (p : Pack) (power : Nat) : Setpoints :=
  let i := chargeCurrent power (packVolt s p)
  ⟨i, if i = 0 then 0 else (s.ppc.charge.get p).vChg, 0⟩

/-- The setpoints of stages 4 and 5 (R90, R92, R93). -/
def passSetpoints (s : State) : PerPack Setpoints :=
  if allocMode s = .batteryOnly then ⟨noSetpoints, noSetpoints⟩
  else if headroom s ≥ 0 then
    let ps := share (chargeBFirst s) (capPower s .a (chargeCap s .a)) (capPower s .b (chargeCap s .b))
      (headroom s).toNat
    ⟨chargeSetpoint s .a ps.a, chargeSetpoint s .b ps.b⟩
  else
    let ps := share (boostBFirst s) (capPower s .a (boostCap s .a)) (capPower s .b (boostCap s .b))
      (-headroom s).toNat
    ⟨⟨0, 0, boostCurrent ps.a (packVolt s .a) (boostCap s .a)⟩,
      ⟨0, 0, boostCurrent ps.b (packVolt s .b) (boostCap s .b)⟩⟩

/-- The uncovered deficit U (R90, R92, R93). -/
def uncovered (s : State) : Nat :=
  let d := (-headroom s).toNat
  match allocMode s with
  | .batteryOnly => d - (supplyPower s .a + supplyPower s .b)
  | .adapter =>
    let ps := share (boostBFirst s) (capPower s .a (boostCap s .a)) (capPower s .b (boostCap s .b)) d
    d - (ps.a + ps.b)

/-- The allocation result's figures (R97). -/
def passFigures (s : State) (w : Sweep) : Alloc where
  made := true
  sweep := w.number
  stamp := w.stamp
  mode := allocMode s
  iEff := effLimit s
  pIn := powerIn s
  pUse := powerUse s
  pSys := powerSys s
  h := headroom s
  u := uncovered s
  packs :=
    ⟨⟨chargeEligible s .a, boostEligible s .a, chargeCap s .a, boostCap s .a⟩,
      ⟨chargeEligible s .b, boostEligible s .b, chargeCap s .b, boostCap s .b⟩⟩

/-! ## The throttle (R95, R96) -/

/-- Stage 6 on the throttle state (R95). -/
def throttleNext (t : Throttle) (u : Nat) : Throttle :=
  match t.state with
  | .released => if u > 0 then ⟨.pending, 0⟩ else ⟨.released, 0⟩
  | .pending => if u > 0 then ⟨.asserted, 0⟩ else ⟨.released, 0⟩
  | .asserted => if u > 0 then ⟨.asserted, 0⟩ else ⟨.releasing, 1⟩
  | .releasing =>
    if u > 0 then ⟨.asserted, 0⟩
    else if t.count + 1 ≥ 8 then ⟨.released, 0⟩
    else ⟨.releasing, t.count + 1⟩

/-- Stage 6 (R95, R96): the throttle state, its event, then LTR. -/
def throttleStage (u : Nat) (s : State) : State :=
  let old := s.ppc.throttle
  let new := throttleNext old u
  let s1 := { s with ppc := { s.ppc with throttle := new } }
  redriveLtr
    (if new.state = .asserted ∧ old.state ≠ .asserted then route .throttleOn 0 u s1
     else if new.state = .released ∧ old.state = .releasing then route .throttleOff 0 0 s1
     else s1)

/-- The pass (R87 to R97): its figures are worked out, the throttle moves, the result is delivered whole. -/
def allocationPass (w : Sweep) (s : State) : State :=
  let figures := passFigures s w
  let points := passSetpoints s
  let lim := inputLimit s
  let t := throttleStage figures.u s
  { t with ppc := { t.ppc with alloc := figures, setpoints := points, iLim := lim } }

/-! ## The telemetry frame (R178) -/

/-- A pack's part of the telemetry frame (section 11.2). DESIGN CHOICE (log 11): bits 6 and 7 of its first byte are sent as
0. -/
def telemetryPack (s : State) (p : Pack) : List Byte :=
  put1 ((s.ppc.charge.get p).phase.num + 16 * (s.ppc.path.get p).mode.num) ++
    put1Mark (s.ppc.charge.get p).band ++ put2 (s.ppc.setpoints.get p).chargeI ++
    put2 (s.ppc.setpoints.get p).chargeV ++ put2 (s.ppc.setpoints.get p).boost

/-- An rpm as it is sent: one above 65535 is sent as 65535 (R183). -/
def putRpm (r : Nat) : List Byte := put2 (min 65535 r : Nat)

/-- A fan's part of the telemetry frame (section 11.2). -/
def telemetryFan (s : State) (f : Fan) : List Byte :=
  put1 (s.fnc.fans.get f).state.num ++ put2 (s.fnc.fans.get f).drive ++
    putRpm (fanRpm (s.fnc.configs.get f) (s.fnc.fans.get f))

/-- The fast channels, 0 to 7. -/
def fastChannels : List (Fin 16) := [0, 1, 2, 3, 4, 5, 6, 7]

/-- The slow channels, 8 to 15. -/
def slowChannels : List (Fin 16) := [8, 9, 10, 11, 12, 13, 14, 15]

/-- The part's telemetry frame, built from the state as it stands at the end of a pass (R178, section 11.2).
DESIGN CHOICE (log 11): bits 4 to 7 of bytes 48 and 59, which have no meaning, are sent as 0. -/
def telemetryFrame (s : State) : List Byte :=
  put1 s.ppc.alloc.sweep ++ putStamp s.ppc.alloc.stamp ++
    (fastChannels.flatMap fun ch => put2 (s.sws.latest.get ch).value) ++
    putFlags (fastChannels.map fun ch => (s.sws.latest.get ch).clamped) ++
    telemetryPack s .a ++ telemetryPack s .b ++ put2 s.ppc.iLim ++ put4 s.ppc.alloc.h ++ put4 s.ppc.alloc.u ++
    put1 (s.ppc.throttle.state.num + 4 * s.ppc.ltr.toNat + 8 * s.ppc.alloc.mode.num) ++
    telemetryFan s .one ++ telemetryFan s .two ++ put1 (s.ssc.state.num + 8 * s.ssc.mode.num)

/-- The end of a pass handed to EVR (R178): with the due mark set, the frame is built and placed. -/
def endOfPass (s : State) : State :=
  if s.evr.due then
    { s with evr := { (s.evr.setBulk .telemetry (some (telemetryFrame s))) with due := false } }
  else s

/-- A sweep completion at PPC (chapter 5): the adapter examination, the two phase steps, the pass, the bay
examination (R97, R55), and the end of the pass handed to EVR. DESIGN CHOICE (log 39): pack A's phase step comes before pack
B's. -/
def completeAtPpc (w : Sweep) (s : State) : State :=
  endOfPass (examineBay (allocationPass w (phaseStep .b (phaseStep .a (examineAid (examineVad s))))))

end Sys2Proof.Machine
end

