-- ==== Sys2Proof/Machine/LinkOps.lean ====
section
/-! DEFINITION. The service link controller's operations (chapter 11): receiving bytes (R182, R184), executing the
request at the head of the buffer (R184, R185), and sending (R183, R187). -/

namespace Sys2Proof.Machine

/-- The outcome of a command. -/
abbrev Result := Host.Outcome State Fault Refusal

/-! ## Receiving (R182, R184) -/

/-- LINK_ERROR with its error kind as value (R182, R184). -/
def linkError (kind : Nat) (s : State) : State := route .linkError 0 kind s

/-- One more framing error of the given kind (R182). -/
def framingError (kind : Nat) (s : State) : State :=
  linkError kind { s with slc := { s.slc with framingErrors := sat255 s.slc.framingErrors } }

/-- A frame without error at the request buffer (R184): taken, or an overrun while four are held. -/
def bufferRequest (r : Request) (s : State) : State :=
  if s.slc.requests.length < 4 then { s with slc := { s.slc with requests := s.slc.requests ++ [r] } }
  else linkError 5 { s with slc := { s.slc with overrun := true } }

/-- The judgement of a frame that has ended (R182). -/
def serviceEvent (e : LineEvent) (s : State) : State :=
  match e with
  | .lengthError => framingError 2 s
  | .checkError => linkError 1 { s with slc := { s.slc with checkErrors := sat255 s.slc.checkErrors } }
  | .frame f =>
    if f.kind = 0x8 then bufferRequest ⟨.request, f.tag, f.payload⟩ s
    else if f.kind = 0x9 then bufferRequest ⟨.pass, f.tag, f.payload⟩ s
    else framingError 3 s

/-- The gap timer after a byte (R182): restarted inside a frame, stopped outside. -/
def gapAfter (rx : Rx) : Timer :=
  match rx with
  | .hunting => none
  | .inFrame _ => some 2

/-- One byte on SLRX (R182). -/
def serviceByte (s : State) (b : Byte) : State :=
  let t := { s with slc := { s.slc with rx := (rxFeed s.slc.rx b).1, gapTimer := gapAfter (rxFeed s.slc.rx b).1 } }
  match (rxFeed s.slc.rx b).2 with
  | some e => serviceEvent e t
  | none => t

/-- The bytes of a receive command, one after another. -/
def receiveService (bytes : List Byte) (s : State) : State := bytes.foldl serviceByte s

/-! ## Executing a request (R184, R185) -/

/-- What the owner of a request makes of it: the state it leaves, the result code, the reply's data (none with a
refusal, R183), and whether a pending link-down is tied to the reply (R157). -/
structure Answer where
  state : State
  code : ResultCode
  data : List Byte
  linkDown : Bool
deriving DecidableEq, Repr

/-- A refused request changes nothing and carries no data (0.3, R183). -/
def refuse (c : ResultCode) (s : State) : Answer := ⟨s, c, [], false⟩

/-- A request answered OK. -/
def accept (s : State) (data : List Byte) : Answer := ⟨s, .ok, data, false⟩

/-- A setting answered OK, or OK_CLAMPED when a value was clamped (0.3). -/
def acceptClamped (clamped : Bool) (s : State) (data : List Byte) : Answer := ⟨s, okIf clamped, data, false⟩

/-- The request at the head leaves the buffer (R184). -/
def popRequest (s : State) : State := { s with slc := { s.slc with requests := s.slc.requests.tail } }

/-- The answer's reply enters the reply queue with the request's tag (R184). -/
def answerWith (tag : Nat) (a : Answer) : State := enqueueReply ⟨tag, a.code, a.data, a.linkDown⟩ a.state

/-- The head of the request buffer is the request of number `num`. -/
def headIs (num : Nat) (r : Request) : Bool :=
  decide (r.kind = .request) && decide (r.payload.head? = some (BitVec.ofNat 8 num))

/-- The request of number `num` executes in its turn (R184): it stands at the head of the buffer and the reply queue
can take its reply (R185). Otherwise nothing happens: it waits, or it is not there (log 10). -/
def runRequest (num : Nat) (owner : List Byte → State → Answer) (s : State) : State :=
  match s.slc.requests with
  | [] => s
  | r :: _ =>
    if headIs num r && replyRoom s then answerWith r.tag (owner r.payload.tail (popRequest s)) else s

/-- The request numbers of the catalog (section 11.3). -/
def knownRequests : List Byte :=
  [0x01, 0x02, 0x03, 0x04, 0x05, 0x06, 0x07, 0x08, 0x09, 0x0A, 0x0B, 0x0C, 0x0D, 0x10, 0x11, 0x12, 0x13, 0x14, 0x15,
    0x16, 0x17, 0x18, 0x19, 0x20, 0x21, 0x22, 0x23, 0x24, 0x25, 0x26, 0x27, 0x28, 0x29, 0x2A, 0x2B]

/-- The answer SLC gives to a REQUEST that reaches no block (R184): of length 0, or with an unknown number. -/
def unknownCode (r : Request) : Option ResultCode :=
  match r.kind, r.payload with
  | .request, [] => some .badLength
  | .request, n :: _ => if knownRequests.contains n then none else some .unknownRequest
  | .pass, _ => none

/-- UNKNOWN_REQUEST (R184). -/
def answerUnknown (s : State) : State :=
  match s.slc.requests with
  | [] => s
  | r :: _ =>
    match unknownCode r with
    | some c => if replyRoom s then answerWith r.tag (refuse c (popRequest s)) else s
    | none => s

/-! ## Sending (R183, R187) -/

/-- The data of a reply cut into frames of 59 data bytes (R183); `fuel` bounds the number of frames. -/
def cutData : Nat → List Byte → List (List Byte)
  | 0, d => [d]
  | fuel + 1, d => if d.length ≤ 59 then [d] else d.take 59 :: cutData fuel (d.drop 59)

/-- The REPLY frames of the pieces of a reply's data: byte 0 holds the result code and, in its high nibble, the
number of frames that still follow (R183). -/
def replyPieces (tag : Nat) (code : ResultCode) : List (List Byte) → List (List Byte)
  | [] => []
  | d :: rest =>
    frameBytes 0x1 tag (BitVec.ofNat 8 (16 * rest.length + code.num) :: d) :: replyPieces tag code rest

/-- The frames of a whole reply (R183). -/
def replyFrames (r : Reply) : List (List Byte) := replyPieces r.tag r.code (cutData r.data.length r.data)

/-- An event record's twelve bytes (section 11.2). -/
def eventBytes (r : EventRecord) : List Byte :=
  put1 r.code.num ++ put1 r.source ++ put1 r.count ++ putFlags [r.wake, r.start, r.acted] ++ putStamp r.stamp ++
    put4 r.value

/-- A key record's seven bytes (section 11.2). -/
def keyBytes (r : KeyRecord) : List Byte :=
  put1 r.position.val ++ put1 r.code ++ putFlags [r.release, decide (r.layer = .fn), r.synthetic] ++ putStamp r.stamp

/-- The frame of a normal-queue record: RECORD with tag 2, or KEY with tag 2 (section 11.2). -/
def normalFrame : NormalRecord → List Byte
  | .event r => frameBytes 0x2 2 (eventBytes r)
  | .key r => frameBytes 0x3 2 (keyBytes r)

/-- The frame of a bulk slot: RELAY with tag 0 or 1, or TELEMETRY with tag 1 (section 11.2). -/
def bulkFrame (b : BulkSlot) (payload : List Byte) : List Byte :=
  match b with
  | .relayA => frameBytes 0x5 0 payload
  | .relayB => frameBytes 0x5 1 payload
  | .telemetry => frameBytes 0x4 1 payload

def setTx (t : Option Tx) (s : State) : State := { s with slc := { s.slc with tx := t } }

/-- SLC takes the head of the urgent queue (R174) and sends it as RECORD with tag 3. -/
def sendUrgent (r : EventRecord) (s : State) : State :=
  setTx (some ⟨.urgent, [frameBytes 0x2 3 (eventBytes r)]⟩)
    { s with evr := { s.evr with urgent := s.evr.urgent.tail } }

/-- SLC takes the head of the normal queue (R176); a GAP with the key mark is handed to KMS (R116). -/
def sendNormal (r : NormalRecord) (s : State) : State :=
  setTx (some ⟨.normal, [normalFrame r]⟩)
    { s with
      evr := s.evr.afterNormalTake s.tmb.ms
      kms := if s.evr.gapDue && s.evr.keyMark then s.kms.unannounced else s.kms }

/-- SLC takes the frame of a bulk slot (R177): the slot is emptied and the rotation moves past it. -/
def sendBulk (b : BulkSlot) (s : State) : State :=
  setTx (some ⟨.bulk, [bulkFrame b ((s.evr.bulk b).getD [])]⟩)
    { s with evr := { (s.evr.setBulk b none) with rotation := b.next } }

/-- The free transmitter takes the first thing present (R187). -/
def startTransmit (s : State) : State :=
  match s.slc.tx with
  | some _ => s
  | none =>
    match s.slc.replies with
    | r :: _ => setTx (some ⟨.reply, replyFrames r⟩) s
    | [] =>
      if s.slc.linkUp then
        match s.evr.urgent, s.evr.normal, s.evr.bulkPick with
        | r :: _, _, _ => sendUrgent r s
        | [], r :: _, _ => sendNormal r s
        | [], [], some b => sendBulk b s
        | [], [], none => s
      else s

/-- The head reply leaves the queue (R185); a pending link-down tied to it sets the link DOWN (R157, R186). -/
def departReply (c : Slc) : Slc :=
  match c.replies with
  | [] => c
  | r :: rest => { c with replies := rest, linkUp := c.linkUp && !r.linkDown }

/-- The last byte of a frame leaves SLTX (R187): the next frame of the same reply follows back to back, or the
transmitter is free and a completed reply leaves the queue. -/
def endTransmit (s : State) : State :=
  match s.slc.tx with
  | none => s
  | some t =>
    match t.frames with
    | _ :: next :: rest => setTx (some ⟨t.source, next :: rest⟩) s
    | _ =>
      match t.source with
      | .reply => setTx none { s with slc := departReply s.slc }
      | _ => setTx none s

/-! ## RESTART_LINK (R190) -/

/-- The replies that RESTART_LINK keeps: one whose transmission has begun (R190). -/
def begunReplies (c : Slc) : List Reply :=
  match c.tx with
  | some ⟨.reply, _⟩ => c.replies.take 1
  | _ => []

/-- The replies that RESTART_LINK removes (R190). -/
def removedReplies (c : Slc) : List Reply :=
  match c.tx with
  | some ⟨.reply, _⟩ => c.replies.drop 1
  | _ => c.replies

/-- Steps 1 to 3 of R190 at SLC; the removal of a SLEEP reply ends its pending link-down with the link DOWN. -/
def restartSlc (c : Slc) : Slc :=
  { c with
    requests := []
    replies := begunReplies c
    linkUp := c.linkUp && !(removedReplies c).any (fun r => r.linkDown)
    checkErrors := 0
    framingErrors := 0
    overrun := false }

/-- RESTART_LINK at a pass-through slot (R48). -/
def PassSlot.restart (x : PassSlot) : PassSlot :=
  match x.state with
  | .waiting => { x with discard := true }
  | .resolved => { x with state := .idle, held := none }
  | .idle => x

/-- A pending link-down stands (R157). -/
def linkDownPending (c : Slc) : Bool := c.replies.any fun r => r.linkDown

end Sys2Proof.Machine
end

