-- ==== Sys2Proof/Machine/Time.lean ====
section
/-! DEFINITION. Reset, the millisecond tick, the tach capture and the sweep (chapter 1): RESET, TICK_EXPIRY,
TACH_EDGE, SWEEP_START, CONVERSION_COMPLETE, SWEEP_COMPLETION. -/

namespace Sys2Proof.Machine

/-! ## RESET -/

/-- The start cause that a reset records (R166): what the rail did, or RSTIN with the rail in order; none where
neither happens, and then there is no reset. -/
def startCauseOf (rail : Option RailCause) (rstin : Bool) : Option StartCause :=
  match rail with
  | some .powerOn => some .powerOn
  | some .supplyDip => some .supplyDip
  | none => if rstin then some .resetPin else none

/-- RESET (R15, section 0.3): every block takes its reset state, whatever it was doing. -/
def execReset (rail : Option RailCause) (rstin : Bool) (prsA prsB : Bool) (s : State) : Result :=
  match startCauseOf rail rstin with
  | some c => .next (State.afterReset c prsA prsB s.pending)
  | none => .next s

/-! ## TICK_EXPIRY -/

/-- The accumulator after the tick's 768 (R1). -/
def nextAcc (acc : Nat) : Nat := if acc + 768 ≥ 1000 then acc + 768 - 1000 else acc + 768

/-- The length in clock periods of the tick that begins at an accumulator value (R1). -/
def tickLength (acc : Nat) : Nat := if acc + 768 ≥ 1000 then 33 else 32

/-- The timebase at a tick expiry (R1, R2). -/
def Tmb.tick (t : Tmb) : Tmb :=
  { t with acc := nextAcc t.acc, ms := t.ms + 1, clockPeriods := t.clockPeriods + tickLength t.acc }

/-- The sample of an input whose level is taken (R125): the run count, and whether the debounce is complete. -/
def Input.sampleTaken (x : Input) (level raw : Bool) : Input :=
  if raw = level then { x with run := 0 }
  else { x with run := x.run + 1, due := decide (x.run + 1 ≥ x.time) }

/-- The sample of an input whose level is not taken (R126). The first sample is the first of the run. -/
def Input.sampleUntaken (x : Input) (raw : Bool) : Input :=
  if x.reference = some raw then { x with run := x.run + 1, due := decide (x.run + 1 ≥ x.time) }
  else { x with reference := some raw, run := 1, due := decide (1 ≥ x.time) }

/-- One sample at one input (R124). A completion that is due is an event of its own and is taken before the input is
sampled again (log 5). -/
def Input.sample (x : Input) (raw : Bool) : Input :=
  if x.due then x
  else
    match x.level with
    | some level => x.sampleTaken level raw
    | none => x.sampleUntaken raw

/-- The switch inputs at a tick expiry: the four samples (R124) and the hold timer (R130). -/
def Swi.tick (w : Swi) (raw : SwitchLevels) : Swi :=
  { w with
    lid := w.lid.sample raw.lid
    hinge := w.hinge.sample raw.hinge
    pwrbtn := w.pwrbtn.sample raw.pwrbtn
    baylatch := w.baylatch.sample raw.baylatch
    holdCount := if w.holdRunning then min 10000 (w.holdCount + 1) else w.holdCount }

/-- A port's timers at a tick expiry (R38, R39, R47). -/
def Port.tick (x : Port) : Port :=
  { x with
    presenceTimer := timerTick x.presenceTimer
    silenceTimer := timerTick x.silenceTimer
    staleTimer := timerTick x.staleTimer
    slot := { x.slot with timer := timerTick x.slot.timer } }

/-- A fan's timers at a tick expiry (R144, R146, R147). -/
def FanState.tick (f : FanState) : FanState :=
  { f with kickTimer := timerTick f.kickTimer, silenceTimer := timerTick f.silenceTimer }

/-- A host slot's stale timer at a tick expiry (R139). -/
def HostSlot.tick (x : HostSlot) : HostSlot := { x with timer := timerTick x.timer }

/-- The fan controller at a tick expiry (R139, R140, R143). -/
def Fnc.tick (f : Fnc) : Fnc :=
  { f with
    fans := f.fans.map FanState.tick
    slots := f.slots.map HostSlot.tick
    overrideTimer := timerTick f.overrideTimer
    evalCountdown := f.evalCountdown - 1 }

/-- The state controller's timers at a tick expiry (R158, R159, R163). -/
def Ssc.tick (x : Ssc) : Ssc :=
  { x with
    bootTimer := timerTick x.bootTimer
    wakeTimer := timerTick x.wakeTimer
    haltTimer := timerTick x.haltTimer
    graceTimer := timerTick x.graceTimer }

/-- What a tick expiry does (R1 to R3): every count of tick expiries in the part advances by one. -/
def tickState (raw : SwitchLevels) (s : State) : State :=
  { s with
    tmb := s.tmb.tick
    sws := { s.sws with countdown := s.sws.countdown - 1 }
    ppt := { s.ppt with ports := s.ppt.ports.map Port.tick }
    ppc := { s.ppc with charge := ⟨packTick s .a, packTick s .b⟩ }
    kms := { s.kms with countdown := s.kms.countdown.map (· - 1), exited := false }
    swi := s.swi.tick raw
    fnc := s.fnc.tick
    ssc := s.ssc.tick
    evr := { s.evr with periodTimer := timerTick s.evr.periodTimer }
    slc := { s.slc with gapTimer := timerTick s.slc.gapTimer } }

/-- TICK_EXPIRY (R1). -/
def execTickExpiry (raw : SwitchLevels) (s : State) : Result := .next (tickState raw s)

/-! ## TACH_EDGE -/

/-- A capture channel after an edge (R4). -/
def Capture.edge (c : Capture) : Capture := { c with count := 0, reference := true }

/-- The interval an edge carries (R4). -/
def Capture.interval (c : Capture) (us : Nat) : Option Nat :=
  if c.reference then some (min 65535 (c.count + us)) else none

/-- Points 1 and 2 of R146 at a fan. -/
def FanState.tachEdge (f : FanState) (interval : Option Nat) : FanState :=
  { f with
    interval := match interval with
      | some i => some (max 1 i)
      | none => f.interval
    silent := false
    silenceTimer := some 1000 }

def setFan (f : Fan) (x : FanState) (s : State) : State :=
  { s with fnc := { s.fnc with fans := s.fnc.fans.set f x } }

/-- A fan that recovers (R147). -/
def FanState.recovered (f : FanState) (m : PartMode) : FanState :=
  { f with retries := 0, kickTimer := none }.enterRunning m

/-- What FNC makes of a tach edge (R146). -/
def fanEdge (f : Fan) (interval : Option Nat) (s : State) : State :=
  let x := (s.fnc.fans.get f).tachEdge interval
  let s1 := setFan f x s
  if x.state = .stallRetry then
    let s2 := route .fanRecovered (fanNum f) x.retries s1
    setFan f ((s2.fnc.fans.get f).recovered s2.ssc.mode) s2
  else s1

/-- TACH_EDGE (R4, R146): captured in FULL only. -/
def execTachEdge (f : Fan) (us : Nat) (s : State) : Result :=
  let c := s.tmb.capture.get f
  if c.running then
    .next (fanEdge f (c.interval us) { s with tmb := { s.tmb with capture := s.tmb.capture.set f c.edge } })
  else .next s

/-! ## The sweep -/

/-- The sweep period of a part mode (R7). -/
def sweepPeriod : PartMode → Nat
  | .full => 2
  | .quiet => 1000

/-- A schedule entry claims sweep `n` (R9). -/
def SlotEntry.claims (e : SlotEntry) (n : Nat) : Bool := e.enable && decide (n % e.rep = e.off)

/-- The slow channel chosen for sweep `n`, numbered from channel 8 (R9). -/
def chosenSlot (t : Table SlotEntry 8) (n : Nat) : Option (Fin 8) :=
  (List.finRange 8).find? fun i => (t.get i).claims n

/-- SWEEP_START (R7, R9), when the countdown stands at 0 and no sweep is in progress (log 23). -/
def execSweepStart (s : State) : Result :=
  if s.sws.countdown = 0 ∧ s.sws.sweep = none then
    .next
      { s with
        sws := { s.sws with
          countdown := sweepPeriod s.ssc.mode
          sweep := some ⟨s.sws.counter, chosenSlot s.sws.schedule s.sws.counter, 0, false, s.tmb.ms⟩ } }
  else .next s

/-- Slow channel `8 + i`. -/
def slowChannel (i : Fin 8) : Fin 16 := ⟨8 + i.val, by omega⟩

/-- The channel whose conversion completes next in a sweep (R8): 0 to 7 in order, then the chosen slow channel. -/
def Sweep.next (w : Sweep) : Option (Fin 16) :=
  if h : w.fast < 8 then some ⟨w.fast, by omega⟩
  else if w.slotDone then none
  else w.slot.map slowChannel

/-- A sweep after a conversion. -/
def Sweep.advance (w : Sweep) : Sweep :=
  if w.fast < 8 then { w with fast := w.fast + 1 } else { w with slotDone := true }

/-- The sample that a conversion produces (R5, R8). -/
def sampleOf (ch : Fin 16) (value : Int) (number : Nat) (now : Stamp) : Sample :=
  let v := clampInt (clampRange ch).1 (clampRange ch).2 value
  ⟨true, v.2, v.1, number, now⟩

/-- One conversion of sweep `w`: the latest-sample entry is replaced and the sample handed to LMT (R8). -/
def convert (ch : Fin 16) (value : Int) (w : Sweep) (s : State) : State :=
  let x := sampleOf ch value w.number s.tmb.ms
  judgeSample ch x.value
    { s with sws := { s.sws with latest := s.sws.latest.set ch x, sweep := some w.advance } }

/-- CONVERSION_COMPLETE (R5, R8), for the channel whose turn it is in the sweep in progress (log 7). -/
def execConversionComplete (ch : Fin 16) (value : Int) (s : State) : Result :=
  match s.sws.sweep with
  | some w => if w.next = some ch then .next (convert ch value w s) else .next s
  | none => .next s

/-- SWS once a sweep is complete (R8): no sweep in progress, the counter advanced modulo 64. -/
def Sws.completed (x : Sws) : Sws := { x with counter := (x.counter + 1) % 64, sweep := none }

/-- SWEEP_COMPLETION (R8, R97), when every conversion of the sweep is done. -/
def execSweepCompletion (s : State) : Result :=
  match s.sws.sweep with
  | some w =>
    if w.next = none then
      let t := completeAtPpc w s
      .next { t with sws := t.sws.completed }
    else .next s
  | none => .next s

end Sys2Proof.Machine
end

