-- ==== Sys2Proof/Machine/Fans.lean ====
section
/-! DEFINITION. Fans (chapter 8): FAN_EVALUATION, the fan timers, the host temperature slots and the override,
LOAD_FAN_CURVE, READ_FANS, and FNC's part of CLEAR_FAULTS. -/

namespace Sys2Proof.Machine

/-! ## Evaluation (R140 to R144) -/

/-- A host slot is usable (R139): refreshed, and the system neither OFF nor in STANDBY. -/
def slotUsable (st : SysState) (x : HostSlot) : Bool :=
  x.refreshed && decide (st ≠ .off) && decide (st ≠ .standby)

/-- A channel source of a mask (R140). -/
def channelSource (named : Bool) (ch : Fin 16) (s : State) : Option Int := if named then usableTemp s ch else none

/-- A host slot source of a mask (R140). -/
def hostSource (named : Bool) (i : Fin 4) (s : State) : Option Int :=
  if named && slotUsable s.ssc.state (s.fnc.slots.get i) then some (s.fnc.slots.get i).value else none

/-- The governing temperature of a curve (R140): the highest of the usable sources its mask names. -/
def curveTemp (m : Sources) (s : State) : Option Int :=
  higher (channelSource m.tch 10 s) (higher (channelSource m.tsk 11 s) (higher (channelSource m.tfz 12 s)
    (higher (hostSource m.h0 0 s) (higher (hostSource m.h1 1 s)
      (higher (hostSource m.h2 2 s) (hostSource m.h3 3 s))))))

/-- Reference, curve duty and governing temperature after an evaluation in FULL (R140 to R142). -/
def FanState.readCurve (f : FanState) (c : Curve) (t : Option Int) : FanState :=
  match t with
  | some v =>
    let r := moveReference f.fresh f.reference v c.hyst
    { f with reference := r, fresh := false, curveDuty := curveValue c.points r, governing := some v }
  | none => { f with curveDuty := c.failsafe, governing := none }

/-- The curve duty of an evaluation in QUIET: 0, no curve read (R140, R149; log 22). -/
def FanState.quietCurve (f : FanState) : FanState := { f with curveDuty := 0, governing := none }

/-- The demand of R142. -/
def demandOf (fanFull : Bool) (m : PartMode) (curveDuty override minDuty : Nat) : Nat :=
  let d :=
    if fanFull then 1000
    else
      match m with
      | .full => max curveDuty override
      | .quiet => curveDuty
  if d = 0 then 0 else max d minDuty

/-- One evaluation of one fan (R140 to R144). -/
def evaluateFan (f : Fan) (s : State) : State :=
  let c := s.fnc.curveOf f
  let x :=
    match s.ssc.mode with
    | .full => (s.fnc.fans.get f).readCurve c (curveTemp c.sources s)
    | .quiet => (s.fnc.fans.get f).quietCurve
  setFan f
    (x.setDemand
      (demandOf (s.lmt.actionSet.contains .fanFull) s.ssc.mode x.curveDuty s.fnc.overrideDuty c.minDuty)) s

/-- FAN_EVALUATION (R140), when the evaluation countdown stands at 0. -/
def execFanEvaluation (s : State) : Result :=
  if s.fnc.evalCountdown = 0 then
    .next (evaluateFan .two (evaluateFan .one { s with fnc := { s.fnc with evalCountdown := 100 } }))
  else .next s

/-! ## Fan timers (R144, R146, R147) -/

/-- The end of a kick (R144). -/
def FanState.kickEnd (f : FanState) (m : PartMode) : FanState :=
  if f.demand = 0 then { f with state := .off, kickTimer := none }
  else { f with kickTimer := none }.enterRunning m

/-- KICK_END (R144). -/
def execKickEnd (f : Fan) (s : State) : Result :=
  let x := s.fnc.fans.get f
  if x.state = .kick ∧ timerDue x.kickTimer then .next (setFan f (x.kickEnd s.ssc.mode) s) else .next s

/-- A retry that begins, or a lockout after the third (R147). -/
def FanState.retryEnd (x : FanState) : FanState :=
  if x.retries < 3 then { x with retries := x.retries + 1, kickTimer := some 500 }
  else { x with state := .stallLockout, kickTimer := none }

/-- RETRY_KICK_END (R147). -/
def execRetryKickEnd (f : Fan) (s : State) : Result :=
  let x := s.fnc.fans.get f
  if x.state = .stallRetry ∧ timerDue x.kickTimer then
    if x.retries < 3 then .next (setFan f x.retryEnd s)
    else .next (route .fanLockout (fanNum f) 3 (setFan f x.retryEnd s))
  else .next s

/-- A stall (R147). -/
def FanState.stalled (x : FanState) : FanState :=
  { x with state := .stallRetry, retries := 1, kickTimer := some 500 }

/-- TACH_SILENCE_TIMEOUT (R146, R147). -/
def execTachSilenceTimeout (f : Fan) (s : State) : Result :=
  let x := s.fnc.fans.get f
  if timerDue x.silenceTimer then
    let s1 := setFan f { x with silent := true, silenceTimer := none } s
    if x.state = .running ∧ (s.fnc.configs.get f).stallCheck then
      let s2 := route .fanStall (fanNum f) 0 s1
      .next (setFan f (s2.fnc.fans.get f).stalled s2)
    else .next s1
  else .next s

/-! ## Host slots and override (R139, R143) -/

def setSlot (i : Fin 4) (x : HostSlot) (s : State) : State :=
  { s with fnc := { s.fnc with slots := s.fnc.slots.set i x } }

/-- HOST_TEMP_STALE (R139). -/
def execHostTempStale (i : Fin 4) (s : State) : Result :=
  let x := s.fnc.slots.get i
  if timerDue x.timer then
    .next (route .hostTempStale i.val x.value (setSlot i { x with refreshed := false, timer := none } s))
  else .next s

/-- No override in force (R143). -/
def Fnc.noOverride (f : Fnc) : Fnc := { f with overrideDuty := 0, overrideTimer := none }

/-- OVERRIDE_EXPIRY (R143). -/
def execOverrideExpiry (s : State) : Result :=
  if timerDue s.fnc.overrideTimer then .next { s with fnc := s.fnc.noOverride } else .next s

/-- The values of SET_HOST_TEMPS for the slots its mask names, in slot order (R139): slot, value brought into
−400..1500, and whether it was clamped. -/
def namedTemps (bs : List Byte) : List (Fin 4 × Int × Bool) :=
  let named := (List.finRange 4).filter fun i => argBit bs 0 i.val
  named.zipIdx.map fun x => (x.1, clampInt (-400) 1500 (arg2s bs (1 + 2 * x.2)))

/-- One slot refreshed (R139). -/
def refreshSlot (s : State) (x : Fin 4 × Int × Bool) : State := setSlot x.1 ⟨x.2.1, true, some 5000⟩ s

/-- The SET_HOST_TEMPS data (R139): each slot's value and refreshed flag. -/
def slotsBytes (t : Table HostSlot 4) : List Byte := t.list.flatMap fun x => put2 x.value ++ putFlag x.refreshed

def setHostTemps (bs : List Byte) (s : State) : Answer :=
  if bs.length < 1 then refuse .badLength s
  else if arg1 bs 0 = 0 ∨ arg1 bs 0 > 15 then refuse .badArgument s
  else if bs.length ≠ 1 + 2 * (namedTemps bs).length then refuse .badLength s
  else
    let t := (namedTemps bs).foldl refreshSlot s
    acceptClamped ((namedTemps bs).any fun x => x.2.2) t (slotsBytes t.fnc.slots)

/-- SET_HOST_TEMPS (R139). -/
def execSetHostTemps (s : State) : Result := .next (runRequest 0x25 setHostTemps s)

/-- The SET_FAN_OVERRIDE data (R143): the duty in force and the timer's remaining count. -/
def overrideBytes (f : Fnc) : List Byte := put2 (f.overrideDuty : Nat) ++ put2 (timerLeft f.overrideTimer : Nat)

def setFanOverride (bs : List Byte) (s : State) : Answer :=
  if bs.length ≠ 3 then refuse .badLength s
  else if arg2 bs 0 = 0 then accept { s with fnc := s.fnc.noOverride } (overrideBytes s.fnc.noOverride)
  else
    let d := clampNat 0 1000 (arg2 bs 0)
    let e := clampNat 1 60 (arg1 bs 2)
    let f := { s.fnc with overrideDuty := d.1, overrideTimer := some (e.1 * 1000) }
    acceptClamped (d.2 || e.2) { s with fnc := f } (overrideBytes f)

/-- SET_FAN_OVERRIDE (R143). -/
def execSetFanOverride (s : State) : Result := .next (runRequest 0x26 setFanOverride s)

/-! ## LOAD_FAN_CURVE (R136) -/

/-- A fan by its number (R136). -/
def fanOf (n : Nat) : Option Fan := if n = 1 then some .one else if n = 2 then some .two else none

/-- The points of a LOAD_FAN_CURVE (section 11.2), from offset 9 on. -/
def pointsAt (bs : List Byte) (n : Nat) : List (Int × Nat) :=
  (List.range n).map fun i => (arg2s bs (9 + 4 * i), arg2 bs (11 + 4 * i))

/-- The curve of a LOAD_FAN_CURVE (section 11.2): fan, set code, source mask, point count, hysteresis, minimum running
duty, failsafe duty, points. -/
def curveAt (bs : List Byte) : Curve where
  sources := Sources.ofByte (bs.getD 2 0)
  points := pointsAt bs (arg1 bs 3)
  hyst := arg1 bs 4
  minDuty := arg2 bs 5
  failsafe := arg2 bs 7

/-- Temperatures strictly ascending. -/
def ascending : List (Int × Nat) → Bool
  | x :: y :: rest => decide (x.1 < y.1) && ascending (y :: rest)
  | _ => true

/-- The ranges of R134, the order of the points, and a mask of the seven sources (R136, check 4). -/
def curveValid (mask : Nat) (c : Curve) : Bool :=
  decide (mask < 128) && decide (c.hyst ≤ 100) && decide (c.minDuty ≤ 1000) && decide (c.failsafe ≤ 1000) &&
    (c.points.all fun p => decide (-400 ≤ p.1) && decide (p.1 ≤ 1500) && decide (p.2 ≤ 1000)) &&
    ascending c.points

/-- A curve replaced whole (R136). -/
def loadCurve (f : Fan) (i : Fin 3) (c : Curve) (s : State) : State :=
  { s with fnc := { s.fnc with curves := s.fnc.curves.set f ((s.fnc.curves.get f).set i c) } }

/-- A fan whose stall check is turned off (R136): out of STALL_RETRY into RUNNING, with no event. -/
def FanState.stallCheckOff (x : FanState) (m : PartMode) : FanState :=
  if x.state = .stallRetry then { x with retries := 0, kickTimer := none }.enterRunning m else x

/-- A configuration replaced whole (R136). -/
def loadConfig (f : Fan) (c : FanConfig) (s : State) : State :=
  let t := { s with fnc := { s.fnc with configs := s.fnc.configs.set f c } }
  if (s.fnc.configs.get f).stallCheck && !c.stallCheck then
    setFan f ((s.fnc.fans.get f).stallCheckOff s.ssc.mode) t
  else t

/-- LOAD_FAN_CURVE with set code 0 to 2 (R136, checks 2 to 4). -/
def loadFanSet (f : Fan) (i : Fin 3) (bs : List Byte) (s : State) : Answer :=
  if bs.length < 4 then refuse .badLength s
  else if arg1 bs 3 < 2 ∨ 8 < arg1 bs 3 then refuse .invalidTable s
  else if bs.length ≠ 9 + 4 * arg1 bs 3 then refuse .badLength s
  else if curveValid (arg1 bs 2) (curveAt bs) then accept (loadCurve f i (curveAt bs) s) []
  else refuse .invalidTable s

/-- LOAD_FAN_CURVE with set code 3 (R136, checks 3 and 4). -/
def loadFanConfig (f : Fan) (bs : List Byte) (s : State) : Answer :=
  if bs.length ≠ 4 then refuse .badLength s
  else if arg1 bs 2 < 1 ∨ 4 < arg1 bs 2 ∨ 1 < arg1 bs 3 then refuse .invalidTable s
  else accept (loadConfig f ⟨arg1 bs 2, decide (arg1 bs 3 = 1)⟩ s) []

def loadFanCurve (bs : List Byte) (s : State) : Answer :=
  if bs.length < 2 then refuse .badLength s
  else
    match fanOf (arg1 bs 0) with
    | none => refuse .badArgument s
    | some f =>
      if h : arg1 bs 1 < 3 then loadFanSet f ⟨arg1 bs 1, h⟩ bs s
      else if arg1 bs 1 = 3 then loadFanConfig f bs s
      else refuse .badArgument s

/-- LOAD_FAN_CURVE (R136). -/
def execLoadFanCurve (s : State) : Result := .next (runRequest 0x14 loadFanCurve s)

/-! ## READ_FANS (R150) -/

/-- One fan's part of the reply (R150). DESIGN CHOICE (log 11): the interval in microseconds takes two bytes, unsigned. -/
def fanBytes (cfg : FanConfig) (f : FanState) : List Byte :=
  putFlags [f.interval.isSome] ++ put1 f.state.num ++ put2 (f.drive : Nat) ++ put2 (f.demand : Nat) ++
    put2 (f.curveDuty : Nat) ++ put2Mark f.governing ++ put2 f.reference ++ putFlag f.fresh ++ put1 f.retries ++
    put2 ((f.interval.getD 0 : Nat) : Int) ++ putFlag f.silent ++ putRpm (fanRpm cfg f) ++ put1 cfg.ppr ++
    putFlag cfg.stallCheck

/-- A host slot's part of the reply (R150). -/
def slotBytes (x : HostSlot) : List Byte := put2 x.value ++ putFlag x.refreshed ++ put2 (timerLeft x.timer : Nat)

/-- The READ_FANS data (R150). -/
def fansBytes (s : State) : List Byte :=
  put1 s.fnc.set.num ++ putFlag (s.lmt.actionSet.contains .fanFull) ++ overrideBytes s.fnc ++
    fanBytes s.fnc.configs.one s.fnc.fans.one ++ fanBytes s.fnc.configs.two s.fnc.fans.two ++
    s.fnc.slots.list.flatMap slotBytes

def readFans (bs : List Byte) (s : State) : Answer :=
  if bs.length ≠ 0 then refuse .badLength s else accept s (fansBytes s)

/-- READ_FANS (R150). -/
def execReadFans (s : State) : Result := .next (runRequest 0x0C readFans s)

/-! ## FNC's part of CLEAR_FAULTS (R148) -/

/-- A fan returned from lockout (R148). -/
def FanState.unlocked (x : FanState) (fanFull : Bool) : FanState :=
  if x.state = .stallLockout then
    let y := { x with state := .off, retries := 0 }
    if fanFull then y.setDemand 1000 else y
  else x

/-- The fans in STALL_LOCKOUT, fan 1 first: those that a clear returns (R148). -/
def lockedFans (s : State) : List Bool :=
  [decide (s.fnc.fans.one.state = .stallLockout), decide (s.fnc.fans.two.state = .stallLockout)]

/-- FNC's part of CLEAR_FAULTS (R148). -/
def unlockFans (s : State) : State :=
  { s with
    fnc := { s.fnc with fans := s.fnc.fans.map fun x => x.unlocked (s.lmt.actionSet.contains .fanFull) } }

end Sys2Proof.Machine
end

