-- ==== Sys2Proof/Machine/Keyboard.lean ====
section
/-! DEFINITION. The keyboard matrix (chapter 6): SCAN_PASS, READ_KEYMAP, LOAD_KEYROW, SET_KEY_DEBOUNCE. -/

namespace Sys2Proof.Machine

/-! ## The scan pass (R101, R105 to R118) -/

def setKey (p : Fin 144) (r : PosRec) (s : State) : State := { s with kms := s.kms.setPos p r }

/-- A key record handed to EVR (R114, R115). -/
def placeKey (r : KeyRecord) (s : State) : State := { s with evr := s.evr.placeNormal (.key r) }

/-- The code and layer that a confirmation stores (R113). -/
def keyCode (e : KeyEntry) (fn : Bool) : Nat × Layer :=
  if fn && decide (e.fn ≠ 0) then (e.fn, .fn) else (e.base, .base)

/-- The silent field of a confirmation (R113). -/
def keySilent (e : KeyEntry) (code : Nat) : Bool := e.fnKey || decide (code = 0)

/-- The position record fixed by a confirmation (R113), with the layer decided while the position stands DOWN
(log 21). -/
def confirmedRecord (p : Fin 144) (k : Kms) : PosRec :=
  let e := k.translation.get p
  let down := k.setPos p { k.positions.get p with state := .down, count := 0 }
  let c := keyCode e down.fnActive
  ⟨.down, 0, c.1, c.2, keySilent e c.1, false⟩

/-- The PRESS record of a confirmation, where one is made, and the announced field (R114). -/
def pressRecord (p : Fin 144) (r : PosRec) (s : State) : State :=
  if r.silent then setKey p r s
  else
    placeKey ⟨p, r.code, false, r.layer, false, s.tmb.ms⟩
      (setKey p { r with announced := s.evr.accepts } s)

/-- KEY_WAKE of a confirmation in STANDBY (R118). -/
def keyWake (p : Fin 144) (code : Nat) (s : State) : State :=
  if s.ssc.state = .standby ∧ (s.kms.translation.get p).wake then route .keyWake p.val code s else s

/-- A press is confirmed (R113, R114, R118). -/
def confirmPress (p : Fin 144) (s : State) : State :=
  let r := confirmedRecord p s.kms
  keyWake p r.code (pressRecord p r s)

/-- A press debounce completes (R107). -/
def completePress (p : Fin 144) (s : State) : State :=
  if s.kms.possibleGhost p then setKey p { s.kms.positions.get p with state := .ghostHeld, count := 0 } s
  else confirmPress p s

/-- The `n`-th raw-down pass of a press debounce (R105). -/
def pressDebounce (p : Fin 144) (n : Nat) (s : State) : State :=
  if n ≥ s.kms.pressCount then completePress p s
  else setKey p { s.kms.positions.get p with state := .pressDebounce, count := n } s

/-- A release debounce completes (R106, R115). -/
def completeRelease (p : Fin 144) (s : State) : State :=
  let r := s.kms.positions.get p
  let t := setKey p (keyReleased r) s
  if r.announced then placeKey (releaseRecord p r false s.tmb.ms) t else t

/-- The `n`-th raw-up pass of a release debounce (R106). -/
def releaseDebounce (p : Fin 144) (n : Nat) (s : State) : State :=
  if n ≥ s.kms.releaseCount then completeRelease p s
  else setKey p { s.kms.positions.get p with state := .releaseDebounce, count := n } s

/-- A position put in a state with count 0 and its other fields kept. -/
def setKeyState (p : Fin 144) (st : KeyState) (s : State) : State :=
  setKey p { s.kms.positions.get p with state := st, count := 0 } s

/-- One position's rule at a pass (R105, R106, R108, R111); `raw` is `true` for raw down. -/
def keyStep (p : Fin 144) (raw : Bool) (s : State) : State :=
  let r := s.kms.positions.get p
  match r.state, raw with
  | .up, false => s
  | .up, true => pressDebounce p 1 s
  | .pressDebounce, false => setKeyState p .up s
  | .pressDebounce, true => pressDebounce p (r.count + 1) s
  | .down, true => s
  | .down, false => releaseDebounce p 1 s
  | .releaseDebounce, true => setKeyState p .down s
  | .releaseDebounce, false => releaseDebounce p (r.count + 1) s
  | .ghostHeld, false => setKeyState p .up s
  | .ghostHeld, true => if s.kms.possibleGhost p then s else setKeyState p .pressDebounce s
  | .blocked, true => s
  | .blocked, false => setKeyState p .up s

/-- The first pass after a stop (R111). -/
def firstPass (image : List Bool) (k : Kms) : Kms :=
  { k with
    firstPass := false
    positions := Table.ofFn fun p =>
      if image.getD p.val false then { k.positions.get p with state := .blocked, count := 0 } else k.positions.get p }

/-- The positions taken one by one in ascending order (R101). -/
def laterPass (image : List Bool) (s : State) : State :=
  (List.finRange 144).foldl (fun t p => keyStep p (image.getD p.val false) t) s

/-- A scan pass (R101, R102). -/
def scanMatrix (image : List Bool) (s : State) : State :=
  let t := { s with kms := { s.kms with countdown := scanPeriod s.ssc.state, exited := false } }
  if t.kms.firstPass then { t with kms := firstPass image t.kms } else laterPass image t

/-- SCAN_PASS (R101, R104), where a pass is made. -/
def execScanPass (image : List Bool) (s : State) : Result :=
  if s.kms.passDue then .next (scanMatrix image s) else .next s

/-! ## READ_KEYMAP (R122) -/

/-- The DOWN positions in ascending order. -/
def Kms.downKeys (k : Kms) : List (Fin 144) := (List.finRange 144).filter k.isDown

/-- A mask of bits over eight positions of the key map, from position `8 * b` (section 11.2). -/
def keymapByte (listed : List (Fin 144)) (b : Nat) : Byte :=
  BitVec.ofNat 8
    (flagSet ((List.range 8).map fun j => listed.any fun p => decide (p.val = 8 * b + j)))

/-- The code that READ_KEYMAP shows: 0 for a silent position (R122). -/
def shownCode (r : PosRec) : Nat := if r.silent then 0 else r.code

/-- The four bytes of unreported marks, bit 31 the truncated mark (section 11.2). DESIGN CHOICE (log 11): high byte
first. -/
def keymapMarks (k : Kms) (listed : List (Fin 144)) (truncated : Bool) : List Byte :=
  put4 ((flagSet (listed.map fun p => !(k.positions.get p).announced) + 2147483648 * truncated.toNat : Nat) : Int)

/-- The READ_KEYMAP data (R122, section 11.2). -/
def keymapBytes (k : Kms) : List Byte :=
  let down := k.downKeys
  let listed := down.take 28
  put1 down.length ++ (List.range 18).map (keymapByte listed) ++
    (listed.flatMap fun p => put1 (shownCode (k.positions.get p))) ++
    keymapMarks k listed (decide (28 < down.length))

def readKeymap (bs : List Byte) (s : State) : Answer :=
  if bs.length ≠ 0 then refuse .badLength s else accept s (keymapBytes s.kms)

/-- READ_KEYMAP (R122). -/
def execReadKeymap (s : State) : Result := .next (runRequest 0x0A readKeymap s)

/-! ## LOAD_KEYROW (R119) -/

/-- The translation entry at an offset: base code, Fn code, flags FN_KEY, WAKE, ISOLATED (R109, R183). -/
def keyEntryAt (bs : List Byte) (i : Nat) : KeyEntry :=
  ⟨arg1 bs i, arg1 bs (i + 1), argBit bs (i + 2) 0, argBit bs (i + 2) 1, argBit bs (i + 2) 2⟩

/-- An entry's flag field names a flag that does not exist (R119, check 3). -/
def keyFlagsBad (bs : List Byte) (i : Nat) : Bool := decide (arg1 bs (i + 2) ≥ 8)

/-- A row's 18 entries replaced (R119). -/
def Kms.loadRow (k : Kms) (row : Fin 8) (bs : List Byte) : Kms :=
  { k with
    translation := Table.ofFn fun p =>
      if keyRow p = row then keyEntryAt bs (1 + 3 * (keyCol p).val) else k.translation.get p }

def loadKeyrow (bs : List Byte) (s : State) : Answer :=
  if bs.length < 1 then refuse .badLength s
  else if h : arg1 bs 0 < 8 then
    if bs.length ≠ 55 then refuse .badLength s
    else if (List.range 18).any fun c => keyFlagsBad bs (1 + 3 * c) then refuse .invalidTable s
    else accept { s with kms := s.kms.loadRow ⟨arg1 bs 0, h⟩ bs } []
  else refuse .badArgument s

/-- LOAD_KEYROW (R119). -/
def execLoadKeyrow (s : State) : Result := .next (runRequest 0x16 loadKeyrow s)

/-! ## SET_KEY_DEBOUNCE (R121) -/

def setKeyDebounce (bs : List Byte) (s : State) : Answer :=
  if bs.length ≠ 2 then refuse .badLength s
  else
    let p := clampNat 1 15 (arg1 bs 0)
    let r := clampNat 1 15 (arg1 bs 1)
    acceptClamped (p.2 || r.2) { s with kms := { s.kms with pressCount := p.1, releaseCount := r.1 } }
      (put1 p.1 ++ put1 r.1)

/-- SET_KEY_DEBOUNCE (R121). -/
def execSetKeyDebounce (s : State) : Result := .next (runRequest 0x27 setKeyDebounce s)

end Sys2Proof.Machine
end

