-- ==== Sys2Proof/Machine/Link.lean ====
section
/-! DEFINITION. The service link (chapter 11) and EVR's own requests (chapter 10): receiving, sending,
UNKNOWN_REQUEST, RESTART_LINK, READ_STATUS, READ_TALLY, SET_TELEMETRY, LOAD_POLICY, TELEMETRY_PERIOD_EXPIRY. -/

namespace Sys2Proof.Machine

/-! ## Receiving (R182, R184) -/

/-- SERVICE_FRAME_RECEIVED (R182, R184): the bytes up to the frame's last. -/
def execServiceFrameReceived (bytes : List Byte) (s : State) : Result := .next (receiveService bytes s)

/-- SERVICE_FRAME_ERROR (R182): the bytes up to the one that ends the frame. -/
def execServiceFrameError (bytes : List Byte) (s : State) : Result := .next (receiveService bytes s)

/-- SERVICE_GAP_TIMEOUT (R182): the gap timer completes inside a frame. -/
def execServiceGapTimeout (s : State) : Result :=
  if timerDue s.slc.gapTimer then
    match s.slc.rx with
    | .inFrame _ => .next (framingError 4 { s with slc := { s.slc with rx := .hunting, gapTimer := none } })
    | .hunting => .next s
  else .next s

/-! ## Sending (R187) -/

/-- TRANSMIT_START (R187). -/
def execTransmitStart (s : State) : Result := .next (startTransmit s)

/-- TRANSMIT_END (R187). -/
def execTransmitEnd (s : State) : Result := .next (endTransmit s)

/-- UNKNOWN_REQUEST (R184). -/
def execUnknownRequest (s : State) : Result := .next (answerUnknown s)

/-! ## RESTART_LINK (R190) -/

/-- Steps 1 to 4 of R190. -/
def restartLink (s : State) : State :=
  { s with
    slc := restartSlc s.slc
    evr := s.evr.restart
    kms := s.kms.unannounced
    ppt := { s.ppt with ports := s.ppt.ports.map fun x => { x with slot := x.slot.restart } } }

def restartRequest (bs : List Byte) (s : State) : Answer :=
  if bs.length ≠ 0 then refuse .badLength s else accept (restartLink s) []

/-- RESTART_LINK (R190). -/
def execRestartLink (s : State) : Result := .next (runRequest 0x04 restartRequest s)

/-! ## READ_STATUS (R188) -/

/-- The READ_STATUS data (R188): DOWN is sent as 1 (log 11). -/
def statusBytes (s : State) : List Byte :=
  put1 (!s.slc.linkUp).toNat ++ putFlag (linkDownPending s.slc) ++ put1 s.slc.checkErrors ++
    put1 s.slc.framingErrors ++ putFlag s.slc.overrun ++ put1 s.slc.requests.length ++ put1 s.slc.replies.length ++
    put1 s.ssc.state.num ++ put1 s.ssc.mode.num

def readStatus (bs : List Byte) (s : State) : Answer :=
  if bs.length ≠ 0 then refuse .badLength s else accept s (statusBytes s)

/-- READ_STATUS (R188). -/
def execReadStatus (s : State) : Result := .next (runRequest 0x0D readStatus s)

/-! ## READ_TALLY (R172) -/

/-- The codes whose tally is not 0, lowest first. -/
def Evr.talliedCodes (e : Evr) : List EventCode := allCodes.filter fun c => decide (e.tally.get c.idx ≠ 0)

/-- The tallies that a READ_TALLY returns, set to 0 (R172). -/
def Evr.clearTallies (e : Evr) (cs : List EventCode) : Evr :=
  { e with tally := cs.foldl (fun t c => t.set c.idx 0) e.tally }

/-- The READ_TALLY data (R172, section 11.2). DESIGN CHOICE (log 11): bit 3 of the first byte, which has no meaning, is sent
as 0. -/
def tallyBytes (e : Evr) : List Byte :=
  put1
      ((decide (28 < e.talliedCodes.length)).toNat + 2 * (decide (e.normalState = .overflowed)).toNat +
        4 * e.keyMark.toNat + 16 * e.urgent.length) ++
    put1 e.normal.length ++ put1 e.discarded ++
    (e.talliedCodes.take 28).flatMap fun c => put1 c.num ++ put1 (e.tally.get c.idx)

def readTally (bs : List Byte) (s : State) : Answer :=
  if bs.length ≠ 0 then refuse .badLength s
  else accept { s with evr := s.evr.clearTallies (s.evr.talliedCodes.take 28) } (tallyBytes s.evr)

/-- READ_TALLY (R172). -/
def execReadTally (s : State) : Result := .next (runRequest 0x0B readTally s)

/-! ## LOAD_POLICY (R170) -/

/-- The code of a number 0x01..0x23 other than GAP's 0x20 (R170, check 1). -/
def policyCode (n : Nat) : Option EventCode :=
  allCodes.find? fun c => decide (c.num = n) && decide (c ≠ .gap)

/-- A class by its code (R183). -/
def classOf (n : Nat) : Option PolicyClass :=
  if n = 0 then some .none else if n = 1 then some .normal else if n = 2 then some .urgent else none

/-- A policy table with one entry replaced. -/
def setPolicy (e : Evr) (c : EventCode) (p : Policy) : Table Policy 35 := e.policy.set c.idx p

/-- LOAD_POLICY (R170): code, class, then WAKE and START in one byte. -/
def loadPolicy (bs : List Byte) (s : State) : Answer :=
  if bs.length ≠ 3 then refuse .badLength s
  else
    match policyCode (arg1 bs 0) with
    | none => refuse .badArgument s
    | some c =>
      match classOf (arg1 bs 1) with
      | none => refuse .invalidTable s
      | some cls =>
        let p : Policy := ⟨cls, argBit bs 2 0, argBit bs 2 1⟩
        if p.start && !c.mayStart then refuse .invalidTable s
        else if (urgentCodes (setPolicy s.evr c p) s.evr.urgent).length > 8 then refuse .invalidTable s
        else
          accept { s with evr := { s.evr with policy := setPolicy s.evr c p } }
            (put1 cls.num ++ putFlags [p.wake, p.start])

/-- LOAD_POLICY (R170). -/
def execLoadPolicy (s : State) : Result := .next (runRequest 0x15 loadPolicy s)

/-! ## Telemetry period (R178, R179) -/

/-- TELEMETRY_PERIOD_EXPIRY (R178). -/
def execTelemetryPeriodExpiry (s : State) : Result :=
  if timerDue s.evr.periodTimer then
    .next { s with evr := { s.evr with due := true, periodTimer := some s.evr.period } }
  else .next s

/-- EVR with a telemetry period in force (R179). -/
def Evr.withPeriod (e : Evr) (n : Nat) : Evr :=
  if n = 0 then { e with period := 0, periodTimer := none, due := false }
  else { e with period := n, periodTimer := some n, due := true }

def setTelemetry (bs : List Byte) (s : State) : Answer :=
  if bs.length ≠ 2 then refuse .badLength s
  else if arg2 bs 0 = 0 then accept { s with evr := s.evr.withPeriod 0 } (put2 0)
  else
    let n := clampNat 50 5000 (arg2 bs 0)
    acceptClamped n.2 { s with evr := s.evr.withPeriod n.1 } (put2 (n.1 : Nat))

/-- SET_TELEMETRY (R179). -/
def execSetTelemetry (s : State) : Result := .next (runRequest 0x29 setTelemetry s)

end Sys2Proof.Machine
end

