-- ==== Sys2Proof/Machine/Packs.lean ====
section
/-! DEFINITION. The pack ports and the bay requests (chapter 3), and the charge timeout (R72): the commands at a port,
its line and its pass-through slot, and PASS, READ_PACK, LOAD_PASS_FILTER, RELEASE_BAY, BAY_CANCEL. -/

namespace Sys2Proof.Machine

def setPort (p : Pack) (x : Port) (s : State) : State :=
  { s with ppt := { s.ppt with ports := s.ppt.ports.set p x } }

/-- What every change of a port's state or record hands on (R42, R52, R161; log 14): PPC re-decides the paths, then
SSC works out the combined SOC and decides. -/
def portChanged (s : State) : State := refreshSoc (redecidePaths s)

/-! ## Presence (R38, R40) -/

/-- PRESENCE_ACTIVE (R38). -/
def execPresenceActive (p : Pack) (s : State) : Result :=
  let x := s.ppt.ports.get p
  if x.presence then .next s
  else if x.state = .absent then .next (setPort p { x with presence := true, presenceTimer := some 100 } s)
  else .next (setPort p { x with presence := true } s)

/-- Entry to IDENTIFYING (R38). -/
def Port.identify (x : Port) : Port :=
  { x with state := .identifying, presenceTimer := none, silenceTimer := some 3000, rx := .hunting }

/-- PRESENCE_TIMER_EXPIRY (R38). -/
def execPresenceTimerExpiry (p : Pack) (s : State) : Result :=
  let x := s.ppt.ports.get p
  if timerDue x.presenceTimer then
    .next (portChanged
      (route .packLink (packNum p) PortState.identifying.num
        (route .packPresent (packNum p) 0 (setPort p x.identify s))))
  else .next s

/-! ## The pass-through slot (R47 to R49) -/

/-- A slot back to IDLE; a PACK_REQUEST that is due and not begun is dropped with it (log 17). -/
def Port.slotIdle (x : Port) : Port :=
  { x with slot := { x.slot with state := .idle, held := none, timer := none }, requestDue := none }

/-- A slot that holds its result (R48). -/
def Port.slotHolds (x : Port) (r : Reply) : Port :=
  { x with slot := { x.slot with state := .resolved, held := some r, timer := none }, requestDue := none }

/-- A WAITING slot resolves (R48): the result is dropped, queued, or held in RESOLVED. -/
def resolveSlot (p : Pack) (code : ResultCode) (data : List Byte) (s : State) : State :=
  let x := s.ppt.ports.get p
  let r : Reply := ⟨x.slot.tag, code, data, false⟩
  if x.slot.discard then setPort p x.slotIdle s
  else if replyRoom s then enqueueReply r (setPort p x.slotIdle s)
  else setPort p (x.slotHolds r) s

/-- The pass-through of a WAITING slot ends with NO_PACK at a removal (R49). -/
def resolveRemoved (p : Pack) (s : State) : State :=
  if (s.ppt.ports.get p).slot.state = .waiting then resolveSlot p .noPack [] s else s

/-- PASS_TIMER_EXPIRY (R47). -/
def execPassTimerExpiry (p : Pack) (s : State) : Result :=
  let x := s.ppt.ports.get p
  if x.slot.state = .waiting ∧ timerDue x.slot.timer then .next (resolveSlot p .timeout [] s) else .next s

/-- A RESOLVED slot may take the place that is free (R185): pack A's slot before pack B's. -/
def slotTurn (p : Pack) (s : State) : Bool :=
  decide (s.slc.replies.length < 4) &&
    (decide (p = .a) || decide (s.ppt.ports.a.slot.state ≠ .resolved))

/-- PASS_REPLY_QUEUED (R48, R185). -/
def execPassReplyQueued (p : Pack) (s : State) : Result :=
  let x := s.ppt.ports.get p
  match x.slot.state, x.slot.held with
  | .resolved, some r => if slotTurn p s then .next (enqueueReply r (setPort p x.slotIdle s)) else .next s
  | _, _ => .next s

/-! ## Removal (R40) -/

/-- Points 2 and 3 of R40 at a port, with the presence line inactive. -/
def Port.removed (x : Port) : Port :=
  { x with
    state := .absent
    presence := false
    record := none
    presenceTimer := none
    silenceTimer := none
    staleTimer := none
    rx := .hunting
    requestDue := none
    tx := none }

/-- PPC's part of a removal of pack B: the pending request is cleared, and R56 looks at the latch. -/
def bayRemoval (s : State) : State :=
  let t := { s with ppc := { s.ppc with bay := { s.ppc.bay with pending := false } } }
  if bayReturnDue t then bayLatched t else t

/-- PPC's part of a removal (R40, R70, R56). DESIGN CHOICE (log 33): pack B's charge state is removed before its bay is
looked at, so a CHARGE_PHASE comes before a BAY_RELEASE of the same removal. -/
def removalAtPpc (p : Pack) (s : State) : State :=
  match p with
  | .a => chargeRemoval .a (redecidePaths s)
  | .b => bayRemoval (chargeRemoval .b (redecidePaths s))

/-- A removal (R40). -/
def removePack (p : Pack) (s : State) : State :=
  let s1 := resolveRemoved p s
  let s2 := setPort p (s1.ppt.ports.get p).removed s1
  refreshSoc (removalAtPpc p
    (route .packLink (packNum p) PortState.absent.num (route .packRemoved (packNum p) 0 s2)))

/-- PACK_REMOVAL (R38, R40): the presence line becomes inactive. At an ABSENT port the presence timer is stopped. -/
def execPackRemoval (p : Pack) (s : State) : Result :=
  let x := s.ppt.ports.get p
  if x.presence then
    if x.state = .absent then .next (setPort p { x with presence := false, presenceTimer := none } s)
    else .next (removePack p s)
  else .next s

/-! ## Silence (R39) -/

/-- The silence timer's completion at a port (R39). -/
def Port.silenced (x : Port) : Port :=
  if x.state = .active then { x with state := .stale, silenceTimer := none, staleTimer := some 10000 }
  else { x with state := .unresponsive, silenceTimer := none }

/-- SILENCE_TIMER_EXPIRY (R39), in IDENTIFYING and ACTIVE. -/
def execSilenceTimerExpiry (p : Pack) (s : State) : Result :=
  let x := s.ppt.ports.get p
  if timerDue x.silenceTimer ∧ (x.state = .identifying ∨ x.state = .active) then
    .next (portChanged (route .packLink (packNum p) x.silenced.state.num (setPort p x.silenced s)))
  else .next s

/-- STALE_TIMER_EXPIRY (R39), in STALE. -/
def execStaleTimerExpiry (p : Pack) (s : State) : Result :=
  let x := s.ppt.ports.get p
  if timerDue x.staleTimer ∧ x.state = .stale then
    .next (portChanged
      (route .packLink (packNum p) PortState.unresponsive.num
        (setPort p { x with state := .unresponsive, staleTimer := none } s)))
  else .next s

/-! ## Receiving (R36, R37, R42 to R44, R47, R50) -/

/-- One more frame error (R36). -/
def Port.countError (x : Port) : Port := { x with frameErrors := sat255 x.frameErrors }

/-- The pack record of a PACK_TELEMETRY payload (R37, section 11.2). -/
def recordOf (bs : List Byte) (now : Stamp) : PackRecord where
  profile := if arg1 bs 0 > 3 then 0 else arg1 bs 0
  cells := arg1 bs 1
  voltage := arg2 bs 2
  current := arg2s bs 4
  temp := arg2s bs 6
  soc := min 100 (arg1 bs 8)
  remaining := arg2 bs 9
  full := arg2 bs 11
  reqVoltage := arg2 bs 13
  reqCurrent := arg2 bs 15
  maxDischarge := arg2 bs 17
  alarms := Alarms.ofByte (bs.getD 19 0)
  stamp := now

/-- Valid telemetry (R37): the length of the layout and a cell count of 2 to 5. -/
def telemetryValid (bs : List Byte) : Bool :=
  decide (bs.length = 20) && decide (2 ≤ arg1 bs 1) && decide (arg1 bs 1 ≤ 5)

/-- A port after valid telemetry (R39, R42). -/
def Port.telemetry (x : Port) (r : PackRecord) : Port :=
  { x with record := some r, state := .active, silenceTimer := some 3000, staleTimer := none }

/-- PACK_ALARM (R43), where at least one flag is risen. -/
def alarmEvent (p : Pack) (old new : Alarms) (s : State) : State :=
  let risen := Alarms.risen old new
  if risen.weight = 0 then s
  else route .packAlarm (packNum p) ((new.weight + 256 * risen.weight : Nat) : Int) s

/-- The frame placed in the pack's relay slot as received (R44). -/
def placeRelay (p : Pack) (raw : List Byte) (s : State) : State :=
  { s with evr := s.evr.setBulk (relaySlot p) (some raw) }

/-- Valid telemetry at a port (R39, R42 to R44). -/
def takeTelemetry (p : Pack) (f : Frame) (s : State) : State :=
  let x := s.ppt.ports.get p
  let r := recordOf f.payload s.tmb.ms
  let s1 := setPort p (x.telemetry r) s
  let s2 := if x.state = .active then s1 else route .packLink (packNum p) PortState.active.num s1
  portChanged (placeRelay p f.raw (alarmEvent p x.alarms r.alarms s2))

/-- A good PACK_REPLY (R47, R50). -/
def takeReply (p : Pack) (payload : List Byte) (s : State) : State :=
  if (s.ppt.ports.get p).slot.state = .waiting then resolveSlot p .ok payload s
  else route .passLate (packNum p) 0 s

/-- A frame that is neither a length nor a check error at a port (R36, R37, R47). -/
def packFrame (p : Pack) (f : Frame) (s : State) : State :=
  let x := s.ppt.ports.get p
  if f.kind = 0xA then (if telemetryValid f.payload then takeTelemetry p f s else setPort p x.countError s)
  else if f.kind = 0xC then
    (if 1 ≤ f.payload.length ∧ f.payload.length ≤ 31 then takeReply p f.payload s else setPort p x.countError s)
  else setPort p x.countError s

/-- One byte on a pack line (R36). The receiver is off in ABSENT and while the part transmits. -/
def packByte (p : Pack) (s : State) (b : Byte) : State :=
  let x := s.ppt.ports.get p
  if x.state = .absent ∨ x.tx.isSome then s
  else
    let fed := rxFeed x.rx b
    let t := setPort p { x with rx := fed.1 } s
    match fed.2 with
    | some (.frame f) => packFrame p f t
    | some _ => setPort p { x with rx := fed.1 }.countError t
    | none => t

/-- The bytes of a receive command, one after another. -/
def receivePack (p : Pack) (bytes : List Byte) (s : State) : State := bytes.foldl (packByte p) s

/-- PACK_TELEMETRY_RECEIVED (R37, R42): the bytes up to the frame's last. -/
def execPackTelemetryReceived (p : Pack) (bytes : List Byte) (s : State) : Result := .next (receivePack p bytes s)

/-- PACK_REPLY_RECEIVED (R47): the bytes up to the frame's last. -/
def execPackReplyReceived (p : Pack) (bytes : List Byte) (s : State) : Result := .next (receivePack p bytes s)

/-- A gap of more than 2 ms inside a frame (R36). -/
def lineGap (p : Pack) (s : State) : State :=
  let x := s.ppt.ports.get p
  match x.rx with
  | .inFrame _ => setPort p { x with rx := .hunting }.countError s
  | .hunting => s

/-- PACK_FRAME_ERROR (R36, R37): a gap, or the bytes that end a frame in error. -/
def execPackFrameError (p : Pack) (e : LineFault) (s : State) : Result :=
  match e with
  | .gap => .next (lineGap p s)
  | .bytes bs => .next (receivePack p bs s)

/-! ## Transmitting (R36) -/

/-- PACK_REQUEST_TRANSMIT (R36): a due request begins once no frame is being received on the line. -/
def execPackRequestTransmit (p : Pack) (s : State) : Result :=
  let x := s.ppt.ports.get p
  match x.requestDue with
  | some payload =>
    if x.rx = .hunting ∧ x.tx = none then
      .next (setPort p { x with tx := some (frameBytes 0xB 0 payload), requestDue := none } s)
    else .next s
  | none => .next s

/-- PACK_REQUEST_TRANSMITTED (R36): the receiver hunts for a sync byte again. -/
def execPackRequestTransmitted (p : Pack) (s : State) : Result :=
  let x := s.ppt.ports.get p
  match x.tx with
  | some _ => .next (setPort p { x with tx := none, rx := .hunting } s)
  | none => .next s

/-- CHARGE_TIMEOUT (R72). -/
def execChargeTimeout (p : Pack) (s : State) : Result := .next (fireTimeout p s)

/-! ## PASS (R45, R46) -/

/-- The verdict on an item (R45): that of the first non-empty entry whose range contains it, else FORWARD. -/
def filterVerdict (t : Table (Option FilterEntry) 8) (item : Nat) : Verdict :=
  match (t.list.filterMap id).find? fun e => decide (e.low ≤ item) && decide (item ≤ e.high) with
  | some e => e.verdict
  | none => .forward

/-- A verdict filters a direction (R45); `write` is true for a write. -/
def filters (v : Verdict) (write : Bool) : Bool :=
  match v with
  | .forward => false
  | .readOnly => write
  | .refuse => true

/-- Pack selectors 0 and 1 (R46, R58). -/
def packOf (n : Nat) : Option Pack := if n = 0 then some .a else if n = 1 then some .b else none

/-- A port that a PASS cannot reach (R46, check 4). -/
def unreachable (st : PortState) : Bool :=
  match st with
  | .absent | .identifying | .unresponsive => true
  | .active | .stale => false

/-- The checks of R46 on a PASS payload, in order: the first refusal, or the pack addressed. A payload too short for
the fields that check 1 reads is answered BAD_LENGTH (R184). -/
def passChecks (bs : List Byte) (s : State) : Except ResultCode Pack :=
  if bs.length < 3 ∨ (arg1 bs 2 = 0 ∧ bs.length < 4) then .error .badLength
  else
    match packOf (arg1 bs 0) with
    | none => .error .badArgument
    | some p =>
      if 1 < arg1 bs 2 ∨ (arg1 bs 2 = 0 ∧ (arg1 bs 3 = 0 ∨ 30 < arg1 bs 3)) then .error .badArgument
      else if (arg1 bs 2 = 0 ∧ bs.length ≠ 4) ∨ (arg1 bs 2 = 1 ∧ 33 < bs.length) then .error .badLength
      else if filters (filterVerdict s.ppt.filter (arg1 bs 1)) (decide (arg1 bs 2 = 1)) then .error .filtered
      else if unreachable (s.ppt.ports.get p).state then .error .noPack
      else if (s.ppt.ports.get p).slot.state ≠ .idle then .error .busy
      else .ok p

/-- A port that accepts a pass-through (R46): WAITING, discard mark clear, the 100 ms timer started, and the
PACK_REQUEST due with item, direction, and count or data. -/
def Port.acceptPass (x : Port) (tag : Nat) (request : List Byte) : Port :=
  { x with
    slot := { state := .waiting, discard := false, tag := tag, held := none, timer := some 100 }
    requestDue := some request }

/-- A PASS frame at the head of the buffer, with room for a reply (R46). -/
def passHead (r : Request) (s : State) : State :=
  let t := popRequest s
  match passChecks r.payload t with
  | .error c => answerWith r.tag (refuse c t)
  | .ok p => setPort p ((t.ppt.ports.get p).acceptPass r.tag r.payload.tail) t

/-- PASS (R46, R184). -/
def execPass (s : State) : Result :=
  match s.slc.requests with
  | [] => .next s
  | r :: _ => if r.kind = .pass ∧ replyRoom s then .next (passHead r s) else .next s

/-! ## READ_PACK (R58) -/

/-- The record fields and the age; all 0 with an empty record (R58). DESIGN CHOICE (log 11): the fields are those of R37's
table, and the receive stamp is not sent beside the age taken from it. -/
def recordBytes (r : Option PackRecord) (now : Stamp) : List Byte :=
  match r with
  | none => List.replicate 22 0
  | some x =>
    put1 x.profile ++ put1 x.cells ++ put2 x.voltage ++ put2 x.current ++ put2 x.temp ++ put1 x.soc ++
      put2 x.remaining ++ put2 x.full ++ put2 x.reqVoltage ++ put2 x.reqCurrent ++ put2 x.maxDischarge ++
      putFlags x.alarms.flags ++ put2 (age now x.stamp : Nat)

/-- The READ_PACK data of a port (R58). DESIGN CHOICE (log 11): the presence line level is sent as 1 for active and 0 for
inactive. -/
def packBytes (p : Pack) (s : State) : List Byte :=
  let x := s.ppt.ports.get p
  put1 x.state.num ++ putFlag x.presence ++ put1 x.frameErrors ++ put1 x.slot.state.num ++
    put1 (s.ppc.path.get p).mode.num ++ putFlags [(s.ppc.path.get p).unsupplied, x.record.isSome] ++
    recordBytes x.record s.tmb.ms ++
    (match p with
      | .a => []
      | .b => put1 s.ppc.bay.state.num ++ putFlag s.ppc.bay.pending)

def readPack (bs : List Byte) (s : State) : Answer :=
  if bs.length ≠ 1 then refuse .badLength s
  else
    match packOf (arg1 bs 0) with
    | some p => accept s (packBytes p s)
    | none => refuse .badArgument s

/-- READ_PACK (R58). -/
def execReadPack (s : State) : Result := .next (runRequest 0x06 readPack s)

/-! ## LOAD_PASS_FILTER (R45) -/

/-- A verdict by its code (R45, R183). -/
def verdictOf (n : Nat) : Option Verdict :=
  if n = 0 then some .forward else if n = 1 then some .readOnly else if n = 2 then some .refuse else none

def setFilter (i : Fin 8) (e : Option FilterEntry) (s : State) : State :=
  { s with ppt := { s.ppt with filter := s.ppt.filter.set i e } }

/-- LOAD_PASS_FILTER's checks and effect (R45): index, empty mark, low, high, verdict. DESIGN CHOICE (log 11): with the empty
mark set the other three bytes are ignored, whatever they hold. -/
def loadPassFilter (bs : List Byte) (s : State) : Answer :=
  if bs.length ≠ 5 then refuse .badLength s
  else if h : arg1 bs 0 < 8 then
    if argFlag bs 1 then accept (setFilter ⟨arg1 bs 0, h⟩ none s) []
    else
      match verdictOf (arg1 bs 4) with
      | some v =>
        if arg1 bs 2 > arg1 bs 3 then refuse .invalidTable s
        else accept (setFilter ⟨arg1 bs 0, h⟩ (some ⟨arg1 bs 2, arg1 bs 3, v⟩) s) []
      | none => refuse .invalidTable s
  else refuse .badArgument s

/-- LOAD_PASS_FILTER (R45). -/
def execLoadPassFilter (s : State) : Result := .next (runRequest 0x17 loadPassFilter s)

/-! ## The bay requests (R57) -/

/-- The pending request set (R57); in LATCHED it enters RELEASING (R54). -/
def setPending (s : State) : State :=
  let t := { s with ppc := { s.ppc with bay := { s.ppc.bay with pending := true } } }
  if t.ppc.bay.state = .latched then enterReleasing t else t

def releaseBay (bs : List Byte) (s : State) : Answer :=
  if bs.length ≠ 0 then refuse .badLength s
  else if s.ppt.ports.b.state = .absent then refuse .noPack s
  else accept (setPending s) (put1 (setPending s).ppc.bay.state.num)

/-- RELEASE_BAY (R57). -/
def execReleaseBay (s : State) : Result := .next (runRequest 0x2A releaseBay s)

/-- The pending request cleared, and R56 looks at the latch (R57). -/
def clearPending (s : State) : State :=
  bayReturn { s with ppc := { s.ppc with bay := { s.ppc.bay with pending := false } } }

def bayCancel (bs : List Byte) (s : State) : Answer :=
  if bs.length ≠ 0 then refuse .badLength s
  else accept (clearPending s) (put1 (clearPending s).ppc.bay.state.num)

/-- BAY_CANCEL (R57). -/
def execBayCancel (s : State) : Result := .next (runRequest 0x2B bayCancel s)

end Sys2Proof.Machine
end

