-- ==== Sys2Proof/Machine/Requests.lean ====
section
/-! DEFINITION. Requests of SWS, LMT and PPC that are not table loads (chapters 1, 2, 4 and 5): READ_CHANNELS,
READ_FAULTS, CLEAR_FAULTS, READ_ALLOCATION, SET_INPUT_LIMIT, SET_EFFICIENCY, SET_BOOST, SET_CHARGE_INHIBIT. -/

namespace Sys2Proof.Machine

/-! ## READ_CHANNELS (R14) -/

/-- A channel's part of the reply (R14): the two flags in one byte, value, sweep number, age; all 0 for an entry that
is not valid. -/
def channelBytes (x : Sample) (now : Stamp) : List Byte :=
  if x.valid then
    putFlags [x.valid, x.clamped] ++ put2 x.value ++ put1 x.sweep ++ put2 (age now x.stamp : Nat)
  else List.replicate 6 0

/-- The READ_CHANNELS data of a list of channels (R14). -/
def channelsBytes (chs : List (Fin 16)) (s : State) : List Byte :=
  putStamp s.tmb.ms ++ chs.flatMap fun ch => channelBytes (s.sws.latest.get ch) s.tmb.ms

def readChannels (bs : List Byte) (s : State) : Answer :=
  if bs.length ≠ 1 then refuse .badLength s
  else if arg1 bs 0 = 0 then accept s (channelsBytes fastChannels s)
  else if arg1 bs 0 = 1 then accept s (channelsBytes slowChannels s)
  else refuse .badArgument s

/-- READ_CHANNELS (R14). -/
def execReadChannels (s : State) : Result := .next (runRequest 0x05 readChannels s)

/-! ## READ_FAULTS (R33) -/

/-- The channels in a limit state. -/
def channelsIn (l : Lmt) (st : LimitState) : List (Fin 16) :=
  (List.finRange 16).filter fun ch => decide ((l.chans.get ch).state = st)

/-- The summary (R33). -/
def faultSummary (l : Lmt) : List Byte :=
  (l.actionSet.flatMap fun a => put1 a.num) ++
    ((List.finRange 16).flatMap fun ch => put1 (l.chans.get ch).state.num) ++
    put1 (channelsIn l .fault).length ++ put1 (channelsIn l .held).length

/-- A trip record (R26, R33): a presence byte for value and stamp, the count, value and stamp. -/
def tripBytes (c : LimitChan) : List Byte :=
  putFlags [c.tripValue.isSome, c.tripStamp.isSome] ++ put1 c.tripCount ++ put2Opt c.tripValue ++
    putStamp (c.tripStamp.getD 0)

/-- One channel (R33). -/
def faultDetail (e : LimitEntry) (c : LimitChan) : List Byte :=
  putFlag e.enable ++ put1 c.state.num ++ put1 e.action.num ++ put1 c.warnRun ++ put1 c.faultRun ++
    put1 c.returnRun ++ tripBytes c

def readFaults (bs : List Byte) (s : State) : Answer :=
  if bs.length ≠ 1 then refuse .badLength s
  else if arg1 bs 0 = 0xFF then accept s (faultSummary s.lmt)
  else if h : arg1 bs 0 < 16 then
    accept s (faultDetail (s.lmt.entries.get ⟨arg1 bs 0, h⟩) (s.lmt.chans.get ⟨arg1 bs 0, h⟩))
  else refuse .badArgument s

/-- READ_FAULTS (R33). -/
def execReadFaults (s : State) : Result := .next (runRequest 0x08 readFaults s)

/-! ## CLEAR_FAULTS (R32, R73, R148) -/

/-- A set of channels: bit n for channel n, high byte first (log 11). -/
def putChannels (chs : List (Fin 16)) : List Byte :=
  put2 (flagSet ((List.finRange 16).map fun ch => chs.contains ch) : Nat)

/-- PPC's part (R73). -/
def clearLatches (s : State) : State :=
  { s with ppc := { s.ppc with charge := s.ppc.charge.map Charge.clearLatch } }

/-- The packs whose latch is set, pack A first. -/
def latchedPacks (s : State) : List Bool := [s.ppc.charge.a.latch.isSome, s.ppc.charge.b.latch.isSome]

/-- LMT's part first, then PPC's, then FNC's, each on the state that the one before it left (section 11.3). -/
def clearAll (s : State) : State := unlockFans (clearLatches (clearHeld s))

/-- The CLEAR_FAULTS data (R32, R73, R148), from the state before and the states between its parts. -/
def clearBytes (s : State) : List Byte :=
  putChannels (channelsIn s.lmt .held) ++ putChannels (channelsIn (clearHeld s).lmt .fault) ++
    putFlags (latchedPacks (clearHeld s)) ++ putFlags (lockedFans (clearLatches (clearHeld s)))

def clearFaults (bs : List Byte) (s : State) : Answer :=
  if bs.length ≠ 0 then refuse .badLength s else accept (clearAll s) (clearBytes s)

/-- CLEAR_FAULTS (R32, R73, R148). -/
def execClearFaults (s : State) : Result := .next (runRequest 0x09 clearFaults s)

/-! ## READ_ALLOCATION (R99) -/

/-- The adapter record: a presence byte for the AID value, then the fields (R99). -/
def adapterBytes (a : Adapter) : List Byte :=
  putFlags [a.aid.isSome] ++ put1 a.state.num ++ put1 a.cls ++ put2 (a.iAL : Nat) ++ put2Opt a.aid

/-- The latest pass (R99). -/
def passBytes (a : Alloc) (iLim : Nat) : List Byte :=
  putFlag a.made ++ put1 a.sweep ++ putStamp a.stamp ++ put1 a.mode.num ++ put2 (a.iEff : Nat) ++ put2 (iLim : Nat) ++
    put4 (a.pIn : Nat) ++ put4 (a.pUse : Nat) ++ put4 (a.pSys : Nat) ++ put4 a.h ++ put4 (a.u : Nat)

/-- One pack (R99). -/
def allocPackBytes (c : Charge) (m : PathMode) (f : PackFigures) (x : Setpoints) : List Byte :=
  put1 c.phase.num ++ put1Mark c.band ++ put1 m.num ++ putFlags [f.chargeEligible, f.boostEligible] ++
    put2 (f.c : Nat) ++ put2 (f.b : Nat) ++ put2 (c.cap : Nat) ++ put2 (c.vChg : Nat) ++ put2 (c.iDmax : Nat) ++
    put2 (x.chargeI : Nat) ++ put2 (x.chargeV : Nat) ++ put2 (x.boost : Nat)

/-- The READ_ALLOCATION data (R99). DESIGN CHOICE (log 11): the LTR level is sent as 1 for asserted and 0 for released. -/
def allocationBytes (c : Ppc) : List Byte :=
  adapterBytes c.adapter ++ put2 (c.iHL : Nat) ++ put1 c.eta ++ putFlag c.boostOn ++ put1 c.boostFloor ++
    passBytes c.alloc c.iLim ++ put1 c.throttle.state.num ++ put1 c.throttle.count ++ putFlag c.ltr ++
    allocPackBytes c.charge.a c.path.a.mode c.alloc.packs.a c.setpoints.a ++
    allocPackBytes c.charge.b c.path.b.mode c.alloc.packs.b c.setpoints.b ++ put1 c.bay.state.num

def readAllocation (bs : List Byte) (s : State) : Answer :=
  if bs.length ≠ 0 then refuse .badLength s else accept s (allocationBytes s.ppc)

/-- READ_ALLOCATION (R99). -/
def execReadAllocation (s : State) : Result := .next (runRequest 0x07 readAllocation s)

/-! ## Settings (R74, R84 to R86) -/

def setInputLimit (bs : List Byte) (s : State) : Answer :=
  if bs.length ≠ 2 then refuse .badLength s
  else if arg2 bs 0 = 0 then accept { s with ppc := { s.ppc with iHL := 0 } } (put2 0)
  else
    let n := clampNat 500 20000 (arg2 bs 0)
    acceptClamped n.2 { s with ppc := { s.ppc with iHL := n.1 } } (put2 (n.1 : Nat))

/-- SET_INPUT_LIMIT (R84). -/
def execSetInputLimit (s : State) : Result := .next (runRequest 0x20 setInputLimit s)

def setEfficiency (bs : List Byte) (s : State) : Answer :=
  if bs.length ≠ 1 then refuse .badLength s
  else
    let n := clampNat 48 64 (arg1 bs 0)
    acceptClamped n.2 { s with ppc := { s.ppc with eta := n.1 } } (put1 n.1)

/-- SET_EFFICIENCY (R85). -/
def execSetEfficiency (s : State) : Result := .next (runRequest 0x21 setEfficiency s)

/-- The boost parameters set; boost turned off sets both boost setpoints to 0 (R86). -/
def Ppc.withBoost (c : Ppc) (on : Bool) (floor : Nat) : Ppc :=
  { c with
    boostOn := on
    boostFloor := floor
    setpoints := if on then c.setpoints else c.setpoints.map Setpoints.noBoost }

/-- SET_BOOST's checks and effect (R86). DESIGN CHOICE (log 11): the flag is 1 for on and 0 for off. -/
def setBoost (bs : List Byte) (s : State) : Answer :=
  if bs.length ≠ 2 then refuse .badLength s
  else if arg1 bs 0 > 1 then refuse .badArgument s
  else
    let n := clampNat 5 90 (arg1 bs 1)
    acceptClamped n.2 { s with ppc := s.ppc.withBoost (decide (arg1 bs 0 = 1)) n.1 } (put1 (arg1 bs 0) ++ put1 n.1)

/-- SET_BOOST (R86). -/
def execSetBoost (s : State) : Result := .next (runRequest 0x22 setBoost s)

/-- One pack's host inhibit set; turned on, it sets the pack's charge setpoints to 0 (R74). -/
def Ppc.inhibitPack (c : Ppc) (on : Bool) (p : Pack) : Ppc :=
  let d := { c with charge := c.charge.set p { c.charge.get p with inhibit := on } }
  if on then d.zeroCharge p else d

/-- The packs of a selector (R74). -/
def selectedPacks (n : Nat) : List Pack := if n = 0 then [.a] else if n = 1 then [.b] else [.a, .b]

/-- SET_CHARGE_INHIBIT's checks and effect (R74). DESIGN CHOICE (log 11): the flag is 1 for on and 0 for off. -/
def setChargeInhibit (bs : List Byte) (s : State) : Answer :=
  if bs.length ≠ 2 then refuse .badLength s
  else if arg1 bs 0 > 2 ∨ arg1 bs 1 > 1 then refuse .badArgument s
  else
    let c := (selectedPacks (arg1 bs 0)).foldl (fun c p => c.inhibitPack (decide (arg1 bs 1 = 1)) p) s.ppc
    accept { s with ppc := c } (putFlags [c.charge.a.inhibit, c.charge.b.inhibit])

/-- SET_CHARGE_INHIBIT (R74). -/
def execSetChargeInhibit (s : State) : Result := .next (runRequest 0x23 setChargeInhibit s)

end Sys2Proof.Machine
end

