-- ==== Sys2Proof/Machine/Switches.lean ====
section
/-! DEFINITION. The switch inputs (chapter 7): INITIAL_TAKE, the three debounce completions, the power-button holds,
SET_SWITCH_DEBOUNCE. -/

namespace Sys2Proof.Machine

def Swi.input (w : Swi) : SwitchInput → Input
  | .lid => w.lid
  | .hinge => w.hinge
  | .pwrbtn => w.pwrbtn
  | .baylatch => w.baylatch

def Swi.setInput (w : Swi) (i : SwitchInput) (x : Input) : Swi :=
  match i with
  | .lid => { w with lid := x }
  | .hinge => { w with hinge := x }
  | .pwrbtn => { w with pwrbtn := x }
  | .baylatch => { w with baylatch := x }

def setInput (i : SwitchInput) (x : Input) (s : State) : State := { s with swi := s.swi.setInput i x }

/-! ## Handing a level on (R126 to R129) -/

/-- FNC chooses the curve set afresh (R138). -/
def selectCurves (s : State) : State :=
  { s with fnc := s.fnc.select (curveSetOf s.swi.lid.level s.swi.hinge.level) }

/-- The scanner starts, where the gate has lifted and the system is not OFF (R103). -/
def gateLifted (s : State) : State := if s.ssc.state = .off then s else { s with kms := s.kms.started }

/-- A gate exit (R104): outside OFF the scanner starts, and a pass of the same tick is made. -/
def gateExit (s : State) : State := if s.ssc.state = .off then s else { s with kms := s.kms.ungated }

/-- KMS takes a change of a debounced LID or HINGE level (R104): gate entry, gate exit or neither. -/
def regate (s : State) : State :=
  let gated := gateOf s.swi.lid.level s.swi.hinge.level
  let t := { s with kms := { s.kms with gated := gated } }
  if gated && !s.kms.gated then stopKeys t
  else if s.kms.gated && !gated then gateExit t
  else t

/-- KMS takes an initial LID or HINGE level (R104, R126): once both are taken they decide the gate, without gate
entry or exit; the scanner starts when it then has no reason to be stopped (R103). -/
def firstGate (s : State) : State :=
  if gateOf s.swi.lid.level s.swi.hinge.level then s
  else gateLifted { s with kms := { s.kms with gated := false } }

/-- PPC takes the initial BAYLATCH level (R57): LATCHED when closed with no request pending; no BAY_RELEASE; both
paths re-decided. -/
def firstLatch (s : State) : State :=
  if s.swi.baylatch.level = some false ∧ s.ppc.bay.pending = false then
    repath { s with ppc := { s.ppc with bay := { s.ppc.bay with state := .latched } } }
  else repath s

/-- What an initial take hands on (R126). -/
def handInitial (i : SwitchInput) (s : State) : State :=
  match i with
  | .lid | .hinge => selectCurves (firstGate s)
  | .pwrbtn => s
  | .baylatch => firstLatch s

/-- An input whose level has just been taken or changed. -/
def Input.taken (x : Input) (level : Option Bool) : Input := { x with level := level, run := 0, due := false }

/-- INITIAL_TAKE (R126), where the run of an input not taken has reached D. -/
def execInitialTake (i : SwitchInput) (s : State) : Result :=
  let x := s.swi.input i
  if x.due ∧ x.level = none then .next (handInitial i (setInput i (x.taken x.reference) s)) else .next s

/-! ## Debounce completions (R125, R127 to R129) -/

/-- A debounce completion is due at an input: its level is taken and its run at the other level has reached D. -/
def Input.completes (x : Input) : Option Bool :=
  if x.due then x.level.map (!·) else none

def lidHingeInput : LidHinge → SwitchInput
  | .lid => .lid
  | .hinge => .hinge

/-- The event of a LID or HINGE completion (R127). -/
def lidHingeEvent : LidHinge → EventCode
  | .lid => .lid
  | .hinge => .tablet

/-- What a LID or HINGE completion hands on (R127): KMS, FNC, the event. -/
def handLidHinge (i : LidHinge) (level : Bool) (s : State) : State :=
  route (lidHingeEvent i) 0 level.toNat (selectCurves (regate s))

/-- LID_HINGE_DEBOUNCE_COMPLETE (R125, R127). -/
def execLidHingeDebounceComplete (i : LidHinge) (s : State) : Result :=
  let x := s.swi.input (lidHingeInput i)
  match x.completes with
  | some level => .next (handLidHinge i level (setInput (lidHingeInput i) (x.taken (some level)) s))
  | none => .next s

/-- The hold timer and stage at a PWRBTN completion (R130). -/
def Swi.hold (w : Swi) (pressed : Bool) : Swi :=
  if pressed then { w with holdStage := .counting, holdCount := 0, holdRunning := true }
  else { w with holdStage := .idle, holdCount := 0, holdRunning := false }

/-- PWRBTN_DEBOUNCE_COMPLETE (R125, R128). -/
def execPwrbtnDebounceComplete (s : State) : Result :=
  match s.swi.pwrbtn.completes with
  | some pressed =>
    .next (route .powerButton 0 pressed.toNat
      { s with swi := { s.swi with pwrbtn := s.swi.pwrbtn.taken (some pressed) }.hold pressed })
  | none => .next s

/-- BAYLATCH_DEBOUNCE_COMPLETE (R125, R129). -/
def execBaylatchDebounceComplete (s : State) : Result :=
  match s.swi.baylatch.completes with
  | some opened =>
    .next (bayLatchReported opened
      { s with swi := { s.swi with baylatch := s.swi.baylatch.taken (some opened) } })
  | none => .next s

/-! ## Holds (R130, R131) -/

/-- POWER_BUTTON_HOLD (R130): the 4000th counted expiry in COUNTING. -/
def execPowerButtonHold (s : State) : Result :=
  if s.swi.holdStage = .counting ∧ 4000 ≤ s.swi.holdCount then
    .next (route .powerButtonHold 0 0 { s with swi := { s.swi with holdStage := .reported } })
  else .next s

/-- HOLD_10S_EXPIRY (R130, R131): the 10,000th counted expiry in REPORTED. -/
def execHold10sExpiry (s : State) : Result :=
  if s.swi.holdStage = .reported ∧ 10000 ≤ s.swi.holdCount then
    .next (forceOff .button { s with swi := { s.swi with holdStage := .spent, holdRunning := false } })
  else .next s

/-! ## SET_SWITCH_DEBOUNCE (R132) -/

/-- The input of a selector (R132). -/
def selectorInput (n : Nat) : Option SwitchInput :=
  if n = 0 then some .lid
  else if n = 1 then some .hinge
  else if n = 2 then some .pwrbtn
  else if n = 3 then some .baylatch
  else none

/-- One input's part of the reply (R132): time, level or the not-taken mark, run count. -/
def inputBytes (x : Input) : List Byte :=
  put2 (x.time : Nat) ++ put1Mark (x.level.map Bool.toNat) ++ put2 (x.run : Nat)

/-- The SET_SWITCH_DEBOUNCE data (R132). -/
def switchBytes (w : Swi) : List Byte :=
  inputBytes w.lid ++ inputBytes w.hinge ++ inputBytes w.pwrbtn ++ inputBytes w.baylatch ++
    put1 w.holdStage.num ++ put2 (w.holdCount : Nat)

/-- SET_SWITCH_DEBOUNCE's checks and effect (R132). DESIGN CHOICE (log 40): the query with any byte beyond its selector, and a
selector of an input with anything but a whole time, are answered BAD_LENGTH. -/
def setSwitchDebounce (bs : List Byte) (s : State) : Answer :=
  if bs.length < 1 then refuse .badLength s
  else if arg1 bs 0 = 0xFF then
    (if bs.length = 1 then accept s (switchBytes s.swi) else refuse .badLength s)
  else
    match selectorInput (arg1 bs 0) with
    | none => refuse .badArgument s
    | some i =>
      if bs.length ≠ 3 then refuse .badLength s
      else
        let d := clampNat 5 500 (arg2 bs 1)
        let t := setInput i { s.swi.input i with time := d.1 } s
        acceptClamped d.2 t (switchBytes t.swi)

/-- SET_SWITCH_DEBOUNCE (R132). -/
def execSetSwitchDebounce (s : State) : Result := .next (runRequest 0x28 setSwitchDebounce s)

end Sys2Proof.Machine
end

