-- ==== Sys2Proof/Machine/System.lean ====
section
/-! DEFINITION. The system power states (chapter 9): the SSC timers, ONLINE, SLEEP, POWER_OFF,
SET_BATTERY_THRESHOLDS. -/

namespace Sys2Proof.Machine

/-! ## Timers (R158, R159, R163) -/

/-- BOOT_TIMEOUT (R159): in BOOTING the state moves to OFF. -/
def execBootTimeout (s : State) : Result :=
  if s.ssc.state = .booting ∧ timerDue s.ssc.bootTimer then .next (moveState .off (some (.bootTimeout, 0)) s)
  else .next s

/-- WAKE_TIMEOUT (R159): in WAKING the state moves back to STANDBY. -/
def execWakeTimeout (s : State) : Result :=
  if s.ssc.state = .waking ∧ timerDue s.ssc.wakeTimer then
    .next (moveState .standby (some (.wakeTimeout, 0)) { s with ssc := { s.ssc with wakeTimer := none } })
  else .next s

/-- HALT_TIMER_EXPIRY (R158): in HALTING the state moves to OFF, without FORCED_OFF. -/
def execHaltTimerExpiry (s : State) : Result :=
  if s.ssc.state = .halting ∧ timerDue s.ssc.haltTimer then .next (moveState .off none s) else .next s

/-- CRITICAL_GRACE_EXPIRY (R163): a forcing with cause CRITICAL; the flag stays as it is. -/
def execCriticalGraceExpiry (s : State) : Result :=
  if timerDue s.ssc.graceTimer then
    .next (forceOff .critical { s with ssc := { s.ssc with graceTimer := none } })
  else .next s

/-! ## ONLINE (R156) -/

/-- The link set UP, any pending link-down cancelled (R156, R157). -/
def linkUpCancel (c : Slc) : Slc :=
  { c with linkUp := true, replies := c.replies.map fun r => { r with linkDown := false } }

/-- The move of an accepted ONLINE from BOOTING or WAKING (R156). -/
def goOnline (s : State) : State :=
  let t := moveState .run none { s with ssc := { s.ssc with bootTimer := none, wakeTimer := none } }
  { t with slc := linkUpCancel t.slc }

/-- The ONLINE data (R156). -/
def onlineBytes (x : Ssc) : List Byte :=
  put1 x.state.num ++ put1 x.startCause.num ++ put1 x.wakeCause ++ put1 x.mode.num ++ putFlags [x.low, x.critical]

def onlineRequest (bs : List Byte) (s : State) : Answer :=
  if bs.length ≠ 0 then refuse .badLength s
  else
    match s.ssc.state with
    | .booting | .waking => accept (goOnline s) (onlineBytes (goOnline s).ssc)
    | .run => accept s (onlineBytes s.ssc)
    | .off | .halting | .standby => refuse .notNow s

/-- ONLINE (R156). -/
def execOnline (s : State) : Result := .next (runRequest 0x01 onlineRequest s)

/-! ## SLEEP (R157) -/

def sleepRequest (bs : List Byte) (s : State) : Answer :=
  if bs.length ≠ 0 then refuse .badLength s
  else if s.ssc.state = .run then
    ⟨moveState .standby none s, .ok, put1 (moveState .standby none s).ssc.state.num, true⟩
  else refuse .notNow s

/-- SLEEP (R157). -/
def execSleep (s : State) : Result := .next (runRequest 0x02 sleepRequest s)

/-! ## POWER_OFF (R158) -/

/-- The move of an accepted POWER_OFF (R158). -/
def goHalting (s : State) : State :=
  let t := moveState .halting none { s with ssc := { s.ssc with bootTimer := none, wakeTimer := none } }
  { t with ssc := { t.ssc with haltTimer := some 200 } }

def powerOffRequest (bs : List Byte) (s : State) : Answer :=
  if bs.length ≠ 0 then refuse .badLength s
  else
    match s.ssc.state with
    | .run | .booting | .waking => accept (goHalting s) (put1 (goHalting s).ssc.state.num)
    | .off | .halting | .standby => refuse .notNow s

/-- POWER_OFF (R158). -/
def execPowerOff (s : State) : Result := .next (runRequest 0x03 powerOffRequest s)

/-! ## SET_BATTERY_THRESHOLDS (R164) -/

/-- The SET_BATTERY_THRESHOLDS data (R164). -/
def batteryBytes (x : Ssc) : List Byte :=
  put1 x.lowThreshold ++ put1 x.criticalThreshold ++ put1Mark x.combinedSoc ++ putFlags [x.low, x.critical] ++
    put2 (timerLeft x.graceTimer : Nat) ++ put1 x.state.num ++ put1 x.mode.num ++ put1 x.startCause.num ++
    put1 x.wakeCause

def setBatteryThresholds (bs : List Byte) (s : State) : Answer :=
  if bs.length ≠ 2 then refuse .badLength s
  else
    let low := clampNat 5 50 (arg1 bs 0)
    let critical := clampNat 2 (low.1 - 1) (arg1 bs 1)
    let t := decideBattery
      { s with ssc := { s.ssc with lowThreshold := low.1, criticalThreshold := critical.1 } }
    acceptClamped (low.2 || critical.2) t (batteryBytes t.ssc)

/-- SET_BATTERY_THRESHOLDS (R164). -/
def execSetBatteryThresholds (s : State) : Result := .next (runRequest 0x24 setBatteryThresholds s)

end Sys2Proof.Machine
end

