-- ==== Sys2Proof/Machine/Tables.lean ====
section
/-! DEFINITION. The table requests of SWS, LMT and PPC (R10, R18, R60, R83), and READ_TABLE and RESTORE_DEFAULTS for
every table (R189). -/

namespace Sys2Proof.Machine

/-! ## LOAD_LIMIT (R18, R19) -/

/-- A limit entry as it travels, from the presence byte at offset `i` on (R17, R183): presence, enable, the four limits,
hysteresis, deglitch, action, the two report flags. The action is the one at its place in the list of R17. DESIGN CHOICE
(log 11): bits 4 to 7 of the presence byte, bits 2 to 7 of the byte of report flags, and the value bytes of an absent limit
are ignored. -/
def limitEntryAt (bs : List Byte) (i : Nat) (a : Action) : LimitEntry where
  enable := argFlag bs (i + 1)
  warnLow := argOpt bs i 0 (i + 2)
  warnHigh := argOpt bs i 1 (i + 4)
  faultLow := argOpt bs i 2 (i + 6)
  faultHigh := argOpt bs i 3 (i + 8)
  hyst := arg2 bs (i + 10)
  deglitch := arg1 bs (i + 12)
  action := a
  reportWarning := argBit bs (i + 14) 0
  reportFault := argBit bs (i + 14) 1

def loadLimit (bs : List Byte) (s : State) : Answer :=
  if bs.length ≠ 16 then refuse .badLength s
  else if h : arg1 bs 0 < 16 then
    match allActions[arg1 bs 14]? with
    | none => refuse .invalidTable s
    | some a =>
      if limitEntryValid ⟨arg1 bs 0, h⟩ (limitEntryAt bs 1 a) then
        accept (loadLimitEntry ⟨arg1 bs 0, h⟩ (limitEntryAt bs 1 a) s) []
      else refuse .invalidTable s
  else refuse .badArgument s

/-- LOAD_LIMIT (R18, R19). -/
def execLoadLimit (s : State) : Result := .next (runRequest 0x12 loadLimit s)

/-- A limit entry in a reply (R34, R183), absent limits marked in the presence byte. -/
def limitBytes (e : LimitEntry) : List Byte :=
  putFlags [e.warnLow.isSome, e.warnHigh.isSome, e.faultLow.isSome, e.faultHigh.isSome] ++ putFlag e.enable ++
    put2Opt e.warnLow ++ put2Opt e.warnHigh ++ put2Opt e.faultLow ++ put2Opt e.faultHigh ++ put2 e.hyst ++
    put1 e.deglitch ++ put1 e.action.num ++ putFlags [e.reportWarning, e.reportFault]

/-! ## LOAD_SCHEDULE (R10, R11) -/

/-- The permitted repetitions (section 1.5). -/
def repetitions : List Nat := [1, 2, 4, 8, 16, 32, 64]

/-- Two entries conflict: their offsets are congruent modulo the smaller repetition (section 1.5). -/
def SlotEntry.conflicts (x y : SlotEntry) : Bool :=
  decide (x.off % min x.rep y.rep = y.off % min x.rep y.rep)

/-- Check 3 of R10: with enable on, no other enabled entry conflicts. -/
def scheduleFits (t : Table SlotEntry 8) (i : Fin 8) (e : SlotEntry) : Bool :=
  !e.enable ||
    (List.finRange 8).all fun j => decide (j = i) || !(t.get j).enable || !e.conflicts (t.get j)

/-- A sweep in progress whose chosen channel is disabled before its conversion (R11): the conversion is discarded. -/
def Sweep.dropSlot (w : Sweep) (i : Fin 8) : Sweep :=
  if w.slot = some i ∧ w.slotDone = false then { w with slot := none } else w

/-- An accepted load (R10, R11). -/
def loadSlot (i : Fin 8) (e : SlotEntry) (x : Sws) : Sws :=
  let y := { x with schedule := x.schedule.set i e }
  if (x.schedule.get i).enable && !e.enable then
    { y with
      latest := y.latest.set (slowChannel i) noSample
      sweep := y.sweep.map fun w => w.dropSlot i }
  else y

def loadSchedule (bs : List Byte) (s : State) : Answer :=
  if bs.length ≠ 4 then refuse .badLength s
  else if h : 8 ≤ arg1 bs 0 ∧ arg1 bs 0 < 16 then
    let i : Fin 8 := ⟨arg1 bs 0 - 8, by omega⟩
    let e : SlotEntry := ⟨argFlag bs 1, arg1 bs 2, arg1 bs 3⟩
    if !repetitions.contains e.rep || decide (e.rep ≤ e.off) then refuse .invalidTable s
    else if scheduleFits s.sws.schedule i e then accept { s with sws := loadSlot i e s.sws } []
    else refuse .invalidTable s
  else refuse .badArgument s

/-- LOAD_SCHEDULE (R10, R11). -/
def execLoadSchedule (s : State) : Result := .next (runRequest 0x13 loadSchedule s)

/-! ## LOAD_PROFILE (R60) -/

/-- The boundaries of a LOAD_PROFILE for `n` bands (section 11.2). -/
def boundsAt (bs : List Byte) (n : Nat) : List Int := (List.range (n - 1)).map fun i => arg2s bs (13 + 2 * i)

/-- The bands of a LOAD_PROFILE for `n` bands (section 11.2). -/
def bandsAt (bs : List Byte) (n : Nat) : List Band :=
  (List.range n).map fun i =>
    ⟨arg2 bs (11 + 2 * n + 6 * i), arg2 bs (13 + 2 * n + 6 * i), arg2 bs (15 + 2 * n + 6 * i)⟩

/-- The profile of a LOAD_PROFILE for `n` bands (section 11.2). -/
def profileOf (bs : List Byte) (n : Nat) : Profile where
  bounds := boundsAt bs n
  bands := bandsAt bs n
  hyst := arg1 bs 1
  preThreshold := arg2 bs 2
  preCurrent := arg2 bs 4
  taperCurrent := arg2 bs 6
  rechargeDelta := arg2 bs 8
  rechargeSoc := arg1 bs 10
  fastLimit := arg2 bs 11

/-- A value in a closed range. -/
def inRange (lo hi v : Nat) : Bool := decide (lo ≤ v) && decide (v ≤ hi)

/-- Values strictly ascending. -/
def strictlyRising : List Int → Bool
  | x :: y :: rest => decide (x < y) && strictlyRising (y :: rest)
  | _ => true

/-- The ranges of R59 (check 4 of R60). -/
def profileValid (x : Profile) : Bool :=
  strictlyRising x.bounds && (x.bounds.all fun b => decide (-200 ≤ b) && decide (b ≤ 800)) &&
    (x.bands.all fun b =>
      decide (b.chargeLimit ≤ 8064) && inRange 3000 4500 b.cellVoltage && decide (b.dischargeLimit ≤ 8064)) &&
    decide (x.hyst ≤ 100) && inRange 2500 3300 x.preThreshold && decide (x.preCurrent ≤ 1024) &&
    inRange 64 2048 x.taperCurrent && inRange 50 300 x.rechargeDelta && inRange 50 99 x.rechargeSoc &&
    inRange 60 600 x.fastLimit

/-- An accepted load: the profile replaced, and noted for the packs that used it (R60, R63). -/
def setProfile (i : Fin 4) (x : Profile) (s : State) : State :=
  { s with
    ppc := { s.ppc with
      profiles := s.ppc.profiles.set i x
      charge := s.ppc.charge.map fun c => c.noteProfile i.val } }

def loadProfile (bs : List Byte) (s : State) : Answer :=
  if bs.length < 1 then refuse .badLength s
  else if h : arg1 bs 0 / 16 < 4 then
    let n := arg1 bs 0 % 16
    if n < 1 ∨ 6 < n then refuse .invalidTable s
    else if bs.length ≠ 11 + 8 * n then refuse .badLength s
    else if profileValid (profileOf bs n) then accept (setProfile ⟨arg1 bs 0 / 16, h⟩ (profileOf bs n) s) []
    else refuse .invalidTable s
  else refuse .badArgument s

/-- LOAD_PROFILE (R60). -/
def execLoadProfile (s : State) : Result := .next (runRequest 0x10 loadProfile s)

/-- A profile in a reply: the fields of LOAD_PROFILE from offset 1 on (section 11.2). -/
def profileBytes (id : Nat) (x : Profile) : List Byte :=
  put1 (16 * id + x.bands.length) ++ put1 x.hyst ++ put2 (x.preThreshold : Nat) ++ put2 (x.preCurrent : Nat) ++
    put2 (x.taperCurrent : Nat) ++ put2 (x.rechargeDelta : Nat) ++ put1 x.rechargeSoc ++ put2 (x.fastLimit : Nat) ++
    x.bounds.flatMap put2 ++
    x.bands.flatMap fun b => put2 (b.chargeLimit : Nat) ++ put2 (b.cellVoltage : Nat) ++ put2 (b.dischargeLimit : Nat)

/-! ## LOAD_ADAPTER (R83) -/

def setAdapterEntry (i : Fin 8) (e : Option AdapterEntry) (s : State) : State :=
  { s with ppc := { s.ppc with adapterTable := s.ppc.adapterTable.set i e } }

/-- The ranges of R83. -/
def adapterEntryValid (e : AdapterEntry) : Bool :=
  decide (e.low ≤ 3300) && decide (e.high ≤ 3300) && decide (e.low ≤ e.high) && inRange 1000 16000 e.rating

/-- LOAD_ADAPTER (R83): index, empty mark, low, high, rated current. DESIGN CHOICE (log 11): with the empty mark set the bytes
of range and rating are ignored, whatever they hold. -/
def loadAdapter (bs : List Byte) (s : State) : Answer :=
  if bs.length ≠ 8 then refuse .badLength s
  else if h : arg1 bs 0 < 8 then
    if argFlag bs 1 then accept (setAdapterEntry ⟨arg1 bs 0, h⟩ none s) []
    else if adapterEntryValid ⟨arg2 bs 2, arg2 bs 4, arg2 bs 6⟩ then
      accept (setAdapterEntry ⟨arg1 bs 0, h⟩ (some ⟨arg2 bs 2, arg2 bs 4, arg2 bs 6⟩) s) []
    else refuse .invalidTable s
  else refuse .badArgument s

/-- LOAD_ADAPTER (R83). -/
def execLoadAdapter (s : State) : Result := .next (runRequest 0x11 loadAdapter s)

/-! ## READ_TABLE (R189) -/

def scheduleBytes (t : Table SlotEntry 8) : List Byte :=
  t.list.flatMap fun e => putFlag e.enable ++ put1 e.rep ++ put1 e.off

def adapterEntryBytes (e : Option AdapterEntry) : List Byte :=
  match e with
  | none => [1, 0, 0, 0, 0, 0, 0]
  | some x => putFlag false ++ put2 (x.low : Nat) ++ put2 (x.high : Nat) ++ put2 (x.rating : Nat)

def filterEntryBytes (e : Option FilterEntry) : List Byte :=
  match e with
  | none => [1, 0, 0, 0]
  | some x => putFlag false ++ put1 x.low ++ put1 x.high ++ put1 x.verdict.num

/-- A curve in a reply, as LOAD_FAN_CURVE lists it from the source mask on (log 24). -/
def curveBytes (c : Curve) : List Byte :=
  putFlags c.sources.flags ++ put1 c.points.length ++ put1 c.hyst ++ put2 (c.minDuty : Nat) ++
    put2 (c.failsafe : Nat) ++ c.points.flatMap fun p => put2 p.1 ++ put2 (p.2 : Nat)

/-- A fan configuration in a reply (log 24). -/
def configBytes (c : FanConfig) : List Byte := put1 c.ppr ++ putFlag c.stallCheck

def keyEntryBytes (e : KeyEntry) : List Byte := put1 e.base ++ put1 e.fn ++ putFlags [e.fnKey, e.wake, e.isolated]

/-- The 34 entries of the policy table in code order (R171). -/
def policyBytes (t : Table Policy 35) : List Byte :=
  (allCodes.filter fun c => decide (c ≠ .gap)).flatMap fun c =>
    put1 c.num ++ put1 (t.get c.idx).cls.num ++ putFlags [(t.get c.idx).wake, (t.get c.idx).start]

/-- READ_TABLE of a table that takes no further argument. -/
def readWhole (bs : List Byte) (data : List Byte) (s : State) : Answer :=
  if bs.length ≠ 1 then refuse .badLength s else accept s data

/-- The curve table (R137). -/
def readCurves (bs : List Byte) (s : State) : Answer :=
  if bs.length ≠ 3 then refuse .badLength s
  else
    match fanOf (arg1 bs 1) with
    | none => refuse .badArgument s
    | some f =>
      if h : arg1 bs 2 < 3 then accept s (curveBytes ((s.fnc.curves.get f).get ⟨arg1 bs 2, h⟩))
      else if arg1 bs 2 = 3 then accept s (configBytes (s.fnc.configs.get f))
      else refuse .badArgument s

/-- The limit table (R34). -/
def readLimits (bs : List Byte) (s : State) : Answer :=
  if bs.length ≠ 2 then refuse .badLength s
  else if h : arg1 bs 1 < 16 then accept s (limitBytes (s.lmt.entries.get ⟨arg1 bs 1, h⟩))
  else refuse .badArgument s

/-- The charge profile table (R61). -/
def readProfiles (bs : List Byte) (s : State) : Answer :=
  if bs.length ≠ 2 then refuse .badLength s
  else if h : arg1 bs 1 < 4 then accept s (profileBytes (arg1 bs 1) (s.ppc.profiles.get ⟨arg1 bs 1, h⟩))
  else refuse .badArgument s

/-- The entries of one row of the translation table. -/
def Kms.rowEntries (k : Kms) (row : Fin 8) : List KeyEntry :=
  (List.finRange 18).map fun col => k.translation.get (keyAt row col)

/-- The translation table (R120). -/
def readTranslation (bs : List Byte) (s : State) : Answer :=
  if bs.length ≠ 2 then refuse .badLength s
  else if h : arg1 bs 1 < 8 then accept s ((s.kms.rowEntries ⟨arg1 bs 1, h⟩).flatMap keyEntryBytes)
  else refuse .badArgument s

/-- READ_TABLE by its table number (R189). -/
def readTable (bs : List Byte) (s : State) : Answer :=
  if bs.length < 1 then refuse .badLength s
  else if arg1 bs 0 = 1 then readWhole bs (scheduleBytes s.sws.schedule) s
  else if arg1 bs 0 = 2 then readLimits bs s
  else if arg1 bs 0 = 3 then readProfiles bs s
  else if arg1 bs 0 = 4 then readWhole bs (s.ppc.adapterTable.list.flatMap adapterEntryBytes) s
  else if arg1 bs 0 = 5 then readCurves bs s
  else if arg1 bs 0 = 6 then readWhole bs (policyBytes s.evr.policy) s
  else if arg1 bs 0 = 7 then readTranslation bs s
  else if arg1 bs 0 = 8 then readWhole bs (s.ppt.filter.list.flatMap filterEntryBytes) s
  else refuse .badArgument s

/-- READ_TABLE (R189). -/
def execReadTable (s : State) : Result := .next (runRequest 0x18 readTable s)

/-! ## RESTORE_DEFAULTS (R189) -/

/-- The schedule (R12). -/
def restoreSchedule (s : State) : State := { s with sws := { s.sws with schedule := defaultSchedule } }

/-- The profiles (R61): every pack is treated as R60 states. -/
def restoreProfiles (s : State) : State :=
  { s with
    ppc := { s.ppc with
      profiles := defaultProfiles
      charge := s.ppc.charge.map fun c => { c with profileFresh := c.lastProfile.isSome } } }

/-- The adapter table (R83). -/
def restoreAdapters (s : State) : State := { s with ppc := { s.ppc with adapterTable := defaultAdapters } }

/-- The curve table (R137): the default stall check is on, so no fan leaves STALL_RETRY. -/
def restoreCurves (s : State) : State :=
  { s with fnc := { s.fnc with curves := defaultCurves, configs := ⟨defaultConfig, defaultConfig⟩ } }

/-- The policy table (R171): refused while more than 8 codes could stand in the urgent queue. -/
def restorePolicy (s : State) : Answer :=
  if (urgentCodes defaultPolicy s.evr.urgent).length > 8 then refuse .notNow s
  else accept { s with evr := { s.evr with policy := defaultPolicy } } []

/-- The translation table (R120). -/
def restoreTranslation (s : State) : State := { s with kms := { s.kms with translation := defaultTranslation } }

/-- The pass filter table (R45). -/
def restoreFilter (s : State) : State := { s with ppt := { s.ppt with filter := defaultFilter } }

/-- RESTORE_DEFAULTS by its table number (R189). -/
def restoreDefaults (bs : List Byte) (s : State) : Answer :=
  if bs.length < 1 then refuse .badLength s
  else if arg1 bs 0 < 1 ∨ 8 < arg1 bs 0 then refuse .badArgument s
  else if bs.length ≠ 1 then refuse .badLength s
  else if arg1 bs 0 = 1 then accept (restoreSchedule s) []
  else if arg1 bs 0 = 2 then accept (restoreLimits s) []
  else if arg1 bs 0 = 3 then accept (restoreProfiles s) []
  else if arg1 bs 0 = 4 then accept (restoreAdapters s) []
  else if arg1 bs 0 = 5 then accept (restoreCurves s) []
  else if arg1 bs 0 = 6 then restorePolicy s
  else if arg1 bs 0 = 7 then accept (restoreTranslation s) []
  else accept (restoreFilter s) []

/-- RESTORE_DEFAULTS (R189). -/
def execRestoreDefaults (s : State) : Result := .next (runRequest 0x19 restoreDefaults s)

end Sys2Proof.Machine
end

