-- ==== Sys2Proof/Machine/Dispatch.lean ====
section
/-! DEFINITION. The dispatch: one arm per command, one meaning per arm. -/

namespace Sys2Proof.Machine

def exec (i : Instr) (s : State) : Host.Outcome State Fault Refusal :=
  match i with
  | .reset rail rstin prsA prsB => Sys2Proof.Machine.execReset rail rstin prsA prsB s
  | .tickExpiry raw => Sys2Proof.Machine.execTickExpiry raw s
  | .tachEdge f us => Sys2Proof.Machine.execTachEdge f us s
  | .sweepStart => Sys2Proof.Machine.execSweepStart s
  | .conversionComplete ch value => Sys2Proof.Machine.execConversionComplete ch value s
  | .sweepCompletion => Sys2Proof.Machine.execSweepCompletion s
  | .presenceActive p => Sys2Proof.Machine.execPresenceActive p s
  | .presenceTimerExpiry p => Sys2Proof.Machine.execPresenceTimerExpiry p s
  | .packRemoval p => Sys2Proof.Machine.execPackRemoval p s
  | .silenceTimerExpiry p => Sys2Proof.Machine.execSilenceTimerExpiry p s
  | .staleTimerExpiry p => Sys2Proof.Machine.execStaleTimerExpiry p s
  | .packTelemetryReceived p bytes => Sys2Proof.Machine.execPackTelemetryReceived p bytes s
  | .packReplyReceived p bytes => Sys2Proof.Machine.execPackReplyReceived p bytes s
  | .packFrameError p e => Sys2Proof.Machine.execPackFrameError p e s
  | .packRequestTransmit p => Sys2Proof.Machine.execPackRequestTransmit p s
  | .passTimerExpiry p => Sys2Proof.Machine.execPassTimerExpiry p s
  | .passReplyQueued p => Sys2Proof.Machine.execPassReplyQueued p s
  | .chargeTimeout p => Sys2Proof.Machine.execChargeTimeout p s
  | .scanPass image => Sys2Proof.Machine.execScanPass image s
  | .initialTake x => Sys2Proof.Machine.execInitialTake x s
  | .lidHingeDebounceComplete x => Sys2Proof.Machine.execLidHingeDebounceComplete x s
  | .pwrbtnDebounceComplete => Sys2Proof.Machine.execPwrbtnDebounceComplete s
  | .baylatchDebounceComplete => Sys2Proof.Machine.execBaylatchDebounceComplete s
  | .powerButtonHold => Sys2Proof.Machine.execPowerButtonHold s
  | .hold10sExpiry => Sys2Proof.Machine.execHold10sExpiry s
  | .fanEvaluation => Sys2Proof.Machine.execFanEvaluation s
  | .kickEnd f => Sys2Proof.Machine.execKickEnd f s
  | .retryKickEnd f => Sys2Proof.Machine.execRetryKickEnd f s
  | .tachSilenceTimeout f => Sys2Proof.Machine.execTachSilenceTimeout f s
  | .hostTempStale slot => Sys2Proof.Machine.execHostTempStale slot s
  | .overrideExpiry => Sys2Proof.Machine.execOverrideExpiry s
  | .bootTimeout => Sys2Proof.Machine.execBootTimeout s
  | .wakeTimeout => Sys2Proof.Machine.execWakeTimeout s
  | .haltTimerExpiry => Sys2Proof.Machine.execHaltTimerExpiry s
  | .criticalGraceExpiry => Sys2Proof.Machine.execCriticalGraceExpiry s
  | .telemetryPeriodExpiry => Sys2Proof.Machine.execTelemetryPeriodExpiry s
  | .serviceFrameReceived bytes => Sys2Proof.Machine.execServiceFrameReceived bytes s
  | .serviceFrameError bytes => Sys2Proof.Machine.execServiceFrameError bytes s
  | .serviceGapTimeout => Sys2Proof.Machine.execServiceGapTimeout s
  | .transmitStart => Sys2Proof.Machine.execTransmitStart s
  | .transmitEnd => Sys2Proof.Machine.execTransmitEnd s
  | .unknownRequest => Sys2Proof.Machine.execUnknownRequest s
  | .online => Sys2Proof.Machine.execOnline s
  | .sleep => Sys2Proof.Machine.execSleep s
  | .powerOff => Sys2Proof.Machine.execPowerOff s
  | .restartLink => Sys2Proof.Machine.execRestartLink s
  | .readChannels => Sys2Proof.Machine.execReadChannels s
  | .readPack => Sys2Proof.Machine.execReadPack s
  | .readAllocation => Sys2Proof.Machine.execReadAllocation s
  | .readFaults => Sys2Proof.Machine.execReadFaults s
  | .clearFaults => Sys2Proof.Machine.execClearFaults s
  | .readKeymap => Sys2Proof.Machine.execReadKeymap s
  | .readTally => Sys2Proof.Machine.execReadTally s
  | .readFans => Sys2Proof.Machine.execReadFans s
  | .readStatus => Sys2Proof.Machine.execReadStatus s
  | .loadProfile => Sys2Proof.Machine.execLoadProfile s
  | .loadAdapter => Sys2Proof.Machine.execLoadAdapter s
  | .loadLimit => Sys2Proof.Machine.execLoadLimit s
  | .loadSchedule => Sys2Proof.Machine.execLoadSchedule s
  | .loadFanCurve => Sys2Proof.Machine.execLoadFanCurve s
  | .loadPolicy => Sys2Proof.Machine.execLoadPolicy s
  | .loadKeyrow => Sys2Proof.Machine.execLoadKeyrow s
  | .loadPassFilter => Sys2Proof.Machine.execLoadPassFilter s
  | .readTable => Sys2Proof.Machine.execReadTable s
  | .restoreDefaults => Sys2Proof.Machine.execRestoreDefaults s
  | .setInputLimit => Sys2Proof.Machine.execSetInputLimit s
  | .setEfficiency => Sys2Proof.Machine.execSetEfficiency s
  | .setBoost => Sys2Proof.Machine.execSetBoost s
  | .setChargeInhibit => Sys2Proof.Machine.execSetChargeInhibit s
  | .setBatteryThresholds => Sys2Proof.Machine.execSetBatteryThresholds s
  | .setHostTemps => Sys2Proof.Machine.execSetHostTemps s
  | .setFanOverride => Sys2Proof.Machine.execSetFanOverride s
  | .setKeyDebounce => Sys2Proof.Machine.execSetKeyDebounce s
  | .setSwitchDebounce => Sys2Proof.Machine.execSetSwitchDebounce s
  | .setTelemetry => Sys2Proof.Machine.execSetTelemetry s
  | .releaseBay => Sys2Proof.Machine.execReleaseBay s
  | .bayCancel => Sys2Proof.Machine.execBayCancel s
  | .pass => Sys2Proof.Machine.execPass s
  | .packRequestTransmitted p => Sys2Proof.Machine.execPackRequestTransmitted p s

end Sys2Proof.Machine
end

