-- ==== Sys2Proof/Safety.lean ====
section
/-! DEFINITION. The terms in which claims are made: the laws of the device (section 0.6), the form of a request at the
head of the buffer, and what an answered request leaves. -/

namespace Sys2Proof.Machine

/-! ## A request in its turn (R184, R185) -/

/-- A REQUEST frame of number `num` with arguments `args` and a tag stands at the head of the buffer, and the reply
queue can take its reply. -/
abbrev RequestAtHead (s : State) (num : Nat) (args : List Byte) (tag : Nat) : Prop :=
  s.slc.requests.head? = some ⟨.request, tag, BitVec.ofNat 8 num :: args⟩ ∧ replyRoom s = true

/-- The request number of a request's row (section 11.3); none for the rows that are not requests, and for PASS, which
is a frame kind of its own. -/
def requestNumber : Instr → Option Nat
  | .online => some 0x01
  | .sleep => some 0x02
  | .powerOff => some 0x03
  | .restartLink => some 0x04
  | .readChannels => some 0x05
  | .readPack => some 0x06
  | .readAllocation => some 0x07
  | .readFaults => some 0x08
  | .clearFaults => some 0x09
  | .readKeymap => some 0x0A
  | .readTally => some 0x0B
  | .readFans => some 0x0C
  | .readStatus => some 0x0D
  | .loadProfile => some 0x10
  | .loadAdapter => some 0x11
  | .loadLimit => some 0x12
  | .loadSchedule => some 0x13
  | .loadFanCurve => some 0x14
  | .loadPolicy => some 0x15
  | .loadKeyrow => some 0x16
  | .loadPassFilter => some 0x17
  | .readTable => some 0x18
  | .restoreDefaults => some 0x19
  | .setInputLimit => some 0x20
  | .setEfficiency => some 0x21
  | .setBoost => some 0x22
  | .setChargeInhibit => some 0x23
  | .setBatteryThresholds => some 0x24
  | .setHostTemps => some 0x25
  | .setFanOverride => some 0x26
  | .setKeyDebounce => some 0x27
  | .setSwitchDebounce => some 0x28
  | .setTelemetry => some 0x29
  | .releaseBay => some 0x2A
  | .bayCancel => some 0x2B
  | .reset _ _ _ _ | .tickExpiry _ | .tachEdge _ _ | .sweepStart | .conversionComplete _ _ | .sweepCompletion
  | .presenceActive _ | .presenceTimerExpiry _ | .packRemoval _ | .silenceTimerExpiry _ | .staleTimerExpiry _
  | .packTelemetryReceived _ _ | .packReplyReceived _ _ | .packFrameError _ _ | .packRequestTransmit _
  | .passTimerExpiry _ | .passReplyQueued _ | .chargeTimeout _ | .scanPass _ | .initialTake _
  | .lidHingeDebounceComplete _ | .pwrbtnDebounceComplete | .baylatchDebounceComplete | .powerButtonHold
  | .hold10sExpiry | .fanEvaluation | .kickEnd _ | .retryKickEnd _ | .tachSilenceTimeout _ | .hostTempStale _
  | .overrideExpiry | .bootTimeout | .wakeTimeout | .haltTimerExpiry | .criticalGraceExpiry
  | .telemetryPeriodExpiry | .serviceFrameReceived _ | .serviceFrameError _ | .serviceGapTimeout | .transmitStart
  | .transmitEnd | .unknownRequest | .pass | .packRequestTransmitted _ => none

/-- What an executed request leaves of a state in which its owner has acted: the request has left the buffer and its
reply stands last in the reply queue. -/
def answered (tag : Nat) (code : ResultCode) (data : List Byte) (s : State) : State :=
  enqueueReply ⟨tag, code, data, false⟩ (popRequest s)

/-- Replies with the link-down marks left out: what is queued to be sent (R157, R185). -/
def untied (rs : List Reply) : List Reply := rs.map fun r => { r with linkDown := false }

/-! ## The turn of a conversion and of a completion (R8) -/

/-- Channel `ch` is converted next in sweep `w` (R8): the fast channels in order, then the chosen slow one. -/
abbrev InTurn (w : Sweep) (ch : Fin 16) : Prop :=
  (w.fast < 8 ∧ ch.val = w.fast) ∨ (8 ≤ w.fast ∧ w.slotDone = false ∧ ∃ i, w.slot = some i ∧ ch.val = 8 + i.val)

/-- Every conversion of the sweep in progress is done (R8). -/
abbrev SweepDone (s : State) (w : Sweep) : Prop :=
  s.sws.sweep = some w ∧ 8 ≤ w.fast ∧ (w.slot = none ∨ w.slotDone = true)

/-! ## Runs, timers, tallies -/

/-- A run of commands, one after another, while each gives a next state. -/
def runAll : List Instr → State → Option State
  | [], s => some s
  | c :: cs, s =>
    match exec c s with
    | .next t => runAll cs t
    | _ => none

/-- A timer counted at a tick expiry (R3): a stopped timer stays stopped, a running one has one expiry fewer to go,
and one that has reached its count stays due. -/
abbrev Counted (old new : Timer) : Prop :=
  (old = none → new = none) ∧ (∀ n, old = some (n + 1) → new = some n) ∧ (old = some 0 → new = some 0)

/-- A code is tallied once more (R172). -/
abbrev Tallied (c : EventCode) (s t : State) : Prop :=
  t.evr.tally.get c.idx = min 255 (s.evr.tally.get c.idx + 1)

/-- What an event on its way through EVR to SSC leaves alone (R168): everything but the tallies and queues, and what a
start (R154) or a wake (R155) moves at SSC, KMS, TMB, SWS and FNC; and those move only from OFF or STANDBY. -/
structure EventFrame (s t : State) : Prop where
  lmt : t.lmt = s.lmt
  ppt : t.ppt = s.ppt
  ppc : t.ppc = s.ppc
  swi : t.swi = s.swi
  slc : t.slc = s.slc
  pending : t.pending = s.pending
  tmb : t.tmb = { s.tmb with capture := t.tmb.capture }
  sws : t.sws = { s.sws with countdown := t.sws.countdown }
  kms : t.kms = { s.kms with countdown := t.kms.countdown, firstPass := t.kms.firstPass }
  fnc : t.fnc = { s.fnc with fans := t.fnc.fans, evalCountdown := t.fnc.evalCountdown }
  evr : t.evr =
    { s.evr with
      tally := t.evr.tally
      urgent := t.evr.urgent
      normal := t.evr.normal
      normalState := t.evr.normalState
      discarded := t.evr.discarded
      keyMark := t.evr.keyMark }
  ssc : t.ssc =
    { s.ssc with
      state := t.ssc.state
      sysen := t.ssc.sysen
      wake := t.ssc.wake
      bootTimer := t.ssc.bootTimer
      wakeTimer := t.ssc.wakeTimer
      wakeCause := t.ssc.wakeCause
      mode := t.ssc.mode }
  awake : s.ssc.state ≠ .off → s.ssc.state ≠ .standby →
    t.ssc = s.ssc ∧ t.tmb = s.tmb ∧ t.sws = s.sws ∧ t.kms = s.kms ∧ t.fnc = s.fnc

/-- Entry to OFF (R152, R153): the state, the lines and the three timers; the part mode (R165); the scanner stopped and
the positions released (R117); the link DOWN with any pending link-down void; nothing else but records. -/
abbrev OffEntered (s t : State) : Prop :=
  t.ssc =
      { s.ssc with
        state := .off
        sysen := false
        wake := false
        bootTimer := none
        wakeTimer := none
        haltTimer := none
        mode := if s.ppc.adapter.present then s.ssc.mode else .quiet } ∧
    t.kms = s.kms.stopped ∧ t.slc = linkDownVoid s.slc ∧ t.lmt = s.lmt ∧ t.ppt = s.ppt ∧ t.ppc = s.ppc ∧
    t.swi = s.swi ∧ t.pending = s.pending ∧ t.tmb.ms = s.tmb.ms ∧ Tallied .stateChange s t

/-- The raw level of an input (R124). -/
def SwitchLevels.of (raw : SwitchLevels) : SwitchInput → Bool
  | .lid => raw.lid
  | .hinge => raw.hinge
  | .pwrbtn => raw.pwrbtn
  | .baylatch => raw.baylatch

/-- A sample value beyond a present fault limit (R17). -/
abbrev BeyondFault (e : LimitEntry) (v : Int) : Prop := (∃ l ∈ e.faultLow, v < l) ∨ ∃ h ∈ e.faultHigh, h < v

/-- A sample value outside a present warn limit (R17). -/
abbrev OutsideWarn (e : LimitEntry) (v : Int) : Prop := (∃ l ∈ e.warnLow, v < l) ∨ ∃ h ∈ e.warnHigh, h < v

/-- A sample value inside the narrowed warn band (R17). -/
abbrev InsideWarn (e : LimitEntry) (v : Int) : Prop :=
  (∀ l ∈ e.warnLow, l + e.hyst ≤ v) ∧ ∀ h ∈ e.warnHigh, v ≤ h - e.hyst

/-- A sample value inside the narrowed fault band (R17). -/
abbrev InsideFault (e : LimitEntry) (v : Int) : Prop :=
  (∀ l ∈ e.faultLow, l + e.hyst ≤ v) ∧ ∀ h ∈ e.faultHigh, v ≤ h - e.hyst

/-- The converted value brought into its channel's clamp range (R5). -/
def clamped (ch : Fin 16) (v : Int) : Int := max (clampRange ch).1 (min (clampRange ch).2 v)

/-- A conversion is taken: the sample replaces its channel's entry and the sweep moves on (R5, R8). -/
def stored (ch : Fin 16) (v : Int) (w : Sweep) (s : State) : State :=
  { s with
    sws := { s.sws with
      latest := s.sws.latest.set ch ⟨true, decide (clamped ch v ≠ v), clamped ch v, w.number, s.tmb.ms⟩
      sweep := some (if w.fast < 8 then { w with fast := w.fast + 1 } else { w with slotDone := true }) } }

/-- A limit channel replaced. -/
def withChan (ch : Fin 16) (c : LimitChan) (s : State) : State :=
  { s with lmt := { s.lmt with chans := s.lmt.chans.set ch c } }

/-- The last sentence of R24, of a command that takes `s` to `t`: where a channel in FAULT or HELD is in neither after, it
is in NORMAL, and the command was CLEAR_FAULTS with the channel in HELD, a load of its entry with enable off, or a
reset. -/
abbrev FaultReturn (c : Instr) (s t : State) (ch : Fin 16) : Prop :=
  (s.lmt.chans.get ch).state = .fault ∨ (s.lmt.chans.get ch).state = .held →
  (t.lmt.chans.get ch).state = .normal ∨ (t.lmt.chans.get ch).state = .warning →
  (t.lmt.chans.get ch).state = .normal ∧
    ((c = .clearFaults ∧ (s.lmt.chans.get ch).state = .held ∧ ∃ tag, RequestAtHead s 0x09 [] tag) ∨
      (c = .loadLimit ∧ (∃ args tag, RequestAtHead s 0x12 args tag ∧ args.length = 16 ∧ arg1 args 0 = ch.val) ∧
        (t.lmt.entries.get ch).enable = false) ∨
      ∃ rail rstin prsA prsB, c = .reset rail rstin prsA prsB ∧ (rail ≠ none ∨ rstin = true))

/-! ## Laws of the queues (R170, R175, R177, R184, R185) -/

/-- START is set only on the four codes that may carry it (R169, R170). -/
abbrev PolicyLegal (e : Evr) : Prop := ∀ c ∈ allCodes, (e.policy.get c.idx).start = true → c.mayStart = true

/-- The urgent queue never holds two records of one code, and the codes that can stand in it are at most 8 (R177); the
normal queue holds at most 32 records, and an OPEN queue has lost nothing (R175, R176); the request buffer and the
reply queue hold at most four (R184, R185). -/
abbrev QueueLaw (s : State) : Prop :=
  PolicyLegal s.evr ∧ (s.evr.urgent.map fun r => r.code).Nodup ∧
    (urgentCodes s.evr.policy s.evr.urgent).length ≤ 8 ∧ s.evr.normal.length ≤ 32 ∧
    (s.evr.normalState = .opened → s.evr.discarded = 0 ∧ s.evr.keyMark = false) ∧
    s.slc.requests.length ≤ 4 ∧ s.slc.replies.length ≤ 4

/-! ## Laws of the setpoints (R54, R91, R94) -/

/-- 0, or a multiple of 32 between 128 and 8064. -/
abbrev OnGrid (i : Nat) : Prop := i = 0 ∨ (i % 32 = 0 ∧ 128 ≤ i ∧ i ≤ 8064)

/-- One pack's setpoints: on the grid, and the voltage 0 with the charge current, else a multiple of 8 in 5000..20000
(R91, R94). -/
abbrev SetpointsOk (x : Setpoints) : Prop :=
  OnGrid x.chargeI ∧ OnGrid x.boost ∧
    (if x.chargeI = 0 then x.chargeV = 0 else x.chargeV % 8 = 0 ∧ 5000 ≤ x.chargeV ∧ x.chargeV ≤ 20000)

/-- The figures a phase step hands to the pass: V_CHG a multiple of 8 up to 20000, and no charge cap under a V_CHG
below 5000 (R75, R76). -/
abbrev FiguresOk (c : Charge) : Prop := c.vChg % 8 = 0 ∧ c.vChg ≤ 20000 ∧ (c.vChg < 5000 → c.cap = 0)

/-- No setpoint over an OPEN path, and no charge setpoint over one that is not FULL (R53). -/
abbrev PathSetpointsOk (m : PathMode) (x : Setpoints) : Prop :=
  (m = .opened → x = noSetpoints) ∧ (m ≠ .full → x.chargeI = 0)

/-- The law of R94, with R91's bounds, the bay law of R54 and the path law of R53. -/
abbrev SetpointLaw (s : State) : Prop :=
  SetpointsOk s.ppc.setpoints.a ∧ SetpointsOk s.ppc.setpoints.b ∧
    (s.ppc.setpoints.a.chargeI ≠ 0 ∨ s.ppc.setpoints.b.chargeI ≠ 0 →
      s.ppc.setpoints.a.boost = 0 ∧ s.ppc.setpoints.b.boost = 0) ∧
    (s.ppc.bay.state ≠ .latched → s.ppc.setpoints.b = noSetpoints) ∧
    PathSetpointsOk s.ppc.path.a.mode s.ppc.setpoints.a ∧ PathSetpointsOk s.ppc.path.b.mode s.ppc.setpoints.b ∧
    FiguresOk s.ppc.charge.a ∧ FiguresOk s.ppc.charge.b

/-! ## Laws of protection and battery (R27, R29, R52, R96, R161 to R163) -/

/-- The action set is the union of the carried actions (R27); the adapter switch is open exactly with INPUT_OPEN (R29);
the path modes are those of R52; LTR is asserted exactly as R96 says. -/
abbrev ProtectionLaw (s : State) : Prop :=
  s.lmt.actionSet = s.lmt.carried ∧ s.ppc.adapterSwitchOpen = s.lmt.actionSet.contains .inputOpen ∧
    s.ppc.path = ⟨pathOf s .a, pathOf s .b⟩ ∧
    (s.ppc.ltr = true ↔ s.ppc.throttle.state = .asserted ∨ s.ppc.throttle.state = .releasing ∨
      Action.throttle ∈ s.lmt.actionSet)

/-- The combined SOC is that of the pack records (R161); both battery flags stand exactly while their conditions hold
(R162, R163); the thresholds lie in their ranges (R164). -/
abbrev BatteryLaw (s : State) : Prop :=
  s.ssc.combinedSoc = combinedSocOf s.ppt ∧ s.ssc.low = batteryLowHolds s ∧ s.ssc.critical = batteryCriticalHolds s ∧
    5 ≤ s.ssc.lowThreshold ∧ s.ssc.lowThreshold ≤ 50 ∧ 2 ≤ s.ssc.criticalThreshold ∧
    s.ssc.criticalThreshold < s.ssc.lowThreshold

/-! ## Laws of the system state (R152, R153, R156 to R159, R165) -/

/-- No reply carries a pending link-down. -/
abbrev NoLinkDown (c : Slc) : Prop := linkDownPending c = false

/-- The lines, the timers, the part mode and the link by the system state (section 9.1, R159, R165, R186); at most one
reply carries a pending link-down, and no held pass-through result does (R157). -/
abbrev StateLaw (s : State) : Prop :=
  s.ssc.sysen = decide (s.ssc.state ≠ .off) ∧ s.ssc.wake = decide (s.ssc.state = .waking) ∧
    s.ssc.bootTimer.isSome = decide (s.ssc.state = .booting) ∧
    s.ssc.wakeTimer.isSome = decide (s.ssc.state = .waking) ∧
    s.ssc.haltTimer.isSome = decide (s.ssc.state = .halting) ∧
    (s.ssc.mode = .quiet ↔ s.ssc.state = .off ∧ s.ppc.adapter.present = false) ∧
    (s.ssc.state = .off ∨ s.ssc.state = .booting → s.slc.linkUp = false ∧ NoLinkDown s.slc) ∧
    (s.ssc.state = .run → s.slc.linkUp = true ∧ NoLinkDown s.slc) ∧
    (s.ssc.state = .standby ∨ s.ssc.state = .waking → s.slc.linkUp = linkDownPending s.slc) ∧
    (s.slc.replies.filter fun r => r.linkDown).length ≤ 1 ∧
    (∀ r ∈ s.ppt.ports.a.slot.held, r.linkDown = false) ∧ (∀ r ∈ s.ppt.ports.b.slot.held, r.linkDown = false)

/-! ## Laws of the keyboard (R103, R104, R117) -/

/-- The scanner has a reason to be stopped (R103). -/
abbrev ScannerStopped (s : State) : Prop := s.ssc.state = .off ∨ s.kms.gated = true

/-- The gate follows SWI's levels (R104); the scanner holds a countdown exactly while it runs, and its first-pass mark
is set while it does not (R103); every position is UP until the first pass after a stop (R111, R117). -/
abbrev KeyLaw (s : State) : Prop :=
  s.kms.gated = gateOf s.swi.lid.level s.swi.hinge.level ∧
    (ScannerStopped s → s.kms.countdown = none ∧ s.kms.firstPass = true) ∧
    (¬ ScannerStopped s → s.kms.countdown.isSome = true) ∧
    (s.kms.firstPass = true → ∀ p : Fin 144, (s.kms.positions.get p).state = .up) ∧
    (s.kms.exited = true → s.kms.countdown = some 1 ∧ s.kms.firstPass = true)

/-- The key records of a normal queue that stand after its last GAP with the key mark (R115, R116). -/
def keySegment (q : List NormalRecord) : List KeyRecord :=
  q.foldl
    (fun acc r =>
      match r with
      | .key k => acc ++ [k]
      | .event e => if e.code = .gap ∧ 256 ≤ e.value then [] else acc) []

/-- The key records of one position in a queue's last segment: `true` for RELEASE, `false` for PRESS. -/
def keyActions (q : List NormalRecord) (p : Fin 144) : List Bool :=
  ((keySegment q).filter fun k => decide (k.position = p)).map fun k => k.release

/-- No two neighbours are alike. -/
def alternates : List Bool → Bool
  | x :: y :: rest => x != y && alternates (y :: rest)
  | _ => true

/-- The law of R115 as the normal queue shows it: for every position the key records since the last GAP with the key
mark alternate; unless lost key records wait for such a GAP, the last of them is a PRESS exactly when the position is
announced; and only a DOWN or RELEASE_DEBOUNCE position is announced. -/
abbrev KeyRecordLaw (s : State) : Prop :=
  ∀ p : Fin 144,
    alternates (keyActions s.evr.normal p) = true ∧
      (s.evr.keyMark = false →
        ∀ x ∈ (keyActions s.evr.normal p).getLast?, x = !(s.kms.positions.get p).announced) ∧
      ((s.kms.positions.get p).announced = true →
        (s.kms.positions.get p).state = .down ∨ (s.kms.positions.get p).state = .releaseDebounce)

/-! ## Laws of the fans (R4, R144 to R147, R149) -/

/-- One fan: the kick timer runs exactly in KICK and STALL_RETRY; the retry count is 1 to 3 in STALL_RETRY, 3 in
STALL_LOCKOUT and 0 otherwise; with FAN_FULL a fan not locked out is driven at 1000 (R145); in QUIET the tach record is
cleared and the silence timer stopped (R149). -/
abbrev FanOk (mode : PartMode) (fanFull : Bool) (f : FanState) : Prop :=
  (f.kickTimer.isSome = true ↔ f.state = .kick ∨ f.state = .stallRetry) ∧
    (f.state = .stallRetry → 1 ≤ f.retries ∧ f.retries ≤ 3) ∧ (f.state = .stallLockout → f.retries = 3) ∧
    (f.state ≠ .stallRetry → f.state ≠ .stallLockout → f.retries = 0) ∧
    (fanFull = true → f.state ≠ .stallLockout → f.demand = 1000 ∧ f.drive = 1000) ∧
    (mode = .quiet → f.silenceTimer = none ∧ f.interval = none ∧ f.silent = true ∧ f.state ≠ .stallRetry)

/-- Every curve's minimum running duty is in its range (R134). -/
abbrev CurvesOk (f : Fnc) : Prop :=
  ∀ i : Fin 3, (f.curves.one.get i).minDuty ≤ 1000 ∧ (f.curves.two.get i).minDuty ≤ 1000

/-- Both fans, the curves, and the capture channels running exactly in FULL (R4). -/
abbrev FanLaw (s : State) : Prop :=
  CurvesOk s.fnc ∧ FanOk s.ssc.mode (s.lmt.actionSet.contains .fanFull) s.fnc.fans.one ∧
    FanOk s.ssc.mode (s.lmt.actionSet.contains .fanFull) s.fnc.fans.two ∧
    s.tmb.capture.one.running = decide (s.ssc.mode = .full) ∧
    s.tmb.capture.two.running = decide (s.ssc.mode = .full)

/-! ## Laws of the pack ports (R37 to R40, R42, R46 to R48) -/

/-- A pack record's ranges as held (R37). -/
abbrev RecordOk (r : PackRecord) : Prop := r.profile ≤ 3 ∧ 2 ≤ r.cells ∧ r.cells ≤ 5 ∧ r.soc ≤ 100

/-- One port: what it holds in each state (R38 to R40, R42), and its slot (R46 to R48). -/
abbrev PortOk (x : Port) : Prop :=
  (x.state ≠ .absent → x.presence = true ∧ x.presenceTimer = none) ∧
    (x.state = .absent → x.presenceTimer.isSome = x.presence ∧ x.rx = .hunting ∧ x.tx = none) ∧
    (x.state = .absent ∨ x.state = .identifying → x.record = none) ∧
    (x.state = .active ∨ x.state = .stale → x.record.isSome = true) ∧
    (x.silenceTimer.isSome = true ↔ x.state = .identifying ∨ x.state = .active) ∧
    (x.staleTimer.isSome = true ↔ x.state = .stale) ∧
    (∀ r ∈ x.record, RecordOk r) ∧ x.frameErrors ≤ 255 ∧
    (x.slot.timer.isSome = true ↔ x.slot.state = .waiting) ∧ (x.slot.held.isSome = true ↔ x.slot.state = .resolved) ∧
    (x.slot.state = .waiting → x.state ≠ .absent) ∧ (x.requestDue.isSome = true → x.slot.state = .waiting) ∧
    (x.tx.isSome = true → x.rx = .hunting)

abbrev PackLaw (s : State) : Prop := PortOk s.ppt.ports.a ∧ PortOk s.ppt.ports.b

/-! ## Laws of the sweep (R7 to R10) -/

/-- A well-formed schedule entry (R10, check 2). -/
abbrev SlotOk (e : SlotEntry) : Prop := e.rep ∈ repetitions ∧ e.off < e.rep

/-- The schedule is free of conflicts (R10), the counter lies in 0..63 (R8), and a sweep in progress carries the
counter's value. -/
abbrev SweepLaw (s : State) : Prop :=
  (∀ i : Fin 8, SlotOk (s.sws.schedule.get i)) ∧
    (∀ i j : Fin 8, i ≠ j → (s.sws.schedule.get i).enable = true → (s.sws.schedule.get j).enable = true →
      (s.sws.schedule.get i).conflicts (s.sws.schedule.get j) = false) ∧
    s.sws.counter < 64 ∧ (∀ w ∈ s.sws.sweep, w.number = s.sws.counter ∧ w.fast ≤ 8)

end Sys2Proof.Machine
end

