-- ==== Sys2Proof/Certificates/Slice0/Obligations.lean ====
section
/-! DEFINITION. The statements for the provers. Each docstring names the section of spec/ it formalises, or says that the
statement is the model's own and names the log entry. -/

open Sys2Proof Sys2Proof.Machine

/-! ## The queue of commands and the requests -/

/-- The model's own (log 1): a step takes the command at the front of the queue and runs it with the queue's rest; on an
empty queue the part idles. -/
def Obligations.StepRunsFrontCommand : Prop :=
  (∀ (c : Instr) (rest : List Instr) (s : State),
      step { s with pending := c :: rest } = exec c { s with pending := rest }) ∧
    ∀ s : State, s.pending = [] → step s = .next s

/-- Section 0.3: no command stops the part. Every command, well-formed or not, answers a next state from every state and
leaves the queue of waiting commands alone. Both are the model's own: that the part stops nowhere is log 30, and the queue,
which belongs to the sender and which no command moves, is log 1. -/
def Obligations.EveryCommandRuns : Prop :=
  ∀ (c : Instr) (s : State), ∃ t, exec c s = .next t ∧ t.pending = s.pending

/-- Sections 0.3 and 11.3, log 10: a request that does not stand at the head of the buffer, or whose reply finds no room,
changes nothing. One that does is answered once, with its tag; it leaves the buffer, and the reply is queued last. A
refused request changes nothing else. RESTART_LINK also empties buffer and queue. -/
def Obligations.RequestsAnsweredInTurn : Prop :=
  ∀ (c : Instr) (num : Nat) (s : State), requestNumber c = some num →
    ((∀ args tag, ¬ RequestAtHead s num args tag) → exec c s = .next s) ∧
    ∀ args tag, RequestAtHead s num args tag →
      ∃ t r, exec c s = .next t ∧ r.tag = tag ∧ t.slc.replies.getLast? = some r ∧
        (r.code ≠ .ok → r.code ≠ .okClamped → t = answered tag r.code [] s) ∧
        (c ≠ .restartLink →
          t.slc.requests = s.slc.requests.tail ∧ untied t.slc.replies = untied (s.slc.replies ++ [r]))

/-! ## Reset -/

/-- Section 0.3 and the reset rule of every chapter: a reset by the rail or by RSTIN puts every block into its reset
state, whatever it was doing, and records its start cause (section 9.8); without a cause nothing happens. The queue of
waiting commands is kept (log 1); the mode in an empty allocation result is the one with code 0 ("all figures 0"). Of the
values, that the adapter switch is closed is read from section 2.4 and the empty action set (log 18), and that the bay's
refusal mark is clear is the model's choice (log 38). So are the values of the fields that are the model's own: the count of
clock periods (log 3), the mark of a gate exit (log 37), the limit and the profile of a last phase step (log 26, log 35), a
firing not yet taken (log 19), a request not yet begun (log 17), and a slot's tag and a hold that runs, 0 and off. -/
def Obligations.ResetRestoresEveryBlock : Prop :=
  ∀ (rail : Option RailCause) (rstin prsA prsB : Bool) (s : State),
    (rail = none → rstin = false → exec (.reset rail rstin prsA prsB) s = .next s) ∧
    ((rail = none → rstin = true) →
      ∃ t, exec (.reset rail rstin prsA prsB) s = .next t ∧ t.pending = s.pending ∧
        -- the start cause
        (rail = some .powerOn → t.ssc.startCause = .powerOn) ∧
        (rail = some .supplyDip → t.ssc.startCause = .supplyDip) ∧ (rail = none → t.ssc.startCause = .resetPin) ∧
        -- chapter 1
        t.tmb.acc = 0 ∧ t.tmb.ms = 0 ∧ t.tmb.clockPeriods = 0 ∧ (∀ f, t.tmb.capture.get f = ⟨false, 0, false⟩) ∧ t.sws.countdown = 1 ∧
        t.sws.counter = 0 ∧ t.sws.sweep = none ∧ (∀ ch, t.sws.latest.get ch = ⟨false, false, 0, 0, 0⟩) ∧
        (∀ i, t.sws.schedule.get i = ⟨true, 8, i.val⟩) ∧
        -- chapter 2
        t.lmt.actionSet = [] ∧ (∀ ch, t.lmt.chans.get ch = ⟨.normal, 0, 0, 0, 0, none, none⟩) ∧
        t.lmt.entries.get 0 = ⟨true, none, none, none, some 22000, 20, 3, .inputOpen, true, true⟩ ∧
        t.lmt.entries.get 2 = ⟨true, none, none, some 5500, none, 20, 3, .systemOff, true, true⟩ ∧
        t.lmt.entries.get 8 = ⟨true, none, some 500, none, some 600, 20, 3, .chargeStopA, true, true⟩ ∧
        t.lmt.entries.get 9 = ⟨true, none, some 500, none, some 600, 20, 3, .chargeStopB, true, true⟩ ∧
        t.lmt.entries.get 10 = ⟨true, none, some 950, none, some 1100, 20, 3, .fanFull, true, true⟩ ∧
        t.lmt.entries.get 11 = ⟨true, none, some 480, none, some 550, 20, 3, .throttle, true, true⟩ ∧
        t.lmt.entries.get 14 = ⟨true, some 3000, none, none, none, 20, 3, .none, true, true⟩ ∧
        (∀ ch ∈ ([1, 3, 4, 5, 6, 7, 12, 13, 15] : List (Fin 16)),
          t.lmt.entries.get ch = ⟨true, none, none, none, none, 20, 3, .none, true, true⟩) ∧
        -- chapter 3
        (∀ p,
          let seated := match p with | .a => prsA | .b => prsB
          t.ppt.ports.get p =
            { state := if seated then .identifying else .absent
              presence := seated
              record := none
              frameErrors := 0
              presenceTimer := none
              silenceTimer := if seated then some 3000 else none
              staleTimer := none
              rx := .hunting
              slot := ⟨.idle, false, 0, none, none⟩
              requestDue := none
              tx := none }) ∧
        (t.ppt.filter.list = some ⟨0x80, 0xFF, .refuse⟩ :: List.replicate 7 none) ∧
        t.ppc.bay = ⟨.released, false, 0, false⟩ ∧ t.ppc.path.b.mode = .opened ∧
        t.ppc.path.a.mode = (if prsA then .dischargeOnly else .opened) ∧
        -- chapter 4
        (∀ p, (t.ppc.path.get p).unsupplied = false ∧ t.ppc.charge.get p =
          { band := none
            phase := .none
            taperCount := 0
            doneCount := 0
            doneMemory := false
            preTimer := 0
            fastTimer := 0
            latch := none
            due := none
            inhibit := false
            lastProfile := none
            profileFresh := false
            fastLimit := 300
            cap := 0
            vChg := 0
            iDmax := 0
            supplyCap := 0 }) ∧
        (∀ i, t.ppc.profiles.get i =
          ⟨[0, 450], [⟨0, 4200, 3000⟩, ⟨2000, 4200, 6000⟩, ⟨0, 4100, 3000⟩], 20, 3000, 256, 256, 100, 95, 300⟩) ∧
        -- chapter 5
        t.ppc.adapter = ⟨.absent, 0, none, 0xFF, none, 0⟩ ∧
        t.ppc.adapterTable.list = some ⟨1200, 1500, 12000⟩ :: some ⟨700, 900, 6000⟩ :: List.replicate 6 none ∧
        t.ppc.iHL = 0 ∧ t.ppc.eta = 60 ∧ t.ppc.boostOn = true ∧ t.ppc.boostFloor = 20 ∧
        t.ppc.setpoints = ⟨⟨0, 0, 0⟩, ⟨0, 0, 0⟩⟩ ∧ t.ppc.iLim = 0 ∧ t.ppc.adapterSwitchOpen = false ∧
        t.ppc.alloc =
          ⟨false, 0, 0, .adapter, 0, 0, 0, 0, 0, 0, ⟨⟨false, false, 0, 0⟩, ⟨false, false, 0, 0⟩⟩⟩ ∧
        t.ppc.throttle = ⟨.released, 0⟩ ∧ t.ppc.ltr = false ∧
        -- chapter 6
        (∀ p, t.kms.positions.get p = ⟨.up, 0, 0, .base, false, false⟩ ∧
          t.kms.translation.get p = ⟨p.val + 1, p.val + 1, false, false, false⟩) ∧
        t.kms.pressCount = 5 ∧ t.kms.releaseCount = 5 ∧ t.kms.countdown = none ∧ t.kms.gated = true ∧
        t.kms.firstPass = true ∧ t.kms.exited = false ∧
        -- chapter 7
        t.swi = ⟨⟨50, none, 0, none, false⟩, ⟨200, none, 0, none, false⟩, ⟨30, none, 0, none, false⟩,
          ⟨20, none, 0, none, false⟩, .idle, 0, false⟩ ∧
        -- chapter 8
        (∀ f, t.fnc.fans.get f = ⟨.off, 0, 0, none, 0, true, none, 0, none, true, none⟩ ∧
          t.fnc.configs.get f = ⟨2, true⟩ ∧
          ∀ i, (t.fnc.curves.get f).get i =
            ⟨⟨true, true, true, false, false, false, false⟩, [(400, 0), (550, 350), (700, 700), (850, 1000)], 30, 200,
              600⟩) ∧
        t.fnc.set = .openSet ∧ t.fnc.overrideDuty = 0 ∧ t.fnc.overrideTimer = none ∧ t.fnc.evalCountdown = 100 ∧
        (∀ i, t.fnc.slots.get i = ⟨0, false, none⟩) ∧
        -- chapter 9
        t.ssc.state = .off ∧ t.ssc.sysen = false ∧ t.ssc.wake = false ∧ t.ssc.mode = .quiet ∧
        t.ssc.lowThreshold = 10 ∧ t.ssc.criticalThreshold = 4 ∧ t.ssc.combinedSoc = none ∧ t.ssc.low = false ∧
        t.ssc.critical = false ∧ t.ssc.wakeCause = 0 ∧ t.ssc.bootTimer = none ∧ t.ssc.wakeTimer = none ∧
        t.ssc.haltTimer = none ∧ t.ssc.graceTimer = none ∧
        -- chapter 10
        t.evr.urgent = [] ∧ t.evr.normal = [] ∧ t.evr.normalState = .opened ∧ t.evr.discarded = 0 ∧
        t.evr.keyMark = false ∧ t.evr.relayA = none ∧ t.evr.relayB = none ∧ t.evr.telemetry = none ∧
        t.evr.rotation = .relayA ∧ t.evr.period = 0 ∧ t.evr.periodTimer = none ∧ t.evr.due = false ∧
        (∀ c, t.evr.tally.get c = 0) ∧ t.evr.policy.get EventCode.gap.idx = ⟨.normal, false, false⟩ ∧
        (∀ c : EventCode, c ≠ .gap → t.evr.policy.get c.idx =
          ⟨if c ∈ [.chargeTimeout, .throttleOn, .bayRefused, .limitFault, .fanLockout, .batteryCritical, .stateChange,
              .forcedOff] then .urgent else if c = .keyWake then .none else .normal,
            decide (c ∈ [.limitFault, .lid, .powerButton, .keyWake, .batteryCritical]), decide (c = .powerButton)⟩) ∧
        -- chapter 11
        t.slc = ⟨.hunting, none, [], [], false, 0, 0, false, none⟩)

/-- The state after every reset meets every law of the device, whatever its cause and the presence levels found. That
State.reset is the state after a power-on with both bays empty and no command waiting is the model's choice (log 18). -/
def Obligations.ResetMeetsEveryLaw : Prop :=
  State.reset = State.afterReset .powerOn false false [] ∧
    ∀ (cause : StartCause) (prsA prsB : Bool) (queue : List Instr),
      QueueLaw (State.afterReset cause prsA prsB queue) ∧ SetpointLaw (State.afterReset cause prsA prsB queue) ∧
        ProtectionLaw (State.afterReset cause prsA prsB queue) ∧ BatteryLaw (State.afterReset cause prsA prsB queue) ∧
        StateLaw (State.afterReset cause prsA prsB queue) ∧ KeyLaw (State.afterReset cause prsA prsB queue) ∧
        KeyRecordLaw (State.afterReset cause prsA prsB queue) ∧ FanLaw (State.afterReset cause prsA prsB queue) ∧
        PackLaw (State.afterReset cause prsA prsB queue) ∧ SweepLaw (State.afterReset cause prsA prsB queue)

/-! ## Time -/

/-- Section 1.1: a tick expiry advances the millisecond counter, counts every timer and countdown of the part
once, and changes nothing else but the charge timers and the switch inputs, which have statements of their own. That a
timer or a countdown which has reached 0 stays there until its completion is taken, a command of its own, is the model's
reading (log 2). The mark of a gate exit in the present tick ends with the tick (section 6.1, log 37). -/
def Obligations.TickExpiryCountsEveryTimer : Prop :=
  ∀ (raw : SwitchLevels) (s : State), ∃ t, exec (.tickExpiry raw) s = .next t ∧
    t.tmb.ms = s.tmb.ms + 1 ∧ t.tmb.capture = s.tmb.capture ∧
    t.sws = { s.sws with countdown := s.sws.countdown - 1 } ∧ t.lmt = s.lmt ∧
    (∀ p, Counted (s.ppt.ports.get p).presenceTimer (t.ppt.ports.get p).presenceTimer ∧
      Counted (s.ppt.ports.get p).silenceTimer (t.ppt.ports.get p).silenceTimer ∧
      Counted (s.ppt.ports.get p).staleTimer (t.ppt.ports.get p).staleTimer ∧
      Counted (s.ppt.ports.get p).slot.timer (t.ppt.ports.get p).slot.timer ∧
      s.ppt.ports.get p =
        { t.ppt.ports.get p with
          presenceTimer := (s.ppt.ports.get p).presenceTimer
          silenceTimer := (s.ppt.ports.get p).silenceTimer
          staleTimer := (s.ppt.ports.get p).staleTimer
          slot := { (t.ppt.ports.get p).slot with timer := (s.ppt.ports.get p).slot.timer } }) ∧
    t.ppt.filter = s.ppt.filter ∧ t.ppc = { s.ppc with charge := t.ppc.charge } ∧
    (s.kms.countdown = none → t.kms = { s.kms with exited := false }) ∧
    (∀ n, s.kms.countdown = some n → t.kms = { s.kms with countdown := some (n - 1), exited := false }) ∧
    (∀ f, Counted (s.fnc.fans.get f).kickTimer (t.fnc.fans.get f).kickTimer ∧
      Counted (s.fnc.fans.get f).silenceTimer (t.fnc.fans.get f).silenceTimer ∧
      t.fnc.fans.get f =
        { s.fnc.fans.get f with
          kickTimer := (t.fnc.fans.get f).kickTimer
          silenceTimer := (t.fnc.fans.get f).silenceTimer }) ∧
    (∀ i, Counted (s.fnc.slots.get i).timer (t.fnc.slots.get i).timer ∧
      t.fnc.slots.get i = { s.fnc.slots.get i with timer := (t.fnc.slots.get i).timer }) ∧
    Counted s.fnc.overrideTimer t.fnc.overrideTimer ∧
    t.fnc =
      { s.fnc with
        fans := t.fnc.fans
        slots := t.fnc.slots
        overrideTimer := t.fnc.overrideTimer
        evalCountdown := s.fnc.evalCountdown - 1 } ∧
    Counted s.ssc.bootTimer t.ssc.bootTimer ∧ Counted s.ssc.wakeTimer t.ssc.wakeTimer ∧
    Counted s.ssc.haltTimer t.ssc.haltTimer ∧ Counted s.ssc.graceTimer t.ssc.graceTimer ∧
    t.ssc =
      { s.ssc with
        bootTimer := t.ssc.bootTimer
        wakeTimer := t.ssc.wakeTimer
        haltTimer := t.ssc.haltTimer
        graceTimer := t.ssc.graceTimer } ∧
    Counted s.evr.periodTimer t.evr.periodTimer ∧ t.evr = { s.evr with periodTimer := t.evr.periodTimer } ∧
    Counted s.slc.gapTimer t.slc.gapTimer ∧ t.slc = { s.slc with gapTimer := t.slc.gapTimer } ∧
    t.pending = s.pending

/-- Section 1.1: over any run of tick expiries, the clock periods passed and the accumulator keep pace with the 32768
periods of each second to less than one period, whatever the switch levels sampled; from an accumulator of 0, every 1000
ticks last 32768 periods and end at 0. The millisecond counter counts the expiries modulo 2^32. (The count of periods
passed is the model's own, log 3.) -/
def Obligations.TickRunsKeepTheClock : Prop :=
  ∀ (raws : List SwitchLevels) (s : State), s.tmb.acc < 1000 →
    ∃ t, runAll (raws.map Instr.tickExpiry) s = some t ∧ t.tmb.acc < 1000 ∧
      1000 * t.tmb.clockPeriods + t.tmb.acc = 1000 * s.tmb.clockPeriods + s.tmb.acc + 32768 * raws.length ∧
      t.tmb.ms = s.tmb.ms + BitVec.ofNat 32 raws.length ∧
      (∀ k, s.tmb.acc = 0 → raws.length = 1000 * k →
        t.tmb.acc = 0 ∧ t.tmb.clockPeriods = s.tmb.clockPeriods + 32768 * k)

/-- Sections 1.2 and 8.6: in QUIET an edge is not captured. In FULL it restarts the count
and sets the reference flag; with the flag set before, FNC takes the count as the fan's interval, saturated at 65535 and
at least 1; the silence timer restarts, and a fan in STALL_RETRY recovers into RUNNING with FAN_RECOVERED, its value the
retry count. The microseconds since the count last started come with the command (log 4). -/
def Obligations.TachEdgesAreTimedAndHeard : Prop :=
  ∀ (f : Fan) (us : Nat) (s : State),
    let c := s.tmb.capture.get f
    let x := s.fnc.fans.get f
    let heard : FanState :=
      { x with
        interval := if c.reference = true then some (max 1 (min 65535 (c.count + us))) else x.interval
        silent := false
        silenceTimer := some 1000 }
    let captured : State :=
      { s with
        tmb := { s.tmb with capture := s.tmb.capture.set f ⟨true, 0, true⟩ }
        fnc := { s.fnc with fans := s.fnc.fans.set f heard } }
    (c.running = false → exec (.tachEdge f us) s = .next s) ∧
    (c.running = true → x.state ≠ .stallRetry → exec (.tachEdge f us) s = .next captured) ∧
    (c.running = true → x.state = .stallRetry →
      exec (.tachEdge f us) s =
        .next
          (setFan f { heard with state := .running, retries := 0, kickTimer := none }
            (route .fanRecovered (fanNum f) x.retries captured)))

/-! ## The sweep -/

/-- Sections 1.4 and 1.5: a sweep starts when its countdown stands at 0 and none is in progress; that SWEEP_START changes
nothing before (log 2) and during a sweep (log 23) is the model's reading. It takes the counter's value, loads 2 in FULL and 1000 in QUIET, and takes as its slow channel one whose entry is on and satisfies n mod r = o;
none is taken when none does, and under the schedule's law none but the chosen one does. Every permitted entry repeats
after 64 sweeps and takes exactly one of every r consecutive sweeps. -/
def Obligations.SweepStartTakesItsSlot : Prop :=
  (∀ s : State,
    (s.sws.countdown ≠ 0 ∨ s.sws.sweep ≠ none → exec .sweepStart s = .next s) ∧
    (s.sws.countdown = 0 → s.sws.sweep = none →
      ∃ slot, exec .sweepStart s =
          .next
            { s with
              sws := { s.sws with
                countdown := if s.ssc.mode = .full then 2 else 1000
                sweep := some ⟨s.sws.counter, slot, 0, false, s.tmb.ms⟩ } } ∧
        (∀ i, slot = some i →
          (s.sws.schedule.get i).enable = true ∧
            s.sws.counter % (s.sws.schedule.get i).rep = (s.sws.schedule.get i).off) ∧
        (slot = none → ∀ i, (s.sws.schedule.get i).enable = true →
          s.sws.counter % (s.sws.schedule.get i).rep ≠ (s.sws.schedule.get i).off) ∧
        (SweepLaw s → ∀ i, (s.sws.schedule.get i).enable = true →
          s.sws.counter % (s.sws.schedule.get i).rep = (s.sws.schedule.get i).off → slot = some i))) ∧
  ∀ e : SlotEntry, SlotOk e → ∀ n : Nat,
    ((n + 64) % e.rep = e.off ↔ n % e.rep = e.off) ∧ ∃ k, k < e.rep ∧ (n + k) % e.rep = e.off ∧
      ∀ k', k' < e.rep → (n + k') % e.rep = e.off → k' = k

/-- Sections 1.3, 1.4 and 1.6: a conversion out of turn changes nothing (log 7). One in its turn is brought into the
channel's range, marked when that changed it, and replaces the channel's entry alone, with the sweep's number and the
millisecond counter; with the channel's limit entry off nothing else happens. -/
def Obligations.ConversionsAreClampedAndKept : Prop :=
  (List.finRange 16).map clampRange =
      [(0, 30000), (0, 16000), (0, 24000), (0, 20000), (0, 24000), (-16000, 16000), (0, 24000), (-16000, 16000),
        (-400, 1500), (-400, 1500), (-400, 1500), (-400, 1500), (-400, 1500), (0, 3300), (0, 4000), (0, 3300)] ∧
  ∀ (ch : Fin 16) (v : Int) (s : State),
    ((∀ w, s.sws.sweep = some w → ¬ InTurn w ch) → exec (.conversionComplete ch v) s = .next s) ∧
    ∀ w, s.sws.sweep = some w → InTurn w ch →
      ((s.lmt.entries.get ch).enable = false → exec (.conversionComplete ch v) s = .next (stored ch v w s)) ∧
      ∃ t, exec (.conversionComplete ch v) s = .next t ∧
        t.sws.latest.get ch = ⟨true, decide (clamped ch v ≠ v), clamped ch v, w.number, s.tmb.ms⟩ ∧
        ((clampRange ch).1 ≤ v → v ≤ (clampRange ch).2 → clamped ch v = v) ∧
        (v < (clampRange ch).1 → clamped ch v = (clampRange ch).1) ∧
        ((clampRange ch).2 < v → clamped ch v = (clampRange ch).2) ∧
        (∀ c, c ≠ ch → t.sws.latest.get c = s.sws.latest.get c) ∧ t.sws.schedule = s.sws.schedule ∧
        t.sws.counter = s.sws.counter

/-! ## The limit monitor -/

/-- R21 and R22, the rules of a channel in NORMAL and in WARNING: the runs of zone F and zone W, the entries to FAULT and
WARNING, the return to NORMAL without an event. -/
def Obligations.NormalAndWarningChannelsTakeSamples : Prop :=
  ∀ (ch : Fin 16) (v : Int) (s : State) (w : Sweep), s.sws.sweep = some w → InTurn w ch →
    (s.lmt.entries.get ch).enable = true →
    let e := s.lmt.entries.get ch
    let c := s.lmt.chans.get ch
    let x := clamped ch v
    let u := stored ch v w s
    let run := fun (d : LimitChan) => exec (.conversionComplete ch v) s = .next (withChan ch d u)
    (c.state = .normal ∨ c.state = .warning → BeyondFault e x → e.deglitch ≤ c.faultRun + 1 →
      ∃ t, exec (.conversionComplete ch v) s = .next t ∧ (t.lmt.chans.get ch).state = .fault ∧
        (t.lmt.chans.get ch).warnRun = 0 ∧ (t.lmt.chans.get ch).faultRun = 0 ∧ (t.lmt.chans.get ch).returnRun = 0) ∧
    (c.state = .normal →
      (BeyondFault e x → c.faultRun + 1 < e.deglitch → run { c with faultRun := c.faultRun + 1, warnRun := 0 }) ∧
      (¬ BeyondFault e x → OutsideWarn e x → c.warnRun + 1 < e.deglitch →
        run { c with warnRun := c.warnRun + 1, faultRun := 0 }) ∧
      (¬ BeyondFault e x → OutsideWarn e x → e.deglitch ≤ c.warnRun + 1 →
        let entered := withChan ch { c with state := .warning, warnRun := 0, faultRun := 0, returnRun := 0 } u
        exec (.conversionComplete ch v) s =
          .next (if e.reportWarning then route .limitWarning ch.val x entered else entered)) ∧
      (¬ BeyondFault e x → ¬ OutsideWarn e x → run { c with warnRun := 0, faultRun := 0 })) ∧
    (c.state = .warning →
      (∀ a, s.lmt.carries a ch = false) ∧
      (BeyondFault e x → c.faultRun + 1 < e.deglitch → run { c with faultRun := c.faultRun + 1, returnRun := 0 }) ∧
      (¬ BeyondFault e x → OutsideWarn e x ∨ ¬ InsideWarn e x → run { c with faultRun := 0, returnRun := 0 }) ∧
      (¬ BeyondFault e x → ¬ OutsideWarn e x → InsideWarn e x → c.returnRun + 1 < e.deglitch →
        run { c with returnRun := c.returnRun + 1, faultRun := 0 }) ∧
      (¬ BeyondFault e x → ¬ OutsideWarn e x → InsideWarn e x → e.deglitch ≤ c.returnRun + 1 →
        run { c with state := .normal, warnRun := 0, faultRun := 0, returnRun := 0 }))

/-- R23 and R24, the rules of a channel in FAULT and in HELD: in FAULT only a settled sample counts toward HELD, which is
entered with LIMIT_HELD and leaves the action set and the trip record as they are; in HELD a run of zone F leads back to
FAULT, with LIMIT_FAULT where the entry reports it, the trip record replaced and SYSTEM_OFF asserted again where the entry
carries it, the action set as it was; zone W enters nothing. The last clause is R24's last sentence: which commands alone
return such a channel to NORMAL. -/
def Obligations.FaultAndHeldChannelsTakeSamples : Prop :=
  (∀ (ch : Fin 16) (v : Int) (s : State) (w : Sweep), s.sws.sweep = some w → InTurn w ch →
    (s.lmt.entries.get ch).enable = true →
    let e := s.lmt.entries.get ch
    let c := s.lmt.chans.get ch
    let x := clamped ch v
    let u := stored ch v w s
    let run := fun (d : LimitChan) => exec (.conversionComplete ch v) s = .next (withChan ch d u)
    (c.state = .fault →
      (BeyondFault e x ∨ ¬ InsideFault e x → run { c with returnRun := 0 }) ∧
      (¬ BeyondFault e x → InsideFault e x → c.returnRun + 1 < e.deglitch →
        run { c with returnRun := c.returnRun + 1 }) ∧
      (¬ BeyondFault e x → InsideFault e x → e.deglitch ≤ c.returnRun + 1 →
        ∃ t, exec (.conversionComplete ch v) s = .next t ∧
          t = route .limitHeld ch.val 0
            (withChan ch { c with state := .held, warnRun := 0, faultRun := 0, returnRun := 0 } u) ∧
          t.lmt.actionSet = s.lmt.actionSet ∧ (t.lmt.chans.get ch).tripValue = c.tripValue ∧
          (t.lmt.chans.get ch).tripStamp = c.tripStamp ∧ (t.lmt.chans.get ch).tripCount = c.tripCount)) ∧
    (c.state = .held →
      (BeyondFault e x → c.faultRun + 1 < e.deglitch → run { c with faultRun := c.faultRun + 1 }) ∧
      (BeyondFault e x → e.deglitch ≤ c.faultRun + 1 →
        let d : LimitChan := ⟨.fault, 0, 0, 0, min 255 (c.tripCount + 1), some x, some s.tmb.ms⟩
        let again := if e.reportFault then route .limitFault ch.val x (withChan ch d u) else withChan ch d u
        (∃ t, exec (.conversionComplete ch v) s = .next t ∧ t.lmt.chans.get ch = d) ∧
        (ProtectionLaw s →
          (e.action ≠ .systemOff ∨ again.ssc.state = .off → exec (.conversionComplete ch v) s = .next again) ∧
          (e.action = .systemOff → again.ssc.state ≠ .off → PolicyLegal s.evr →
            ∃ t, exec (.conversionComplete ch v) s = .next t ∧ OffEntered again t ∧ Tallied .forcedOff again t))) ∧
      (¬ BeyondFault e x → run { c with faultRun := 0 }))) ∧
  ∀ (c : Instr) (s t : State) (ch : Fin 16), exec c s = .next t → FaultReturn c s t ch

/-- Sections 2.3 and 2.4: an entry to FAULT, from whatever state, replaces the trip record, and the action of its entry is
in force when the command ends: in the action set, and at the block that reads it. -/
def Obligations.FaultEntryTakesItsAction : Prop :=
  ∀ (ch : Fin 16) (v : Int) (s t : State) (w : Sweep), s.sws.sweep = some w → InTurn w ch →
    (s.lmt.entries.get ch).enable = true → (s.lmt.chans.get ch).state ≠ .fault →
    BeyondFault (s.lmt.entries.get ch) (clamped ch v) →
    (s.lmt.entries.get ch).deglitch ≤ (s.lmt.chans.get ch).faultRun + 1 →
    ProtectionLaw s → FanLaw s → SetpointLaw s → PolicyLegal s.evr →
    exec (.conversionComplete ch v) s = .next t →
    let a := (s.lmt.entries.get ch).action
    t.lmt.chans.get ch =
        ⟨.fault, 0, 0, 0, min 255 ((s.lmt.chans.get ch).tripCount + 1), some (clamped ch v), some s.tmb.ms⟩ ∧
      ((s.lmt.entries.get ch).reportFault = true → Tallied .limitFault s t) ∧
      (a ≠ .none → a ∈ t.lmt.actionSet) ∧
      (∀ b, b ∈ s.lmt.actionSet → b ∈ t.lmt.actionSet) ∧ (∀ b, b ∈ t.lmt.actionSet → b = a ∨ b ∈ s.lmt.actionSet) ∧
      (a = .chargeStopA ∨ a = .chargeStopAll →
        t.ppc.setpoints.a.chargeI = 0 ∧ t.ppc.setpoints.a.chargeV = 0 ∧ t.ppc.path.a.mode ≠ .full) ∧
      (a = .chargeStopB ∨ a = .chargeStopAll →
        t.ppc.setpoints.b.chargeI = 0 ∧ t.ppc.setpoints.b.chargeV = 0 ∧ t.ppc.path.b.mode ≠ .full) ∧
      (a = .isolateA → t.ppc.setpoints.a = ⟨0, 0, 0⟩ ∧ t.ppc.path.a.mode = .opened) ∧
      (a = .isolateB → t.ppc.setpoints.b = ⟨0, 0, 0⟩ ∧ t.ppc.path.b.mode = .opened) ∧
      (a = .inputOpen → t.ppc.adapterSwitchOpen = true ∧
        (a ∉ s.lmt.actionSet → t.ppc.setpoints = ⟨⟨0, 0, 0⟩, ⟨0, 0, 0⟩⟩)) ∧
      (a = .fanFull → ∀ f, (t.fnc.fans.get f).state ≠ .stallLockout → (t.fnc.fans.get f).drive = 1000) ∧
      (a = .throttle → t.ppc.ltr = true ∧ t.ppc.throttle = s.ppc.throttle) ∧
      (a = .systemOff → t.ssc.state = .off ∧ (s.ssc.state ≠ .off → t.ssc.sysen = false))

/-- Section 2.2, the last sentence of R24: a channel in FAULT or HELD returns to NORMAL only by CLEAR_FAULTS executed while it is
HELD, by a load of its entry with enable off, or by a reset; and it never goes to WARNING. -/
def Obligations.FaultLeavesOnlyByRequestOrReset : Prop :=
  ∀ (c : Instr) (s t : State) (ch : Fin 16), exec c s = .next t → FaultReturn c s t ch

/-! ## A sweep completion: adapter, pass, throttle, phases -/

/-- Section 5.1: the adapter record after a completion. Three sweeps at 4500 mV or more attach; one below
4000 mV detaches, and takes every setpoint and the input limit away; an AID sample taken after the attach identifies by
the first entry that contains it; nothing else moves the record. -/
def Obligations.CompletionExaminesTheAdapter : Prop :=
  ∀ (s t : State) (w : Sweep), SweepDone s w → exec .sweepCompletion s = .next t →
    let a := s.ppc.adapter
    let vad := s.sws.latest.get 0
    let aid := s.sws.latest.get 13
    let attached : Adapter := ⟨.pendingId, 0, some vad.stamp, 0xFF, none, 2000⟩
    let after := fun (stamp : Stamp) => 1 ≤ (aid.stamp - stamp).toNat ∧ (aid.stamp - stamp).toNat ≤ 2147483647
    let contains := fun (i : Fin 8) => ∃ e, s.ppc.adapterTable.get i = some e ∧ (e.low : Int) ≤ aid.value ∧
      aid.value ≤ (e.high : Int)
    (a.state = .absent → vad.value < 4500 → t.ppc.adapter = { a with run := 0 }) ∧
    (a.state = .absent → 4500 ≤ vad.value → a.run < 2 → t.ppc.adapter = { a with run := a.run + 1 }) ∧
    (a.state = .absent → 4500 ≤ vad.value → 2 ≤ a.run → ¬ (aid.valid = true ∧ after vad.stamp) →
      t.ppc.adapter = attached ∧ Tallied .adapterAttach s t) ∧
    (a.state ≠ .absent → vad.value < 4000 →
      t.ppc.adapter = ⟨.absent, 0, none, 0xFF, none, 0⟩ ∧ t.ppc.setpoints = ⟨⟨0, 0, 0⟩, ⟨0, 0, 0⟩⟩ ∧
        t.ppc.iLim = 0 ∧ t.ppc.alloc.mode = .batteryOnly ∧ Tallied .adapterDetach s t) ∧
    (a.state = .identified ∨ a.state = .unknown → 4000 ≤ vad.value → t.ppc.adapter = a) ∧
    (a.state = .pendingId → 4000 ≤ vad.value → ∀ stamp, a.attachStamp = some stamp →
      (¬ (aid.valid = true ∧ after stamp) → t.ppc.adapter = a) ∧
      (aid.valid = true → after stamp →
        (∀ (i : Fin 8) (e : AdapterEntry), s.ppc.adapterTable.get i = some e → contains i →
          (∀ j, j < i → ¬ contains j) →
          t.ppc.adapter = { a with state := .identified, iAL := e.rating, cls := i.val, aid := some aid.value }) ∧
        ((∀ i, ¬ contains i) → t.ppc.adapter = { a with state := .unknown, aid := some aid.value }) ∧
        Tallied .adapterClass s t))

/-- Sections 1.4 and 5.3, stages 1 and 2: a completion before every conversion is done does
nothing (the model's choice, log 7); at its turn the pass forms the mode, I_EFF, I_LIM and the power figures from that
sweep's samples, delivers I_LIM, and the sweep counter advances modulo 64. Within the clamp ranges H lies in
-480,000..465,000. That I_EFF is 0 in
BATTERY_ONLY mode is the model's choice (log 36). -/
def Obligations.CompletionFormsThePowerFigures : Prop :=
  ∀ s : State,
    ((∀ w, ¬ SweepDone s w) → exec .sweepCompletion s = .next s) ∧
    ∀ w, SweepDone s w → ∃ t, exec .sweepCompletion s = .next t ∧
      t.sws.sweep = none ∧ t.sws.counter = (s.sws.counter + 1) % 64 ∧ t.sws.latest = s.sws.latest ∧
      t.ppc.alloc.made = true ∧ t.ppc.alloc.sweep = w.number ∧ t.ppc.alloc.stamp = w.stamp ∧
      (t.ppc.alloc.mode = .adapter ↔ t.ppc.adapter.state ≠ .absent ∧ Action.inputOpen ∉ s.lmt.actionSet) ∧
      t.ppc.alloc.iEff =
        (if t.ppc.alloc.mode = .batteryOnly then 0
         else if s.ppc.iHL = 0 then t.ppc.adapter.iAL else min t.ppc.adapter.iAL s.ppc.iHL) ∧
      t.ppc.iLim = t.ppc.alloc.iEff * 31 / 32 ∧
      t.ppc.alloc.pIn = ((s.sws.latest.get 0).value).toNat * t.ppc.iLim / 1000 ∧
      t.ppc.alloc.pUse = t.ppc.alloc.pIn * s.ppc.eta / 64 ∧
      t.ppc.alloc.pSys = ((s.sws.latest.get 2).value).toNat * ((s.sws.latest.get 3).value).toNat / 1000 ∧
      t.ppc.alloc.h = (t.ppc.alloc.pUse : Int) - t.ppc.alloc.pSys ∧
      ((s.sws.latest.get 0).value ≤ 30000 → (s.sws.latest.get 2).value ≤ 24000 → (s.sws.latest.get 3).value ≤ 20000 →
        s.ppc.eta ≤ 64 → t.ppc.adapter.iAL ≤ 16000 → -480000 ≤ t.ppc.alloc.h ∧ t.ppc.alloc.h ≤ 465000)

/-- Section 5.4: the throttle state moves only on the uncovered deficit of the pass, by the table; THROTTLE_ON is produced
at every entry to ASSERTED and THROTTLE_OFF at the eighth pass without a deficit; LTR follows state and action set. -/
def Obligations.ThrottleFollowsTheDeficit : Prop :=
  ∀ (s t : State) (w : Sweep), SweepDone s w → exec .sweepCompletion s = .next t →
    let deficit := 0 < t.ppc.alloc.u
    let x := s.ppc.throttle
    let on := deficit ∧ (x.state = .pending ∨ x.state = .releasing)
    let off := ¬ deficit ∧ x.state = .releasing ∧ 7 ≤ x.count
    (x.state = .released → t.ppc.throttle = ⟨if deficit then .pending else .released, 0⟩) ∧
    (x.state = .pending → t.ppc.throttle = ⟨if deficit then .asserted else .released, 0⟩) ∧
    (x.state = .asserted → t.ppc.throttle = if deficit then ⟨.asserted, 0⟩ else ⟨.releasing, 1⟩) ∧
    (x.state = .releasing → deficit → t.ppc.throttle = ⟨.asserted, 0⟩) ∧
    (x.state = .releasing → ¬ deficit → x.count < 7 → t.ppc.throttle = ⟨.releasing, x.count + 1⟩) ∧
    (x.state = .releasing → ¬ deficit → 7 ≤ x.count → t.ppc.throttle = ⟨.released, 0⟩) ∧
    (on → Tallied .throttleOn s t) ∧
    (¬ on → t.evr.tally.get EventCode.throttleOn.idx = s.evr.tally.get EventCode.throttleOn.idx) ∧
    (off → Tallied .throttleOff s t) ∧
    (¬ off → t.evr.tally.get EventCode.throttleOff.idx = s.evr.tally.get EventCode.throttleOff.idx) ∧
    (t.ppc.ltr = true ↔
      t.ppc.throttle.state = .asserted ∨ t.ppc.throttle.state = .releasing ∨ Action.throttle ∈ s.lmt.actionSet)

/-- Section 5.3, stages 3 and 4: a pack is charge-eligible by its phase, its path, its voltage and, for pack B, the bay, in
the state that the pass reads (the one its phase steps leave), and C_k is its charge cap rounded down to 32 mA and at most
8064, 0 for a pack not eligible. With H ≥ 0 in ADAPTER mode the headroom is handed out, the pack with the lower SOC first
and pack A first when they are equal, each setpoint being the assigned power at the pack's voltage rounded down to 32 mA and
0 below 128; every boost setpoint and the deficit are 0. In every such result the charge powers together fit H. (The SOC of
an empty record counts as 0, log 31; it decides nothing, since such a pack is in HOLD or NONE.) -/
def Obligations.ChargeFitsTheHeadroom : Prop :=
  ∀ (s t : State) (w : Sweep), SweepDone s w → exec .sweepCompletion s = .next t →
    let vp := fun (p : Pack) => ((s.sws.latest.get (match p with | .a => (4 : Fin 16) | .b => 6)).value).toNat
    let soc : Pack → Nat := fun p => match (s.ppt.ports.get p).record with | some r => r.soc | none => 0
    let pc := fun (p : Pack) => vp p * (t.ppc.alloc.packs.get p).c / 1000
    let h := t.ppc.alloc.h.toNat
    let pass := phaseStep .b (phaseStep .a (examineAid (examineVad s)))
    let eligible := fun (p : Pack) =>
      ((t.ppc.charge.get p).phase = .precharge ∨ (t.ppc.charge.get p).phase = .bulk ∨
        (t.ppc.charge.get p).phase = .taper) ∧
      (pass.ppc.path.get p).mode = .full ∧ 5000 ≤ vp p ∧ (p = .b → s.ppc.bay.state = .latched)
    let first : Pack := if soc .b < soc .a then .b else .a
    let share := fun (p : Pack) => if p = first then min (pc p) h else min (pc p) (h - min (pc first) h)
    let given := fun (p : Pack) => share p * 1000 / vp p / 32 * 32
    (∀ p, ((t.ppc.alloc.packs.get p).chargeEligible = true ↔ eligible p) ∧
      (eligible p → (t.ppc.alloc.packs.get p).c = min ((t.ppc.charge.get p).cap / 32 * 32) 8064) ∧
      (¬ eligible p → (t.ppc.alloc.packs.get p).c = 0)) ∧
    (0 ≤ t.ppc.alloc.h →
      vp .a * t.ppc.setpoints.a.chargeI / 1000 + vp .b * t.ppc.setpoints.b.chargeI / 1000 ≤ h ∧
      t.ppc.setpoints.a.boost = 0 ∧ t.ppc.setpoints.b.boost = 0 ∧ t.ppc.alloc.u = 0 ∧
      (t.ppc.alloc.mode = .batteryOnly → t.ppc.setpoints = ⟨⟨0, 0, 0⟩, ⟨0, 0, 0⟩⟩) ∧
      (∀ p, (t.ppc.setpoints.get p).chargeI ≤ (t.ppc.alloc.packs.get p).c ∧ (t.ppc.alloc.packs.get p).c ≤ 8064) ∧
      (ProtectionLaw s → t.ppc.alloc.mode = .adapter → ∀ p,
        (t.ppc.setpoints.get p).chargeI = (if given p < 128 then 0 else given p) ∧
        ((t.ppc.setpoints.get p).chargeI ≠ 0 → (t.ppc.setpoints.get p).chargeV = (t.ppc.charge.get p).vChg) ∧
        ((t.ppc.setpoints.get p).chargeI = 0 → (t.ppc.setpoints.get p).chargeV = 0)))

/-- Section 5.3, stages 3 and 5: a pack is boost-eligible by the mode, the boost parameters, its path, its port, its SOC, its
voltage, its quantised I_DMAX and, for pack B, the bay, and that cap is its B_k. With H < 0 no pack is charged; in ADAPTER
mode the deficit is shared, the pack with the higher SOC first; a boost setpoint is the assigned power at the pack's
voltage, rounded up to 32 mA, at most B_k and at least 128; U is what the caps leave, and what the boost setpoints deliver
together with U covers the whole deficit. In BATTERY_ONLY mode every setpoint is 0, and U is what the supply caps of the
supplying packs leave of the deficit: the whole of it with no ACTIVE port. (An empty record's SOC counts as 0, log 31.) -/
def Obligations.BoostCoversTheDeficit : Prop :=
  ∀ (s t : State) (w : Sweep), SweepDone s w → exec .sweepCompletion s = .next t →
    let vp := fun (p : Pack) => ((s.sws.latest.get (match p with | .a => (4 : Fin 16) | .b => 6)).value).toNat
    let soc : Pack → Nat := fun p => match (s.ppt.ports.get p).record with | some r => r.soc | none => 0
    let pb := fun (p : Pack) => vp p * (t.ppc.alloc.packs.get p).b / 1000
    let d := (-t.ppc.alloc.h).toNat
    let pass := phaseStep .b (phaseStep .a (examineAid (examineVad s)))
    let gives := fun (p : Pack) => (pass.ppc.path.get p).mode ≠ .opened ∧ (s.ppt.ports.get p).state = .active
    let cap := fun (n : Nat) => min (n / 32 * 32) 8064
    let eligible := fun (p : Pack) =>
      t.ppc.alloc.mode = .adapter ∧ s.ppc.boostOn = true ∧ gives p ∧ s.ppc.boostFloor ≤ soc p ∧ 5000 ≤ vp p ∧
        128 ≤ cap (t.ppc.charge.get p).iDmax ∧ (p = .b → s.ppc.bay.state = .latched)
    let supply : Pack → Nat := fun p =>
      if (pass.ppc.path.get p).mode ≠ .opened ∧ (s.ppt.ports.get p).state = .active then
        vp p * cap (t.ppc.charge.get p).supplyCap / 1000
      else 0
    let first : Pack := if soc .a < soc .b then .b else .a
    let share := fun (p : Pack) => if p = first then min (pb p) d else min (pb p) (d - min (pb first) d)
    (∀ p, ((t.ppc.alloc.packs.get p).boostEligible = true ↔ eligible p) ∧
      (eligible p → (t.ppc.alloc.packs.get p).b = cap (t.ppc.charge.get p).iDmax) ∧
      (¬ eligible p → (t.ppc.alloc.packs.get p).b = 0)) ∧
    (t.ppc.alloc.h < 0 → ProtectionLaw s →
      (∀ p, (t.ppc.setpoints.get p).chargeI = 0 ∧ (t.ppc.setpoints.get p).chargeV = 0 ∧
        (t.ppc.setpoints.get p).boost ≤ (t.ppc.alloc.packs.get p).b ∧ (t.ppc.alloc.packs.get p).b ≤ 8064) ∧
      (t.ppc.alloc.mode = .adapter →
        t.ppc.alloc.u = d - (share .a + share .b) ∧
        (∀ p, share p = 0 → (t.ppc.setpoints.get p).boost = 0) ∧
        (∀ p, 0 < share p → (t.ppc.setpoints.get p).boost =
          max 128 (min (t.ppc.alloc.packs.get p).b (((share p * 1000 + vp p - 1) / vp p + 31) / 32 * 32))) ∧
        (∀ p, 0 < share p → 128 ≤ (t.ppc.setpoints.get p).boost ∧
          share p ≤ vp p * (t.ppc.setpoints.get p).boost / 1000) ∧
        d ≤ t.ppc.alloc.u + vp .a * t.ppc.setpoints.a.boost / 1000 + vp .b * t.ppc.setpoints.b.boost / 1000) ∧
      (t.ppc.alloc.mode = .batteryOnly →
        t.ppc.setpoints = ⟨⟨0, 0, 0⟩, ⟨0, 0, 0⟩⟩ ∧ t.ppc.alloc.u = d - (supply .a + supply .b) ∧ t.ppc.alloc.u ≤ d ∧
        ((∀ p, (s.ppt.ports.get p).state ≠ .active) → t.ppc.alloc.u = d)))

/-- Section 4.2: the band in force. Without a governing temperature (or a record) it is UNKNOWN; from UNKNOWN, or under a
new profile, it is the raw band; otherwise it rises while the temperature has reached the upper boundary, or else falls
while the temperature is below the lower boundary by more than the hysteresis, or else is kept. (The sweep completion runs
the step: PhaseStepTakesTheFirstCase.) -/
def Obligations.BandFollowsTheTemperature : Prop :=
  ∀ (p : Pack) (s : State),
    let t := phaseStep p s
    let c := s.ppc.charge.get p
    let band := (t.ppc.charge.get p).band
    let sensed := s.sws.latest.get (match p with | .a => (8 : Fin 16) | .b => 9)
    let usable := sensed.valid = true ∧ sensed.clamped = false
    ((s.ppt.ports.get p).record = none → band = none) ∧
    ∀ r, (s.ppt.ports.get p).record = some r →
      let prof := profileAt s.ppc.profiles r.profile
      let active := (s.ppt.ports.get p).state = .active
      (¬ usable → ¬ active → band = none) ∧
      ∀ temp : Int, (active → usable → temp = max r.temp sensed.value) → (active → ¬ usable → temp = r.temp) →
        (¬ active → usable → temp = sensed.value) → usable ∨ active →
        (c.band = none ∨ c.lastProfile ≠ some r.profile ∨ c.profileFresh = true →
          band = some (prof.bounds.countP fun b => decide (b ≤ temp))) ∧
        ∀ i, c.band = some i → c.lastProfile = some r.profile → c.profileFresh = false → ∃ j, band = some j ∧
          (∀ b, prof.bounds[i]? = some b → b ≤ temp →
            i < j ∧ (∀ k, i ≤ k → k < j → ∀ x, prof.bounds[k]? = some x → x ≤ temp) ∧
              (∀ x, prof.bounds[j]? = some x → temp < x)) ∧
          ((∀ b, prof.bounds[i]? = some b → temp < b) → j ≤ i ∧ (i ≤ prof.bounds.length →
            (∀ k, j ≤ k → k < i → ∀ x, prof.bounds[k]? = some x → temp < x - prof.hyst) ∧
              (0 < j → ∀ x, prof.bounds[j - 1]? = some x → x - prof.hyst ≤ temp)))

/-- Section 4.3: a phase step takes the first case that applies. A port that reports no pack gives NONE; any inhibit gives
HOLD; otherwise the rules of the phase found decide. CHARGE_PHASE is produced exactly when the phase changes. (What the
first two cases keep: log 29; that pack A's step comes before pack B's is the model's choice, log 39.) Sections 4.3, 5.1 and 5.5: a sweep completion runs the phase step of pack A and then of pack
B, after the adapter examination and on the state it leaves, whose samples, ports, action set and charge states are those
the completion found; the setpoint pass works on the state the two steps leave; the bay examination and the hand-over to
EVR follow, and none of these touches the charge states again. -/
def Obligations.PhaseStepTakesTheFirstCase : Prop :=
  (∀ (s : State) (w : Sweep), SweepDone s w →
    let examined := examineAid (examineVad s)
    let stepped := phaseStep .b (phaseStep .a examined)
    let ended := endOfPass (examineBay (allocationPass w stepped))
    examined.sws.latest = s.sws.latest ∧ examined.ppt = s.ppt ∧ examined.lmt = s.lmt ∧
      examined.ppc.charge = s.ppc.charge ∧ examined.ppc.profiles = s.ppc.profiles ∧
      ∃ t, exec .sweepCompletion s = .next t ∧ t.ppc.adapter = examined.ppc.adapter ∧
        t.ppc.charge = stepped.ppc.charge ∧ t.ppc.alloc = (allocationPass w stepped).ppc.alloc ∧
        t = { ended with sws := { ended.sws with counter := (s.sws.counter + 1) % 64, sweep := none } }) ∧
  ∀ (p : Pack) (s : State),
    let t := phaseStep p s
    let x := s.ppt.ports.get p
    let c := s.ppc.charge.get p
    let d := t.ppc.charge.get p
    let noPack := x.state = .absent ∨ x.state = .identifying ∨ x.state = .unresponsive
    let lockout := s.fnc.fans.one.state = .stallLockout ∨ s.fnc.fans.two.state = .stallLockout
    (noPack → d.phase = .none) ∧
    (¬ noPack → x.record = none → d.phase = .hold) ∧
    (∀ r, x.record = some r →
      let prof := profileAt s.ppc.profiles r.profile
      let figure := fun (i : Nat) => (prof.bands.getD i ⟨0, 0, 0⟩).chargeLimit
      let limit := fun (i : Nat) => if lockout then figure i / 2 else figure i
      let stop : Action := match p with | .a => .chargeStopA | .b => .chargeStopB
      let inhibit := x.state = .stale ∨ d.band = none ∨ (∃ i, d.band = some i ∧ limit i = 0) ∨ c.inhibit = true ∨
        stop ∈ s.lmt.actionSet ∨ Action.chargeStopAll ∈ s.lmt.actionSet ∨ r.alarms.terminateCharge = true ∨
        (s.ppc.path.get p).mode ≠ .full ∨ s.ppc.adapter.state = .absent ∨ Action.inputOpen ∈ s.lmt.actionSet ∨
        c.latch ≠ none
      let vp := ((s.sws.latest.get (match p with | .a => (4 : Fin 16) | .b => 6)).value).toNat
      let ip := (s.sws.latest.get (match p with | .a => (5 : Fin 16) | .b => 7)).value
      let recharge := vp + prof.rechargeDelta * r.cells < d.vChg ∨ r.soc < prof.rechargeSoc
      let atVoltage := d.vChg ≤ vp + 16 * r.cells
      let tapered := ip < prof.taperCurrent ∧ prof.taperCurrent < (s.ppc.setpoints.get p).chargeI
      (¬ noPack → inhibit → d.phase = .hold) ∧
      (¬ noPack → ¬ inhibit →
        (c.phase = .none ∨ c.phase = .hold → d.phase =
          if vp / r.cells < prof.preThreshold then .precharge
          else if c.doneMemory = true ∧ ¬ recharge then .done else .bulk) ∧
        (c.phase = .precharge → d.phase =
          if prof.preThreshold + 100 ≤ vp / r.cells then .bulk else .precharge) ∧
        (c.phase = .bulk → d.phase = (if atVoltage ∧ 2 ≤ c.taperCount then .taper else .bulk) ∧
          (d.phase = .bulk → d.taperCount = if atVoltage then c.taperCount + 1 else 0)) ∧
        (c.phase = .taper → d.phase = (if tapered ∧ 7 ≤ c.doneCount then .done else .taper) ∧
          (d.phase = .taper → d.doneCount = if tapered then c.doneCount + 1 else 0)) ∧
        (c.phase = .done → d.phase = if recharge then .bulk else .done))) ∧
    (d.phase = c.phase → t.evr = s.evr) ∧
    (d.phase ≠ c.phase → Tallied .chargePhase s t ∧ d.taperCount = 0 ∧ d.doneCount = 0 ∧
      (d.phase = .done → d.doneMemory = true ∧ d.preTimer = 0 ∧ d.fastTimer = 0) ∧
      (d.phase = .precharge ∨ d.phase = .bulk ∨ d.phase = .taper → d.doneMemory = false))

/-- Section 4.6: the figures that a phase step hands to the pass: V_CHG, the charge cap by the phase, the supply cap, and
the discharge cap, which the boost floor may make 0. With an empty record all are 0. The step also takes its profile's
fast-charge time limit into force (section 4.1); that no other command but a reset moves the limit in force, telemetry with
another profile id among them, is the model's choice (log 35). -/
def Obligations.PhaseStepHandsItsFigures : Prop :=
  (∀ (c : Instr) (s t : State) (p : Pack), exec c s = .next t → c ≠ .sweepCompletion →
    (∀ rail rstin prsA prsB, c ≠ .reset rail rstin prsA prsB) →
    (t.ppc.charge.get p).fastLimit = (s.ppc.charge.get p).fastLimit) ∧
  ∀ (p : Pack) (s : State),
    let d := (phaseStep p s).ppc.charge.get p
    let lockout := s.fnc.fans.one.state = .stallLockout ∨ s.fnc.fans.two.state = .stallLockout
    ((s.ppt.ports.get p).record = none → d.cap = 0 ∧ d.vChg = 0 ∧ d.iDmax = 0 ∧ d.supplyCap = 0) ∧
    ∀ r, (s.ppt.ports.get p).record = some r →
      let prof := profileAt s.ppc.profiles r.profile
      d.fastLimit = prof.fastLimit ∧
      (d.band = none → d.cap = 0 ∧ d.vChg = 0 ∧ d.iDmax = 0 ∧ d.supplyCap = 0) ∧
      ∀ i, d.band = some i →
        let b := prof.bands.getD i ⟨0, 0, 0⟩
        let limit := if lockout then b.chargeLimit / 2 else b.chargeLimit
        d.vChg = min 20000 (min r.reqVoltage (r.cells * b.cellVoltage) / 8 * 8) ∧
        (d.vChg < 5000 → d.cap = 0) ∧
        (5000 ≤ d.vChg →
          (d.phase = .precharge → d.cap = prof.preCurrent) ∧
          (d.phase = .bulk ∨ d.phase = .taper → d.cap = min limit r.reqCurrent) ∧
          (d.phase = .none ∨ d.phase = .hold ∨ d.phase = .done → d.cap = 0)) ∧
        d.supplyCap =
          (if r.alarms.terminateDischarge = true ∨ (s.ppc.path.get p).mode = .opened ∨
              (s.ppt.ports.get p).state ≠ .active then 0
           else min b.dischargeLimit r.maxDischarge) ∧
        d.iDmax = if r.soc < s.ppc.boostFloor then 0 else d.supplyCap

/-- Section 4.4: the precharge timer counts the expiries of PRECHARGE, the fast timer those of BULK and TAPER with a
charge current setpoint in force; at 30 min, or the limit of the profile that governs the pack since its last phase step
(section 4.1; for a profile id changed by telemetry that is the model's choice, log 35), the timer is due to fire.
CHARGE_TIMEOUT then sets the latch, zeroes the pack's charge setpoints and moves it to HOLD; with none due it does nothing
(log 19). -/
def Obligations.ChargeTimersCountAndFire : Prop :=
  (∀ (raw : SwitchLevels) (s t : State) (p : Pack), exec (.tickExpiry raw) s = .next t →
    let c := s.ppc.charge.get p
    let d := t.ppc.charge.get p
    (c.phase = .precharge →
      d = { c with preTimer := c.preTimer + 1, due := if 1800000 ≤ c.preTimer + 1 then some .precharge else c.due }) ∧
    (c.phase = .bulk ∨ c.phase = .taper → 0 < (s.ppc.setpoints.get p).chargeI →
      d = { c with
        fastTimer := c.fastTimer + 1
        due := if c.fastLimit * 60000 ≤ c.fastTimer + 1 then some .fast else c.due }) ∧
    (c.phase = .bulk ∨ c.phase = .taper → (s.ppc.setpoints.get p).chargeI = 0 → d = c) ∧
    (c.phase = .none ∨ c.phase = .hold ∨ c.phase = .done → d = c)) ∧
  ∀ (p : Pack) (s : State),
    let c := s.ppc.charge.get p
    let fired := fun (x : ChargeTimer) (ph : Phase) (tc dc : Nat) => { s with
      ppc := { s.ppc with
        charge := s.ppc.charge.set p
          { c with latch := some x, due := none, phase := ph, taperCount := tc, doneCount := dc }
        setpoints := s.ppc.setpoints.set p { s.ppc.setpoints.get p with chargeI := 0, chargeV := 0 } } }
    (c.due = none → exec (.chargeTimeout p) s = .next s) ∧
    ∀ x, c.due = some x →
      (c.phase = .hold → exec (.chargeTimeout p) s =
        .next (route .chargeTimeout (packNum p) (match x with | .precharge => 1 | .fast => 2)
          (fired x .hold c.taperCount c.doneCount))) ∧
      (c.phase ≠ .hold → exec (.chargeTimeout p) s =
        .next (route .chargePhase (packNum p) 1
          (setCharge p { c with latch := some x, due := none, phase := .hold, taperCount := 0, doneCount := 0 }
            (route .chargeTimeout (packNum p) (match x with | .precharge => 1 | .fast => 2)
              (fired x c.phase c.taperCount c.doneCount)))))

/-! ## The pack ports -/

/-- Section 3.2: the presence line and the port's three timers. A line that becomes active starts 100 ms of settling, at
whose end the port is IDENTIFYING, with PACK_PRESENT before PACK_LINK; 3 s of silence make an ACTIVE port STALE and an
IDENTIFYING one UNRESPONSIVE; 10 s in STALE make it UNRESPONSIVE. Every such change is handed to PPC (section 3.5) and to SSC
(section 9.6). That PPT's events come first, then PPC's paths and then SSC's battery conditions is the model's reading
(log 14), and so is that a timer not due changes nothing (log 2). -/
def Obligations.PortTimersMoveThePort : Prop :=
  ∀ (p : Pack) (s : State),
    let x := s.ppt.ports.get p
    let n := packNum p
    (x.presence = true → exec (.presenceActive p) s = .next s) ∧
    (x.presence = false → x.state = .absent →
      exec (.presenceActive p) s = .next (setPort p { x with presence := true, presenceTimer := some 100 } s)) ∧
    (x.presenceTimer ≠ some 0 → exec (.presenceTimerExpiry p) s = .next s) ∧
    (x.presenceTimer = some 0 → exec (.presenceTimerExpiry p) s =
      .next (portChanged (route .packLink n 1 (route .packPresent n 0
        (setPort p { x with
          state := .identifying
          presenceTimer := none
          silenceTimer := some 3000
          rx := .hunting } s))))) ∧
    (x.silenceTimer ≠ some 0 → exec (.silenceTimerExpiry p) s = .next s) ∧
    (x.silenceTimer = some 0 → x.state = .active → exec (.silenceTimerExpiry p) s =
      .next (portChanged (route .packLink n 3
        (setPort p { x with state := .stale, silenceTimer := none, staleTimer := some 10000 } s)))) ∧
    (x.silenceTimer = some 0 → x.state = .identifying → exec (.silenceTimerExpiry p) s =
      .next (portChanged (route .packLink n 4
        (setPort p { x with state := .unresponsive, silenceTimer := none } s)))) ∧
    (x.staleTimer ≠ some 0 → exec (.staleTimerExpiry p) s = .next s) ∧
    (x.staleTimer = some 0 → x.state = .stale → exec (.staleTimerExpiry p) s =
      .next (portChanged (route .packLink n 4
        (setPort p { x with state := .unresponsive, staleTimer := none } s))))

/-- Sections 3.2, 3.4, 3.6 and 4.3: a pack that leaves takes its record, its timers, its setpoints and its
charge state with it; a pass-through in flight ends with NO_PACK; the path opens; the combined SOC is taken afresh; and for
pack B the pending release request is cleared, which returns a closed bay to LATCHED. The frame error count stays. (The
combined SOC is section 9.6. That the discard mark is left as it is when the slot returns to IDLE is the model's reading,
log 29.) -/
def Obligations.RemovalClearsThePack : Prop :=
  ∀ (p : Pack) (s : State),
    let x := s.ppt.ports.get p
    let c := s.ppc.charge.get p
    let reply : Reply := ⟨x.slot.tag, .noPack, [], false⟩
    (x.presence = false → exec (.packRemoval p) s = .next s) ∧
    (x.presence = true → x.state = .absent →
      exec (.packRemoval p) s = .next (setPort p { x with presence := false, presenceTimer := none } s)) ∧
    (x.presence = true → x.state ≠ .absent → ∃ t, exec (.packRemoval p) s = .next t ∧
      (x.slot.state ≠ .waiting → (t.ppt.ports.get p).slot = x.slot ∧ t.slc = s.slc) ∧
      (x.slot.state = .waiting → x.slot.discard = true →
        (t.ppt.ports.get p).slot = { x.slot with state := .idle, held := none, timer := none } ∧ t.slc = s.slc) ∧
      (x.slot.state = .waiting → x.slot.discard = false → replyRoom s = true →
        (t.ppt.ports.get p).slot = { x.slot with state := .idle, held := none, timer := none } ∧
          t.slc = { s.slc with replies := s.slc.replies ++ [reply] }) ∧
      (x.slot.state = .waiting → x.slot.discard = false → replyRoom s = false →
        (t.ppt.ports.get p).slot = { x.slot with state := .resolved, held := some reply, timer := none } ∧
          t.slc = s.slc) ∧
      t.ppt.ports.get p =
        { state := .absent, presence := false, record := none, frameErrors := x.frameErrors, presenceTimer := none,
          silenceTimer := none, staleTimer := none, rx := .hunting, slot := (t.ppt.ports.get p).slot,
          requestDue := none, tx := none } ∧
      t.ppt.ports.get (otherPack p) = s.ppt.ports.get (otherPack p) ∧
      t.ppc.charge.get p =
        { c with
          phase := .none
          band := none
          taperCount := 0
          doneCount := 0
          doneMemory := false
          preTimer := 0
          fastTimer := 0
          latch := none
          due := none } ∧
      t.ppc.charge.get (otherPack p) = s.ppc.charge.get (otherPack p) ∧ (t.ppc.path.get p).mode = .opened ∧
      (SetpointLaw s → t.ppc.setpoints.get p = ⟨0, 0, 0⟩) ∧ t.ssc.combinedSoc = combinedSocOf t.ppt ∧
      Tallied .packRemoved s t ∧ Tallied .packLink s t ∧
      (p = .a → t.ppc.bay = s.ppc.bay) ∧
      (p = .b → t.ppc.bay.pending = false ∧
        (s.ppc.bay.state = .latched → t.ppc.bay.state = .latched) ∧
        (s.swi.baylatch.level = some false → t.ppc.bay.state = .latched) ∧
        (s.swi.baylatch.level ≠ some false → t.ppc.bay.state = s.ppc.bay.state)))

/-- Sections 3.1 to 3.3 and 11.2: valid telemetry on a listening line fills the pack record byte by byte, makes the port
ACTIVE, restarts its silence timer, and puts the frame as received, from header to check, into the pack's relay slot;
PACK_LINK reports a port that was not ACTIVE, PACK_ALARM a flag that was not set before. -/
def Obligations.TelemetryFillsTheRecord : Prop :=
  ∀ (p : Pack) (tag : Nat) (bs : List Byte) (s : State),
    let x := s.ppt.ports.get p
    let n := fun (i : Nat) => (bs.getD i 0).toNat
    let old : List Bool := match x.record with
      | some r => [r.alarms.overCharge, r.alarms.overTemp, r.alarms.terminateCharge, r.alarms.terminateDischarge,
          r.alarms.cellImbalance]
      | none => List.replicate 5 false
    x.state ≠ .absent → x.tx = none → x.rx = .hunting → tag < 16 → bs.length = 20 → 2 ≤ n 1 → n 1 ≤ 5 →
    ∃ t r, exec (.packTelemetryReceived p (frameBytes 0xA tag bs)) s = .next t ∧
      t.ppt.ports.get p =
        { x with record := some r, state := .active, silenceTimer := some 3000, staleTimer := none } ∧
      t.ppt.ports.get (otherPack p) = s.ppt.ports.get (otherPack p) ∧
      r.profile = (if n 0 ≤ 3 then n 0 else 0) ∧ r.cells = n 1 ∧ r.voltage = 256 * n 2 + n 3 ∧
      r.current = (BitVec.ofNat 16 (256 * n 4 + n 5)).toInt ∧ r.temp = (BitVec.ofNat 16 (256 * n 6 + n 7)).toInt ∧
      r.soc = min 100 (n 8) ∧ r.remaining = 256 * n 9 + n 10 ∧ r.full = 256 * n 11 + n 12 ∧
      r.reqVoltage = 256 * n 13 + n 14 ∧ r.reqCurrent = 256 * n 15 + n 16 ∧
      r.maxDischarge = 256 * n 17 + n 18 ∧ r.stamp = s.tmb.ms ∧
      [r.alarms.overCharge, r.alarms.overTemp, r.alarms.terminateCharge, r.alarms.terminateDischarge,
          r.alarms.cellImbalance] = (List.range 5).map (fun k => (bs.getD 19 0).getLsbD k) ∧
      (p = .a → t.evr.relayA = some (frameBytes 0xA tag bs).tail ∧ t.evr.relayB = s.evr.relayB) ∧
      (p = .b → t.evr.relayB = some (frameBytes 0xA tag bs).tail ∧ t.evr.relayA = s.evr.relayA) ∧
      (x.state ≠ .active → Tallied .packLink s t) ∧
      (x.state = .active →
        t.evr.tally.get EventCode.packLink.idx = s.evr.tally.get EventCode.packLink.idx) ∧
      ((∃ k, k < 5 ∧ (bs.getD 19 0).getLsbD k = true ∧ old[k]? = some false) → Tallied .packAlarm s t) ∧
      ((∀ k, k < 5 → (bs.getD 19 0).getLsbD k = true → old[k]? = some true) →
        t.evr.tally.get EventCode.packAlarm.idx = s.evr.tally.get EventCode.packAlarm.idx) ∧
      t.ssc.combinedSoc = combinedSocOf t.ppt ∧ t.ppc.path = ⟨pathOf t .a, pathOf t .b⟩ ∧ t.slc = s.slc

/-- Section 3.4: a WAITING slot resolves by a good PACK_REPLY or by its 100 ms timer; the reply is dropped under the
discard mark, queued when there is room, held in RESOLVED otherwise, and handed on when a place is free, pack A's slot
first. A good reply at a slot that does not wait is late. That a PACK_REQUEST still due is dropped at a timeout or at a
reply's resolution is the model's choice (log 17; R49 says so of a removal). That the discard mark is left as it is when the
slot returns to IDLE is the model's reading (log 29), and so is that a pass timer not due does nothing (log 2). -/
def Obligations.PassSlotsResolveOnce : Prop :=
  ∀ (p : Pack) (s : State),
    let x := s.ppt.ports.get p
    let idle : Port := { x with slot := { x.slot with state := .idle, held := none, timer := none }, requestDue := none }
    let result := fun (code : ResultCode) (data : List Byte) =>
      let r : Reply := ⟨x.slot.tag, code, data, false⟩
      if x.slot.discard = true then setPort p idle s
      else if s.slc.replies.length + slotsWaiting s < 4 then enqueueReply r (setPort p idle s)
      else setPort p { x with
        slot := { x.slot with state := .resolved, held := some r, timer := none }
        requestDue := none } s
    (∀ (tag : Nat) (bs : List Byte), tag < 16 → 1 ≤ bs.length → bs.length ≤ 31 → x.state ≠ .absent → x.tx = none →
      x.rx = .hunting →
      (x.slot.state = .waiting →
        exec (.packReplyReceived p (frameBytes 0xC tag bs)) s = .next (result .ok bs)) ∧
      (x.slot.state ≠ .waiting →
        exec (.packReplyReceived p (frameBytes 0xC tag bs)) s = .next (route .passLate (packNum p) 0 s))) ∧
    (x.slot.state = .waiting → x.slot.timer = some 0 →
      exec (.passTimerExpiry p) s = .next (result .timeout [])) ∧
    (x.slot.state ≠ .waiting ∨ x.slot.timer ≠ some 0 → exec (.passTimerExpiry p) s = .next s) ∧
    (∀ r, x.slot.state = .resolved → x.slot.held = some r → s.slc.replies.length < 4 →
      p = .a ∨ s.ppt.ports.a.slot.state ≠ .resolved →
      exec (.passReplyQueued p) s = .next (enqueueReply r (setPort p idle s))) ∧
    (x.slot.state ≠ .resolved ∨ 4 ≤ s.slc.replies.length ∨ (p = .b ∧ s.ppt.ports.a.slot.state = .resolved) →
      exec (.passReplyQueued p) s = .next s)

/-- Section 3.1: a frame with a length above 60, with a check that does not match, of a kind that no pack sends, or with
malformed telemetry or reply is counted and discarded (that a length above 60 ends the frame at its length byte is the
model's choice, log 34), and a gap inside a frame likewise (log 9); a port that is ABSENT or
transmitting hears nothing. A request that is due begins when no frame is being received and leaves the receiver hunting
at its end. -/
def Obligations.PackLinesCountErrorsAndTransmit : Prop :=
  ∀ (p : Pack) (s : State),
    let x := s.ppt.ports.get p
    let counted := setPort p { x with frameErrors := if x.frameErrors < 255 then x.frameErrors + 1 else 255 } s
    (∀ bs : List Byte, x.state = .absent ∨ x.tx ≠ none → exec (.packFrameError p (.bytes bs)) s = .next s) ∧
    (x.state ≠ .absent → x.tx = none → x.rx = .hunting →
      (∀ (h l : Byte), 60 < l.toNat → exec (.packFrameError p (.bytes [syncByte, h, l])) s = .next counted) ∧
      (∀ (kind tag : Nat) (bs : List Byte) (c : BitVec 16), bs.length ≤ 60 → c ≠ crc16 (frameBody kind tag bs) →
        exec (.packFrameError p (.bytes (syncByte :: frameBody kind tag bs ++
          [(c >>> 8).setWidth 8, c.setWidth 8]))) s = .next counted) ∧
      (∀ (kind tag : Nat) (bs : List Byte), kind < 16 → tag < 16 → bs.length ≤ 60 →
        (kind ≠ 0xA ∧ kind ≠ 0xC) ∨ (kind = 0xA ∧ (bs.length ≠ 20 ∨ (bs.getD 1 0).toNat < 2 ∨ 5 < (bs.getD 1 0).toNat)) ∨
          (kind = 0xC ∧ (bs.length = 0 ∨ 31 < bs.length)) →
        exec (.packFrameError p (.bytes (frameBytes kind tag bs))) s = .next counted)) ∧
    (∀ taken, x.rx = .inFrame taken → exec (.packFrameError p .gap) s =
      .next (setPort p { x with
        rx := .hunting
        frameErrors := if x.frameErrors < 255 then x.frameErrors + 1 else 255 } s)) ∧
    (x.rx = .hunting → exec (.packFrameError p .gap) s = .next s) ∧
    (∀ payload, x.requestDue = some payload → x.rx = .hunting → x.tx = none → exec (.packRequestTransmit p) s =
      .next (setPort p { x with tx := some (frameBytes 0xB 0 payload), requestDue := none } s)) ∧
    (x.requestDue = none ∨ x.rx ≠ .hunting ∨ x.tx ≠ none → exec (.packRequestTransmit p) s = .next s) ∧
    (x.tx ≠ none → exec (.packRequestTransmitted p) s = .next (setPort p { x with tx := none, rx := .hunting } s)) ∧
    (x.tx = none → exec (.packRequestTransmitted p) s = .next s)

/-- Section 3.4: a PASS at the head of the buffer is checked in order and refused by the first check that fails, changing
nothing; one that passes them all leaves the buffer without a reply, its port's slot WAITING with 100 ms to go and the
PACK_REQUEST due. It waits for room for its one reply as any request does (log 10). -/
def Obligations.PassIsCheckedInOrder : Prop :=
  ∀ (s : State),
    ((∀ tag bs, s.slc.requests.head? = some ⟨.pass, tag, bs⟩ → replyRoom s = false) → exec .pass s = .next s) ∧
    ∀ (tag : Nat) (bs : List Byte), s.slc.requests.head? = some ⟨.pass, tag, bs⟩ → replyRoom s = true →
      let n := fun (i : Nat) => (bs.getD i 0).toNat
      let p : Pack := if n 0 = 0 then .a else .b
      let x := s.ppt.ports.get p
      let verdict : Verdict :=
        ((s.ppt.filter.list.filterMap id).find? fun f => decide (f.low ≤ n 1) && decide (n 1 ≤ f.high)).elim .forward
          FilterEntry.verdict
      let code : Option ResultCode :=
        if bs.length < 3 ∨ (n 2 = 0 ∧ bs.length < 4) then some .badLength
        else if 1 < n 0 ∨ 1 < n 2 ∨ (n 2 = 0 ∧ (n 3 = 0 ∨ 30 < n 3)) then some .badArgument
        else if (n 2 = 0 ∧ bs.length ≠ 4) ∨ (n 2 = 1 ∧ 30 < bs.length - 3) then some .badLength
        else if verdict = .refuse ∨ (verdict = .readOnly ∧ n 2 = 1) then some .filtered
        else if x.state = .absent ∨ x.state = .identifying ∨ x.state = .unresponsive then some .noPack
        else if x.slot.state ≠ .idle then some .busy
        else none
      (∀ c, code = some c → exec .pass s = .next (answered tag c [] s)) ∧
      (code = none → exec .pass s =
        .next (setPort p { x with
          slot := { state := .waiting, discard := false, tag := tag, held := none, timer := some 100 }
          requestDue := some bs.tail } (popRequest s)))

/-- Section 3.6: RELEASE_BAY on a seated pack and a latch that opens take a LATCHED bay into RELEASING, pack B's setpoints
gone and BAY_RELEASE produced; two quiet passes with another supply standing by release it, and a pass without one is
refused once; BAY_CANCEL, or a latch that closes with no request pending, returns it to LATCHED. A request that carries
arguments is answered BAD_LENGTH (section 11.3). That a latch completion is taken by its due mark is the model's choice
(log 5), and that it is a command of its own, which does nothing when it is not due, is the model's reading (log 2). -/
def Obligations.BayReleasesInTwoQuietPasses : Prop :=
  (∀ (s : State) (tag : Nat) (args : List Byte), args ≠ [] →
    (RequestAtHead s 0x2A args tag → exec .releaseBay s = .next (answered tag .badLength [] s)) ∧
    (RequestAtHead s 0x2B args tag → exec .bayCancel s = .next (answered tag .badLength [] s))) ∧
  (∀ (s : State) (tag : Nat), RequestAtHead s 0x2A [] tag →
    (s.ppt.ports.b.state = .absent → exec .releaseBay s = .next (answered tag .noPack [] s)) ∧
    (s.ppt.ports.b.state ≠ .absent → ∃ t, exec .releaseBay s = .next t ∧
      t.ppc.bay.pending = true ∧ t.slc.replies = s.slc.replies ++ [⟨tag, .ok, [BitVec.ofNat 8 t.ppc.bay.state.num], false⟩] ∧
      (s.ppc.bay.state = .latched → t.ppc.bay = ⟨.releasing, true, 0, false⟩ ∧ t.ppc.setpoints.b = ⟨0, 0, 0⟩ ∧
        Tallied .bayRelease s t ∧ t.ppc.path = ⟨pathOf t .a, pathOf t .b⟩) ∧
      (s.ppc.bay.state ≠ .latched → t.ppc.bay = { s.ppc.bay with pending := true } ∧ t.evr = s.evr))) ∧
  (∀ (s : State) (tag : Nat), RequestAtHead s 0x2B [] tag → ∃ t, exec .bayCancel s = .next t ∧
    t.slc.replies = s.slc.replies ++ [⟨tag, .ok, [BitVec.ofNat 8 t.ppc.bay.state.num], false⟩] ∧
    t.ppc.bay.pending = false ∧
    (s.swi.baylatch.level = some false → t.ppc.bay.state = .latched) ∧
    (s.swi.baylatch.level ≠ some false → t.ppc.bay = { s.ppc.bay with pending := false })) ∧
  (∀ (s : State) (opened : Bool),
    let x := s.swi.baylatch
    let taken : State := { s with swi := { s.swi with baylatch := { x with level := some opened, run := 0, due := false } } }
    (x.due = false ∨ x.level = none → exec .baylatchDebounceComplete s = .next s) ∧
    (x.due = true → x.level = some (!opened) → ∃ t, exec .baylatchDebounceComplete s = .next t ∧
      t.swi = taken.swi ∧
      (opened = true → s.ppc.bay.state = .latched →
        t.ppc.bay = ⟨.releasing, s.ppc.bay.pending, 0, false⟩ ∧ t.ppc.setpoints.b = ⟨0, 0, 0⟩ ∧
          Tallied .bayRelease s t) ∧
      (opened = true → s.ppc.bay.state ≠ .latched → t = taken) ∧
      (opened = false → s.ppc.bay.state ≠ .latched → s.ppc.bay.pending = false →
        t.ppc.bay = { s.ppc.bay with state := .latched, quiet := 0 } ∧ Tallied .bayRelease s t) ∧
      (opened = false → s.ppc.bay.state = .latched ∨ s.ppc.bay.pending = true → t = taken))) ∧
  ∀ (s t : State) (w : Sweep), SweepDone s w → exec .sweepCompletion s = .next t →
    let ipb := (s.sws.latest.get 7).value.natAbs
    (s.ppc.bay.state ≠ .releasing → t.ppc.bay = s.ppc.bay) ∧
    (s.ppc.bay.state = .releasing →
      (altSupply t .b = true → ipb < 200 → s.ppc.bay.quiet = 0 → t.ppc.bay = { s.ppc.bay with quiet := 1 }) ∧
      (altSupply t .b = true → ipb < 200 → 1 ≤ s.ppc.bay.quiet →
        t.ppc.bay = { s.ppc.bay with state := .released, quiet := 2 } ∧ t.ppc.path.b.mode = .opened ∧
          Tallied .bayRelease s t) ∧
      (altSupply t .b = true → 200 ≤ ipb → t.ppc.bay = { s.ppc.bay with quiet := 0 }) ∧
      (altSupply t .b = false → t.ppc.bay = { s.ppc.bay with quiet := 0, refused := true } ∧
        (s.ppc.bay.refused = false → Tallied .bayRefused s t) ∧
        (s.ppc.bay.refused = true →
          t.evr.tally.get EventCode.bayRefused.idx = s.evr.tally.get EventCode.bayRefused.idx)))

/-- Section 11.1: every frame that either side sends is read back by a hunting receiver as it was sent, ending exactly at
its last byte; and the frames of a reply carry its tag, its code, the number still to follow and, together, its data. -/
def Obligations.FramesAreReadAsSent : Prop :=
  (∀ (kind tag : Nat) (bs : List Byte), kind < 16 → tag < 16 → bs.length ≤ 60 →
    endsFrame .hunting (frameBytes kind tag bs) = some (.frame ⟨kind, tag, bs, (frameBytes kind tag bs).tail⟩)) ∧
  ∀ r : Reply, r.data.length ≤ 885 → r.tag < 16 →
    ∃ pieces : List (List Byte), pieces.flatten = r.data ∧ pieces ≠ [] ∧
      (∀ d ∈ pieces, d.length ≤ 59) ∧ (∀ d ∈ pieces.dropLast, d.length = 59) ∧
      replyFrames r = (pieces.zipIdx.map fun x =>
        frameBytes 1 r.tag (BitVec.ofNat 8 (16 * (pieces.length - 1 - x.2) + r.code.num) :: x.1))

/-! ## The keyboard -/

/-- Sections 6.1 and 6.4: a pass is made with the countdown at 0, or after a gate exit taken before it in the same tick
while the scanner runs (the mark of that exit is log 37); that a SCAN_PASS else changes nothing is the model's reading
(log 2). A pass loads the scan period of the system state; the first after a stop puts every position that reads down
into BLOCKED and makes no record; a later one takes the positions one by one in ascending order. That the image is an operand, a list whose missing readings count as not pressed, is the
model's choice (log 6). -/
def Obligations.ScanPassTakesPositionsInOrder : Prop :=
  ∀ (image : List Bool) (s : State),
    let period : Option Nat := if s.ssc.state = .off then none else if s.ssc.state = .standby then some 8 else some 1
    let due := s.kms.countdown = some 0 ∨ (s.kms.exited = true ∧ s.kms.countdown ≠ none)
    (¬ due → exec (.scanPass image) s = .next s) ∧
    (due → s.kms.firstPass = true → ∃ t, exec (.scanPass image) s = .next t ∧
      t = { s with kms := t.kms } ∧
      t.kms =
        { s.kms with countdown := period, exited := false, firstPass := false, positions := t.kms.positions } ∧
      ∀ p : Fin 144, t.kms.positions.get p =
        if image.getD p.val false = true then { s.kms.positions.get p with state := .blocked, count := 0 }
        else s.kms.positions.get p) ∧
    (due → s.kms.firstPass = false → exec (.scanPass image) s =
      .next ((List.finRange 144).foldl (fun t p => keyStep p (image.getD p.val false) t)
        { s with kms := { s.kms with countdown := period, exited := false } }))

/-- Sections 6.2 to 6.5 and 6.7: one position at one pass. A press is confirmed at the N_P-th raw-down pass unless three DOWN
corners of a rectangle without an ISOLATED position make it a possible ghost; a confirmed press fixes code, layer and
silence from the present entry (a Fn key counts itself, log 21), hands on its PRESS record unless silent, and then, in
STANDBY, KEY_WAKE; a release is made at the N_R-th raw-up pass, with a RELEASE record exactly when the press was announced.
Every other position keeps its record. -/
def Obligations.KeysAreDebouncedAndReported : Prop :=
  ∀ (p : Fin 144) (raw : Bool) (s : State),
    let t := keyStep p raw s
    let r := s.kms.positions.get p
    let k := s.kms
    let e := k.translation.get p
    let put := fun (x : PosRec) => { s with kms := { s.kms with positions := s.kms.positions.set p x } }
    let down := fun (q : Fin 144) => (k.positions.get q).state = .down
    let shield := fun (q : Fin 144) => (k.translation.get q).isolated = true
    let ghost := ∃ (row : Fin 8) (col : Fin 18), row ≠ keyRow p ∧ col ≠ keyCol p ∧ down (keyAt row col) ∧
      down (keyAt (keyRow p) col) ∧ down (keyAt row (keyCol p)) ∧ ¬ shield p ∧ ¬ shield (keyAt row col) ∧
      ¬ shield (keyAt (keyRow p) col) ∧ ¬ shield (keyAt row (keyCol p))
    let fn := e.fnKey = true ∨ ∃ q, q ≠ p ∧ down q ∧ (k.translation.get q).fnKey = true
    let presses := (r.state = .up ∧ k.pressCount ≤ 1) ∨ (r.state = .pressDebounce ∧ k.pressCount ≤ r.count + 1)
    let releases :=
      (r.state = .down ∧ k.releaseCount ≤ 1) ∨ (r.state = .releaseDebounce ∧ k.releaseCount ≤ r.count + 1)
    (∀ q, q ≠ p → t.kms.positions.get q = s.kms.positions.get q) ∧
    -- raw up
    (raw = false → r.state = .up → t = s) ∧
    (raw = false → r.state = .pressDebounce ∨ r.state = .ghostHeld ∨ r.state = .blocked →
      t = put { r with state := .up, count := 0 }) ∧
    (raw = false → r.state = .down → 1 < k.releaseCount → t = put { r with state := .releaseDebounce, count := 1 }) ∧
    (raw = false → r.state = .releaseDebounce → r.count + 1 < k.releaseCount →
      t = put { r with state := .releaseDebounce, count := r.count + 1 }) ∧
    (raw = false → releases → r.announced = false → t = put ⟨.up, 0, 0, r.layer, false, false⟩) ∧
    (raw = false → releases → r.announced = true →
      t = placeKey ⟨p, r.code, true, r.layer, false, s.tmb.ms⟩ (put ⟨.up, 0, 0, r.layer, false, false⟩)) ∧
    -- raw down
    (raw = true → r.state = .down ∨ r.state = .blocked → t = s) ∧
    (raw = true → r.state = .releaseDebounce → t = put { r with state := .down, count := 0 }) ∧
    (raw = true → r.state = .ghostHeld → ghost → t = s) ∧
    (raw = true → r.state = .ghostHeld → ¬ ghost → t = put { r with state := .pressDebounce, count := 0 }) ∧
    (raw = true → r.state = .up → 1 < k.pressCount → t = put { r with state := .pressDebounce, count := 1 }) ∧
    (raw = true → r.state = .pressDebounce → r.count + 1 < k.pressCount →
      t = put { r with state := .pressDebounce, count := r.count + 1 }) ∧
    (raw = true → presses → ghost → t = put { r with state := .ghostHeld, count := 0 }) ∧
    (raw = true → presses → ¬ ghost → ∃ code layer silent announced, ∃ u : State,
      (fn → e.fn ≠ 0 → code = e.fn ∧ layer = .fn) ∧ (¬ fn ∨ e.fn = 0 → code = e.base ∧ layer = .base) ∧
      (silent = true ↔ e.fnKey = true ∨ code = 0) ∧
      (announced = true ↔ silent = false ∧ s.evr.normalState = .opened ∧ s.evr.normal.length < 32) ∧
      (silent = true → u = put ⟨.down, 0, code, layer, silent, announced⟩) ∧
      (silent = false → u = placeKey ⟨p, code, false, layer, false, s.tmb.ms⟩
        (put ⟨.down, 0, code, layer, silent, announced⟩)) ∧
      (s.ssc.state = .standby → e.wake = true → t = route .keyWake p.val code u) ∧
      (s.ssc.state ≠ .standby ∨ e.wake = false → t = u))

/-! ## The switch inputs -/

/-- Section 7.1: each tick expiry samples each input. A taken level counts a run of samples at the other level,
cleared by one at its own; an untaken one counts a run at the reference level. At D samples the completion is due, and holds
off further samples until it is taken (log 5). An initial take sets the level without an event: LID and HINGE decide gate
and curve set, BAYLATCH the bay. That a take is a command of its own, which does nothing when it is not due, is the model's
reading (log 2), and so is that a take, being no gate exit, leaves the mark of one as it was (log 37). -/
def Obligations.SwitchSamplesLeadToALevel : Prop :=
  (∀ (raw : SwitchLevels) (s t : State) (i : SwitchInput), exec (.tickExpiry raw) s = .next t →
    let x := s.swi.input i
    let y := t.swi.input i
    let r := SwitchLevels.of raw i
    (x.due = true → y = x) ∧
    (∀ l, x.due = false → x.level = some l →
      (r = l → y = { x with run := 0 }) ∧
      (r ≠ l → y = { x with run := x.run + 1, due := decide (x.time ≤ x.run + 1) })) ∧
    (x.due = false → x.level = none →
      (x.reference = some r → y = { x with run := x.run + 1, due := decide (x.time ≤ x.run + 1) }) ∧
      (x.reference ≠ some r → y = { x with reference := some r, run := 1, due := decide (x.time ≤ 1) }))) ∧
  ∀ (i : SwitchInput) (s : State),
    let x := s.swi.input i
    let taken := setInput i { x with level := x.reference, run := 0, due := false } s
    (x.due = false ∨ x.level ≠ none → exec (.initialTake i) s = .next s) ∧
    (x.due = true → x.level = none → ∃ t, exec (.initialTake i) s = .next t ∧ t.swi = taken.swi ∧
      (i = .pwrbtn → t = taken) ∧
      (i = .baylatch →
        t.ppc.bay.state =
          (if x.reference = some false ∧ s.ppc.bay.pending = false then .latched else s.ppc.bay.state) ∧
        t.ppc.path = ⟨pathOf t .a, pathOf t .b⟩ ∧
        t.evr.tally.get EventCode.bayRelease.idx = s.evr.tally.get EventCode.bayRelease.idx) ∧
      (i = .lid ∨ i = .hinge →
        t.evr = s.evr ∧ t.fnc.set = curveSetOf taken.swi.lid.level taken.swi.hinge.level ∧
        t.kms.positions = s.kms.positions ∧ t.kms.exited = s.kms.exited ∧
        (gateOf taken.swi.lid.level taken.swi.hinge.level = true → t.kms = s.kms) ∧
        (gateOf taken.swi.lid.level taken.swi.hinge.level = false → t.kms.gated = false ∧
          (s.ssc.state ≠ .off → t.kms.countdown = some 1 ∧ t.kms.firstPass = true))))

/-- Sections 6.1, 6.6, 7.2 and 8.2: a debounce completion takes the other level. LID and HINGE hand it first to the keyboard,
which at gate entry makes the synthetic RELEASE records of the announced positions that are held, in ascending order, and
stops with every position UP, and which runs again at gate exit outside OFF; then to the fans, whose curve set is chosen
afresh and whose fresh-reference marks are set when it changes; then they produce LID or TABLET with value 1 for closed or
tablet and 0 for open or laptop, on the state these leave. PWRBTN starts or stops the hold timer and produces POWER_BUTTON.
A completion not due does nothing. The model's choices: the due mark (log 5), a completion as a command of its own (log 2),
the hold count 0 after a release (log 20), and the mark that lets a pass taken after a gate exit in its tick be made
(log 37). -/
def Obligations.DebouncedLevelsAreHandedOn : Prop :=
  (∀ (i : LidHinge) (s : State) (l : Bool),
    let x := s.swi.input (lidHingeInput i)
    let taken := setInput (lidHingeInput i) { x with level := some (!l), run := 0, due := false } s
    let gate := gateOf taken.swi.lid.level taken.swi.hinge.level
    (x.due = false ∨ x.level = none → exec (.lidHingeDebounceComplete i) s = .next s) ∧
    (x.due = true → x.level = some l → ∃ t, exec (.lidHingeDebounceComplete i) s = .next t ∧
      t.swi = taken.swi ∧ t.kms.gated = gate ∧
      t.fnc.set = curveSetOf taken.swi.lid.level taken.swi.hinge.level ∧
      (i = .lid → Tallied .lid s t) ∧ (i = .hinge → Tallied .tablet s t) ∧
      (s.kms.gated = false → gate = true →
        t.kms.countdown = none ∧ t.kms.firstPass = true ∧ ∀ p, (t.kms.positions.get p).state = .up) ∧
      (s.kms.gated = true → gate = false → s.ssc.state ≠ .off →
        t.kms.countdown = some 1 ∧ t.kms.firstPass = true ∧ t.kms.exited = true) ∧
      (s.kms.gated = gate → t.kms.positions = s.kms.positions) ∧
      ∃ u : State,
        let held := fun (p : Fin 144) =>
          (s.kms.positions.get p).state = .down ∨ (s.kms.positions.get p).state = .releaseDebounce
        let releases : List KeyRecord :=
          ((List.finRange 144).filter fun p => decide (held p ∧ (s.kms.positions.get p).announced = true)).map fun p =>
            ⟨p, (s.kms.positions.get p).code, true, (s.kms.positions.get p).layer, true, s.tmb.ms⟩
        let set := curveSetOf taken.swi.lid.level taken.swi.hinge.level
        t = route (match i with | .lid => .lid | .hinge => .tablet) 0 (if l then 0 else 1) u ∧
        u = { taken with kms := u.kms, evr := u.evr, fnc := u.fnc } ∧
        (set = s.fnc.set → u.fnc = s.fnc) ∧
        (set ≠ s.fnc.set → u.fnc = { s.fnc with
          set := set
          fans := ⟨{ s.fnc.fans.one with fresh := true }, { s.fnc.fans.two with fresh := true }⟩ }) ∧
        (s.kms.gated = false → gate = true →
          u.evr = releases.foldl (fun e r => e.placeNormal (.key r)) s.evr ∧
          u.kms =
            { s.kms with
              positions := u.kms.positions
              gated := true
              countdown := none
              firstPass := true
              exited := false } ∧
          ∀ p, (held p → u.kms.positions.get p = ⟨.up, 0, 0, (s.kms.positions.get p).layer, false, false⟩) ∧
            (¬ held p → u.kms.positions.get p = { s.kms.positions.get p with state := .up, count := 0 })) ∧
        (s.kms.gated = true ∨ gate = false → u.evr = s.evr) ∧
        (s.kms.gated = true → gate = false →
          (s.ssc.state ≠ .off →
            u.kms = { s.kms with gated := false, countdown := some 1, firstPass := true, exited := true }) ∧
          (s.ssc.state = .off → u.kms = { s.kms with gated := false })) ∧
        (s.kms.gated = gate → u.kms = s.kms))) ∧
  ∀ (s : State) (pressed : Bool),
    let x := s.swi.pwrbtn
    (x.due = false ∨ x.level = none → exec .pwrbtnDebounceComplete s = .next s) ∧
    (x.due = true → x.level = some (!pressed) → exec .pwrbtnDebounceComplete s =
      .next (route .powerButton 0 (if pressed then 1 else 0)
        { s with
          swi := { s.swi with
            pwrbtn := { x with level := some pressed, run := 0, due := false }
            holdStage := if pressed then .counting else .idle
            holdCount := 0
            holdRunning := pressed } }))

/-- Section 7.3: the hold timer counts while it runs (saturated at 10,000, log 20); at 4000 in COUNTING the hold is
reported with POWER_BUTTON_HOLD; at 10,000 in REPORTED the timer stops and, outside OFF, the system is forced OFF:
FORCED_OFF with source 0 and the cause BUTTON, 1, as value comes first, then STATE_CHANGE with OFF's code, 0, as value,
then the synthetic RELEASE records of the announced positions that are held, in ascending order, and no other record. Under
a policy that queues both codes as URGENT, and with neither waiting, the two records stand last in that order in the urgent
queue. (The completions are commands of their own, log 2.) -/
def Obligations.PowerButtonHoldsAreReportedAndForceOff : Prop :=
  (∀ (raw : SwitchLevels) (s t : State), exec (.tickExpiry raw) s = .next t →
    t.swi.holdStage = s.swi.holdStage ∧ t.swi.holdRunning = s.swi.holdRunning ∧
    t.swi.holdCount = if s.swi.holdRunning then min 10000 (s.swi.holdCount + 1) else s.swi.holdCount) ∧
  ∀ s : State,
    let spent : State := { s with swi := { s.swi with holdStage := .spent, holdRunning := false } }
    (s.swi.holdStage ≠ .counting ∨ s.swi.holdCount < 4000 → exec .powerButtonHold s = .next s) ∧
    (s.swi.holdStage = .counting → 4000 ≤ s.swi.holdCount → exec .powerButtonHold s =
      .next (route .powerButtonHold 0 0 { s with swi := { s.swi with holdStage := .reported } })) ∧
    (s.swi.holdStage ≠ .reported ∨ s.swi.holdCount < 10000 → exec .hold10sExpiry s = .next s) ∧
    (s.swi.holdStage = .reported → 10000 ≤ s.swi.holdCount →
      (s.ssc.state = .off → exec .hold10sExpiry s = .next spent) ∧
      (s.ssc.state ≠ .off → PolicyLegal s.evr →
        let held := fun (p : Fin 144) =>
          (s.kms.positions.get p).state = .down ∨ (s.kms.positions.get p).state = .releaseDebounce
        let releases : List KeyRecord :=
          ((List.finRange 144).filter fun p => decide (held p ∧ (s.kms.positions.get p).announced = true)).map fun p =>
            ⟨p, (s.kms.positions.get p).code, true, (s.kms.positions.get p).layer, true, s.tmb.ms⟩
        let off : State := { spent with ssc := { s.ssc with state := .off, sysen := false, wake := false } }
        let forced := s.evr.policy.get EventCode.forcedOff.idx
        let changed := s.evr.policy.get EventCode.stateChange.idx
        ∃ t, exec .hold10sExpiry s = .next t ∧ OffEntered spent t ∧ Tallied .forcedOff s t ∧
          t.evr = releases.foldl (fun e r => e.placeNormal (.key r))
            (route .stateChange 0 0 (route .forcedOff 0 1 off)).evr ∧
          (forced.cls = .urgent → changed.cls = .urgent →
            (∀ r ∈ s.evr.urgent, r.code ≠ .forcedOff ∧ r.code ≠ .stateChange) →
            t.evr.urgent = s.evr.urgent ++
              [⟨.forcedOff, 0, 1, forced.wake, false, false, s.tmb.ms, 1⟩,
                ⟨.stateChange, 0, 1, changed.wake, false, false, s.tmb.ms, 0⟩])))

/-! ## The fans -/

/-- Section 8.4: every 100 ms each fan's governing temperature is the highest usable source of its curve; in FULL the
reference follows it and the curve is read, or without a source the failsafe duty stands in; the demand is 1000 under
FAN_FULL, else the larger of curve and override duty, raised to the minimum running duty unless 0; in QUIET it is 0 but
under FAN_FULL (log 22). The demand then acts by the fan's state. That an evaluation whose countdown does not stand at 0
changes nothing is the model's reading (log 2). -/
def Obligations.EvaluationFormsEachDemand : Prop :=
  ∀ s : State,
    (s.fnc.evalCountdown ≠ 0 → exec .fanEvaluation s = .next s) ∧
    (s.fnc.evalCountdown = 0 → CurvesOk s.fnc → ∃ t, exec .fanEvaluation s = .next t ∧
      t = { s with fnc := { s.fnc with evalCountdown := 100, fans := t.fnc.fans } } ∧
      ∀ f : Fan,
        let c := (s.fnc.curves.get f).get (match s.fnc.set with | .openSet => 0 | .closed => 1 | .tablet => 2)
        let x := s.fnc.fans.get f
        let channel := fun (named : Bool) (ch : Fin 16) =>
          if named = true ∧ (s.sws.latest.get ch).valid = true ∧ (s.sws.latest.get ch).clamped = false then
            [(s.sws.latest.get ch).value] else []
        let host := fun (named : Bool) (i : Fin 4) =>
          if named = true ∧ (s.fnc.slots.get i).refreshed = true ∧ s.ssc.state ≠ .off ∧ s.ssc.state ≠ .standby then
            [(s.fnc.slots.get i).value] else []
        let m := c.sources
        let usable : List Int := channel m.tch 10 ++ channel m.tsk 11 ++ channel m.tfz 12 ++ host m.h0 0 ++ host m.h1 1 ++
          host m.h2 2 ++ host m.h3 3
        let full := Action.fanFull ∈ s.lmt.actionSet
        let demand := fun (duty : Nat) =>
          if full then 1000
          else if max duty s.fnc.overrideDuty = 0 then 0 else max (max duty s.fnc.overrideDuty) c.minDuty
        (s.ssc.mode = .full → usable = [] →
          t.fnc.fans.get f =
            { x with curveDuty := c.failsafe, governing := none }.setDemand (demand c.failsafe)) ∧
        (s.ssc.mode = .full → ∀ v ∈ usable, (∀ u ∈ usable, u ≤ v) →
          let r := moveReference x.fresh x.reference v c.hyst
          let d := curveValue c.points r
          t.fnc.fans.get f =
            { x with reference := r, fresh := false, curveDuty := d, governing := some v }.setDemand (demand d)) ∧
        (s.ssc.mode = .quiet →
          t.fnc.fans.get f =
            { x with curveDuty := 0, governing := none }.setDemand (if full then 1000 else 0)))

/-- Section 8.4's reading rules. The reference takes a fresh or a rising temperature, follows a falling one at the
hysteresis distance, and else is kept. The curve value is the first duty up to the first point, the last from the last
point on, and between two points on the straight line rounded toward the first of them; it stays within the duties. The
default curve gives the manual's table. -/
def Obligations.CurveIsReadBetweenItsPoints : Prop :=
  (∀ (fresh : Bool) (r t : Int) (hyst : Nat),
    (fresh = true ∨ r < t → moveReference fresh r t hyst = t) ∧
    (fresh = false → t < r - hyst → moveReference fresh r t hyst = t + hyst) ∧
    (fresh = false → r - hyst ≤ t → t ≤ r → moveReference fresh r t hyst = r) ∧
    t ≤ moveReference fresh r t hyst ∧ moveReference fresh r t hyst ≤ max r t + hyst) ∧
  (∀ (points : List (Int × Nat)) (r : Int), ascending points = true → points ≠ [] →
    (∀ p, points.head? = some p → r ≤ p.1 → curveValue points r = p.2) ∧
    (∀ p, points.getLast? = some p → p.1 ≤ r → curveValue points r = p.2) ∧
    (∀ (i : Nat) (p q : Int × Nat), points[i]? = some p → points[i + 1]? = some q → p.1 ≤ r → r < q.1 →
      (curveValue points r : Int) = p.2 + ((r - p.1) * ((q.2 : Int) - p.2)).tdiv (q.1 - p.1)) ∧
    (∀ top : Nat, (∀ p ∈ points, p.2 ≤ top) → curveValue points r ≤ top)) ∧
  ([380, 400, 401, 420, 612, 845, 900].map (curveValue [(400, 0), (550, 350), (700, 700), (850, 1000)])) =
    [0, 0, 2, 46, 494, 990, 1000]

/-- Section 8.5: the drive duty of each fan state, the demand's table, and the end of a kick. That a fan in STALL_LOCKOUT
takes the demand without acting on it is the model's reading (log 22), and so is that a KICK_END not due changes nothing
(log 2). -/
def Obligations.DemandActsByTheFanState : Prop :=
  (∀ (x : FanState) (d : Nat),
    (x.state = .off ∨ x.state = .stallLockout → x.drive = 0) ∧
    (x.state = .kick ∨ x.state = .stallRetry → x.drive = 1000) ∧ (x.state = .running → x.drive = x.demand) ∧
    (x.state = .off → d ≠ 0 → x.setDemand d = { x with demand := d, state := .kick, kickTimer := some 300 }) ∧
    (x.state = .running → d = 0 → x.setDemand d = { x with demand := 0, state := .off }) ∧
    (x.state = .stallRetry → d = 0 →
      x.setDemand d = { x with demand := 0, state := .off, retries := 0, kickTimer := none }) ∧
    (x.state = .kick ∨ x.state = .stallLockout ∨ (x.state = .off ∧ d = 0) ∨ (x.state = .running ∧ d ≠ 0) ∨
      (x.state = .stallRetry ∧ d ≠ 0) → x.setDemand d = { x with demand := d })) ∧
  ∀ (f : Fan) (s : State),
    let x := s.fnc.fans.get f
    (x.state ≠ .kick ∨ x.kickTimer ≠ some 0 → exec (.kickEnd f) s = .next s) ∧
    (x.state = .kick → x.kickTimer = some 0 →
      (x.demand = 0 → exec (.kickEnd f) s = .next (setFan f { x with state := .off, kickTimer := none } s)) ∧
      (x.demand ≠ 0 → exec (.kickEnd f) s =
        .next (setFan f
          { x with
            state := .running
            kickTimer := none
            silenceTimer := if s.ssc.mode = .full then some 1000 else x.silenceTimer } s)))

/-- Sections 8.6, 8.3 and 8.4's override: a second of tach silence marks the fan silent and, in RUNNING with the stall
check on, stalls it; two further 500 ms retries follow, then lockout. A host slot not refreshed for 5 s is stale; the
override ends with its timer. That each of the four commands (TACH_SILENCE_TIMEOUT, RETRY_KICK_END, HOST_TEMP_STALE,
OVERRIDE_EXPIRY) changes nothing while it is not due is the model's reading (log 2). -/
def Obligations.FanAndHostTimersExpire : Prop :=
  (∀ (f : Fan) (s : State),
    let x := s.fnc.fans.get f
    let silent := setFan f { x with silent := true, silenceTimer := none } s
    (x.silenceTimer ≠ some 0 → exec (.tachSilenceTimeout f) s = .next s) ∧
    (x.silenceTimer = some 0 → x.state ≠ .running ∨ (s.fnc.configs.get f).stallCheck = false →
      exec (.tachSilenceTimeout f) s = .next silent) ∧
    (x.silenceTimer = some 0 → x.state = .running → (s.fnc.configs.get f).stallCheck = true → PolicyLegal s.evr →
      exec (.tachSilenceTimeout f) s =
        .next (setFan f
          { x with
            silent := true
            silenceTimer := none
            state := .stallRetry
            retries := 1
            kickTimer := some 500 } (route .fanStall (fanNum f) 0 silent))) ∧
    (x.state ≠ .stallRetry ∨ x.kickTimer ≠ some 0 → exec (.retryKickEnd f) s = .next s) ∧
    (x.state = .stallRetry → x.kickTimer = some 0 → x.retries < 3 → exec (.retryKickEnd f) s =
      .next (setFan f { x with retries := x.retries + 1, kickTimer := some 500 } s)) ∧
    (x.state = .stallRetry → x.kickTimer = some 0 → 3 ≤ x.retries → exec (.retryKickEnd f) s =
      .next (route .fanLockout (fanNum f) 3
        (setFan f { x with state := .stallLockout, kickTimer := none } s)))) ∧
  (∀ (i : Fin 4) (s : State),
    let x := s.fnc.slots.get i
    (x.timer ≠ some 0 → exec (.hostTempStale i) s = .next s) ∧
    (x.timer = some 0 → exec (.hostTempStale i) s =
      .next (route .hostTempStale i.val x.value
        { s with fnc := { s.fnc with slots := s.fnc.slots.set i ⟨x.value, false, none⟩ } }))) ∧
  ∀ s : State,
    (s.fnc.overrideTimer ≠ some 0 → exec .overrideExpiry s = .next s) ∧
    (s.fnc.overrideTimer = some 0 → exec .overrideExpiry s =
      .next { s with fnc := { s.fnc with overrideDuty := 0, overrideTimer := none } })

/-! ## Events and the system state -/

/-- Sections 10.1 to 10.5: an event is tallied and placed by its class with the flags the policy holds: NONE nowhere, NORMAL
at the normal queue's tail or discarded and counted, URGENT at the tail or gathered into its code's record. Where SSC does
not act nothing else changes; where it does, the record placed carries ACTED, the STATE_CHANGE of the start or wake (value 1
or 5) is tallied and placed after it, and else only what a start or a wake moves changes. A key record arrives at the normal
queue in the same way, and one that is discarded sets the key mark. -/
def Obligations.EventsAreTalliedAndPlaced : Prop :=
  (∀ (e : Evr) (k : KeyRecord),
    (e.normalState = .opened → e.normal.length < 32 →
      e.placeNormal (.key k) = { e with normal := e.normal ++ [.key k] }) ∧
    (e.normalState = .opened → 32 ≤ e.normal.length →
      e.placeNormal (.key k) = { e with normalState := .overflowed, discarded := 1, keyMark := true }) ∧
    (e.normalState = .overflowed → e.placeNormal (.key k) =
      { e with discarded := if e.discarded < 255 then e.discarded + 1 else 255, keyMark := true })) ∧
  ∀ (c : EventCode) (source : Nat) (value : Int) (s : State),
    let t := route c source value s
    let policy : Policy := if c = .gap then ⟨.normal, false, false⟩ else s.evr.policy.get c.idx
    let qualified := (c = .powerButton → value = 1) ∧ (c = .lid ∨ c = .tablet → value = 0)
    let acts := qualified ∧ ((s.ssc.state = .off ∧ policy.start = true ∧ s.ssc.critical = false) ∨
      (s.ssc.state = .standby ∧ policy.wake = true))
    let tallied : Evr := { s.evr with
      tally := s.evr.tally.set c.idx
        (if s.evr.tally.get c.idx < 255 then s.evr.tally.get c.idx + 1 else 255) }
    let r : EventRecord := ⟨c, source, 1, policy.wake, policy.start, false, s.tmb.ms, value⟩
    let started : State := { s with ssc := { s.ssc with state := if s.ssc.state = .off then .booting else .waking } }
    let moved := fun (e : Evr) => route .stateChange 0 (if s.ssc.state = .off then 1 else 5) { started with evr := e }
    EventFrame s t ∧
    (acts →
      (policy.cls = .none → t.evr = (moved tallied).evr) ∧
      (policy.cls = .normal → s.evr.normalState = .opened → s.evr.normal.length < 32 →
        t.evr = (moved { tallied with normal := s.evr.normal ++ [.event { r with acted := true }] }).evr) ∧
      (policy.cls = .normal → s.evr.normalState = .opened → 32 ≤ s.evr.normal.length →
        t.evr = (moved { tallied with normalState := .overflowed, discarded := 1, keyMark := false }).evr) ∧
      (policy.cls = .normal → s.evr.normalState = .overflowed →
        t.evr = (moved { tallied with
          discarded := if s.evr.discarded < 255 then s.evr.discarded + 1 else 255 }).evr) ∧
      (policy.cls = .urgent → (∀ x ∈ s.evr.urgent, x.code ≠ c) →
        t.evr = (moved { tallied with urgent := s.evr.urgent ++ [{ r with acted := true }] }).evr) ∧
      (policy.cls = .urgent → (∃ x ∈ s.evr.urgent, x.code = c) →
        t.evr = (moved { tallied with
          urgent := s.evr.urgent.map fun x => if x.code = c then
            { x with
              count := if x.count < 255 then x.count + 1 else 255
              source := source
              value := value
              wake := x.wake || policy.wake
              start := x.start || policy.start
              acted := true } else x }).evr)) ∧
    (¬ acts →
      (policy.cls = .none → t = { s with evr := tallied }) ∧
      (policy.cls = .normal → s.evr.normalState = .opened → s.evr.normal.length < 32 →
        t = { s with evr := { tallied with normal := s.evr.normal ++ [.event r] } }) ∧
      (policy.cls = .normal → s.evr.normalState = .opened → 32 ≤ s.evr.normal.length →
        t = { s with evr := { tallied with normalState := .overflowed, discarded := 1, keyMark := false } }) ∧
      (policy.cls = .normal → s.evr.normalState = .overflowed →
        t = { s with evr := { tallied with
          discarded := if s.evr.discarded < 255 then s.evr.discarded + 1 else 255 } }) ∧
      (policy.cls = .urgent → (∀ x ∈ s.evr.urgent, x.code ≠ c) →
        t = { s with evr := { tallied with urgent := s.evr.urgent ++ [r] } }) ∧
      (policy.cls = .urgent → (∃ x ∈ s.evr.urgent, x.code = c) →
        t = { s with evr := { tallied with
          urgent := s.evr.urgent.map fun x => if x.code = c then
            { x with
              count := if x.count < 255 then x.count + 1 else 255
              source := source
              value := value
              wake := x.wake || policy.wake
              start := x.start || policy.start } else x } })) ∧
    (acts → c ≠ .stateChange → policy.cls = .urgent → ∃ x ∈ t.evr.urgent, x.code = c ∧ x.acted = true)

/-- Section 9.2: a qualified event with START set starts the system from OFF while the critical flag is clear; one with WAKE
set wakes it from STANDBY; in every other state, and otherwise, it moves nothing. A start brings SYSEN, 30 s of boot time,
FULL, and the scanner unless the keyboard is gated; a wake brings WAKE and 10 s; the wake cause is the event's code, and
STATE_CHANGE follows. -/
def Obligations.EventsStartAndWakeTheSystem : Prop :=
  ∀ (c : EventCode) (source : Nat) (value : Int) (s : State),
    let t := route c source value s
    let policy : Policy := if c = .gap then ⟨.normal, false, false⟩ else s.evr.policy.get c.idx
    let qualified := (c = .powerButton → value = 1) ∧ (c = .lid ∨ c = .tablet → value = 0)
    (s.ssc.state = .off → policy.start = true → qualified → s.ssc.critical = false →
      t.ssc = { s.ssc with
        state := .booting
        sysen := true
        wake := false
        bootTimer := some 30000
        wakeCause := c.num
        mode := .full } ∧
      (s.kms.gated = false → t.kms = { s.kms with countdown := some 1, firstPass := true }) ∧
      (s.kms.gated = true → t.kms = s.kms) ∧
      (s.ssc.mode = .quiet →
        t.tmb.capture = ⟨⟨true, 0, false⟩, ⟨true, 0, false⟩⟩ ∧ t.sws.countdown = min s.sws.countdown 1 ∧
          t.fnc.evalCountdown = min s.fnc.evalCountdown 1) ∧
      (c ≠ .stateChange → Tallied c s t ∧ Tallied .stateChange s t)) ∧
    (s.ssc.state = .standby → policy.wake = true → qualified →
      t.ssc = { s.ssc with
        state := .waking
        sysen := true
        wake := true
        wakeTimer := some 10000
        wakeCause := c.num } ∧
      t.kms = { s.kms with countdown := s.kms.countdown.map (min · 1) } ∧ t.fnc = s.fnc ∧ t.sws = s.sws ∧
      (c ≠ .stateChange → Tallied c s t ∧ Tallied .stateChange s t)) ∧
    ((s.ssc.state = .off → ¬ (policy.start = true ∧ qualified ∧ s.ssc.critical = false)) →
      (s.ssc.state = .standby → ¬ (policy.wake = true ∧ qualified)) → t = { s with evr := t.evr })

/-- Section 9.2's law: the system does not leave OFF while the critical flag is set, whatever the command, but by a reset,
which leaves it OFF. -/
def Obligations.NoStartWhileBatteryIsCritical : Prop :=
  ∀ (c : Instr) (s t : State), QueueLaw s → s.ssc.state = .off → s.ssc.critical = true → exec c s = .next t →
    t.ssc.state = .off

/-- Sections 9.3 to 9.6: the boot, halt and grace timers take the system to OFF, the boot timer with BOOT_TIMEOUT, the halt
timer without FORCED_OFF, the grace with FORCED_OFF and the critical flag kept; the wake timer takes it back to STANDBY with
WAKE_TIMEOUT (where the policy does not wake it again by the very events of that move, log 16). That BOOT_TIMEOUT,
HALT_TIMER_EXPIRY, CRITICAL_GRACE_EXPIRY and WAKE_TIMEOUT change nothing while they are not due is the model's reading
(log 2). -/
def Obligations.SystemTimersMoveTheState : Prop :=
  ∀ s : State,
    (s.ssc.state ≠ .booting ∨ s.ssc.bootTimer ≠ some 0 → exec .bootTimeout s = .next s) ∧
    (s.ssc.state = .booting → s.ssc.bootTimer = some 0 → PolicyLegal s.evr →
      ∃ t, exec .bootTimeout s = .next t ∧ OffEntered s t ∧ Tallied .bootTimeout s t) ∧
    (s.ssc.state ≠ .halting ∨ s.ssc.haltTimer ≠ some 0 → exec .haltTimerExpiry s = .next s) ∧
    (s.ssc.state = .halting → s.ssc.haltTimer = some 0 → PolicyLegal s.evr →
      ∃ t, exec .haltTimerExpiry s = .next t ∧ OffEntered s t ∧
        t.evr.tally.get EventCode.forcedOff.idx = s.evr.tally.get EventCode.forcedOff.idx) ∧
    (s.ssc.graceTimer ≠ some 0 → exec .criticalGraceExpiry s = .next s) ∧
    (s.ssc.graceTimer = some 0 → s.ssc.state = .off →
      exec .criticalGraceExpiry s = .next { s with ssc := { s.ssc with graceTimer := none } }) ∧
    (s.ssc.graceTimer = some 0 → s.ssc.state ≠ .off → PolicyLegal s.evr →
      ∃ t, exec .criticalGraceExpiry s = .next t ∧
        OffEntered { s with ssc := { s.ssc with graceTimer := none } } t ∧ Tallied .forcedOff s t ∧
        t.ssc.critical = s.ssc.critical) ∧
    (s.ssc.state ≠ .waking ∨ s.ssc.wakeTimer ≠ some 0 → exec .wakeTimeout s = .next s) ∧
    (s.ssc.state = .waking → s.ssc.wakeTimer = some 0 →
      (s.evr.policy.get EventCode.wakeTimeout.idx).wake = false →
      (s.evr.policy.get EventCode.stateChange.idx).wake = false →
      ∃ t, exec .wakeTimeout s = .next t ∧ t = { s with ssc := t.ssc, evr := t.evr } ∧
        t.ssc = { s.ssc with state := .standby, sysen := true, wake := false, wakeTimer := none } ∧
        Tallied .wakeTimeout s t ∧ Tallied .stateChange s t)

/-- Section 9.3: ONLINE takes BOOTING and WAKING to RUN and the link UP, cancelling a pending link-down, repeats in RUN, and
is refused elsewhere; SLEEP takes RUN to STANDBY with a link-down tied to its reply, and is refused elsewhere; POWER_OFF
starts 200 ms of HALTING from RUN, BOOTING and WAKING, and is refused elsewhere. ONLINE's reply carries the system state,
the start and wake causes, the part mode and the two battery flags. A request that carries arguments is answered BAD_LENGTH.
The move of SLEEP is stated where the policy gives STATE_CHANGE no WAKE: with it, the event of that very move would wake
the system again, which is the model's reading (log 16). -/
def Obligations.HostMovesTheSystemState : Prop :=
  ∀ (s : State) (tag : Nat),
    (∀ x : Ssc, onlineBytes x = [BitVec.ofNat 8 x.state.num, BitVec.ofNat 8 x.startCause.num, BitVec.ofNat 8 x.wakeCause,
      BitVec.ofNat 8 x.mode.num, BitVec.ofNat 8 (x.low.toNat + 2 * x.critical.toNat)]) ∧
    (∀ args : List Byte, args ≠ [] →
      (RequestAtHead s 0x01 args tag → exec .online s = .next (answered tag .badLength [] s)) ∧
      (RequestAtHead s 0x02 args tag → exec .sleep s = .next (answered tag .badLength [] s)) ∧
      (RequestAtHead s 0x03 args tag → exec .powerOff s = .next (answered tag .badLength [] s))) ∧
    (RequestAtHead s 0x01 [] tag →
      (s.ssc.state = .off ∨ s.ssc.state = .halting ∨ s.ssc.state = .standby →
        exec .online s = .next (answered tag .notNow [] s)) ∧
      (s.ssc.state = .run → exec .online s = .next (answered tag .ok (onlineBytes s.ssc) s)) ∧
      (s.ssc.state = .booting ∨ s.ssc.state = .waking → ∃ t, exec .online s = .next t ∧
        t.ssc =
          { s.ssc with state := .run, sysen := true, wake := false, bootTimer := none, wakeTimer := none } ∧
        t.slc =
          { s.slc with
            linkUp := true
            requests := s.slc.requests.tail
            replies := untied s.slc.replies ++ [⟨tag, .ok, onlineBytes t.ssc, false⟩] } ∧
        t = { s with ssc := t.ssc, slc := t.slc, evr := t.evr } ∧ Tallied .stateChange s t)) ∧
    (RequestAtHead s 0x02 [] tag →
      (s.ssc.state ≠ .run → exec .sleep s = .next (answered tag .notNow [] s)) ∧
      (s.ssc.state = .run → (s.evr.policy.get EventCode.stateChange.idx).wake = false →
        ∃ t, exec .sleep s = .next t ∧
          t.ssc = { s.ssc with state := .standby, sysen := true, wake := false } ∧
          t.slc =
            { s.slc with
              requests := s.slc.requests.tail
              replies := s.slc.replies ++ [⟨tag, .ok, [4], true⟩] } ∧
          t = { s with ssc := t.ssc, slc := t.slc, evr := t.evr } ∧ Tallied .stateChange s t)) ∧
    (RequestAtHead s 0x03 [] tag →
      (s.ssc.state = .off ∨ s.ssc.state = .halting ∨ s.ssc.state = .standby →
        exec .powerOff s = .next (answered tag .notNow [] s)) ∧
      (s.ssc.state = .run ∨ s.ssc.state = .booting ∨ s.ssc.state = .waking → ∃ t, exec .powerOff s = .next t ∧
        t.ssc =
          { s.ssc with
            state := .halting
            sysen := true
            wake := false
            bootTimer := none
            wakeTimer := none
            haltTimer := some 200 } ∧
        t.slc =
          { s.slc with
            requests := s.slc.requests.tail
            replies := s.slc.replies ++ [⟨tag, .ok, [3], false⟩] } ∧
        t = { s with ssc := t.ssc, slc := t.slc, evr := t.evr } ∧ Tallied .stateChange s t))

/-! ## The service link -/

/-- Sections 11.1 and 11.3: a good REQUEST or PASS frame enters the buffer of four, or is lost with the overrun flag and
LINK_ERROR 5; every frame in error is counted and reported with its kind: check 1, length 2, kind 3, gap 4. That both
SERVICE_FRAME rows carry the bytes that arrive, and that one receiver takes them, is the model's choice (log 8); that a
SERVICE_GAP_TIMEOUT not due changes nothing is its reading (log 2). -/
def Obligations.ServiceFramesAreBufferedOrCounted : Prop :=
  ∀ (s : State) (tag : Nat) (bs : List Byte), tag < 16 → bs.length ≤ 60 →
    let sat := fun (n : Nat) => if n < 255 then n + 1 else 255
    let heard : Slc := { s.slc with rx := .hunting, gapTimer := none }
    let framing := fun (kind : Int) =>
      route .linkError 0 kind { s with slc := { heard with framingErrors := sat s.slc.framingErrors } }
    (s.slc.rx = .hunting →
      (s.slc.requests.length < 4 →
        exec (.serviceFrameReceived (frameBytes 0x8 tag bs)) s =
            .next { s with slc := { heard with requests := s.slc.requests ++ [⟨.request, tag, bs⟩] } } ∧
          exec (.serviceFrameReceived (frameBytes 0x9 tag bs)) s =
            .next { s with slc := { heard with requests := s.slc.requests ++ [⟨.pass, tag, bs⟩] } }) ∧
      (4 ≤ s.slc.requests.length → ∀ kind, kind = 0x8 ∨ kind = 0x9 →
        exec (.serviceFrameReceived (frameBytes kind tag bs)) s =
          .next (route .linkError 0 5 { s with slc := { heard with overrun := true } })) ∧
      (∀ kind, kind < 16 → kind ≠ 0x8 → kind ≠ 0x9 →
        exec (.serviceFrameError (frameBytes kind tag bs)) s = .next (framing 3)) ∧
      (∀ (h l : Byte), 60 < l.toNat → exec (.serviceFrameError [syncByte, h, l]) s = .next (framing 2)) ∧
      (∀ (kind : Nat) (c : BitVec 16), c ≠ crc16 (frameBody kind tag bs) →
        exec (.serviceFrameError (syncByte :: frameBody kind tag bs ++ [(c >>> 8).setWidth 8, c.setWidth 8])) s =
          .next (route .linkError 0 1
            { s with slc := { heard with checkErrors := sat s.slc.checkErrors } }))) ∧
    (s.slc.gapTimer ≠ some 0 → exec .serviceGapTimeout s = .next s) ∧
    (∀ taken, s.slc.gapTimer = some 0 → s.slc.rx = .inFrame taken →
      exec .serviceGapTimeout s = .next (framing 4))

/-- Sections 10.4 to 10.6, 11.2 and 11.3: the free transmitter takes the head reply in either link state, then, while the link is
UP, the head of the urgent queue, the head of the normal queue (with the GAP of an overflow appended when 16 or fewer are
left), and the bulk slot of the rotation. A reply's frames leave back to back; with its last the reply leaves the queue, and
a SLEEP reply takes the link DOWN. The first two clauses give the 12 bytes of an event record and the 7 of a key record
(flag bits that section 11.2 does not name travel as 0, log 11). -/
def Obligations.TransmitterTakesInOrder : Prop :=
  (∀ r : EventRecord, eventBytes r =
    [BitVec.ofNat 8 r.code.num, BitVec.ofNat 8 r.source, BitVec.ofNat 8 r.count,
      BitVec.ofNat 8 (r.wake.toNat + 2 * r.start.toNat + 4 * r.acted.toNat),
      BitVec.ofNat 8 (r.stamp.toNat / 16777216), BitVec.ofNat 8 (r.stamp.toNat / 65536),
      BitVec.ofNat 8 (r.stamp.toNat / 256), BitVec.ofNat 8 r.stamp.toNat,
      BitVec.ofInt 8 (r.value / 16777216), BitVec.ofInt 8 (r.value / 65536), BitVec.ofInt 8 (r.value / 256),
      BitVec.ofInt 8 r.value]) ∧
  (∀ k : KeyRecord, keyBytes k =
    [BitVec.ofNat 8 k.position.val, BitVec.ofNat 8 k.code,
      BitVec.ofNat 8 (k.release.toNat + 2 * (decide (k.layer = .fn)).toNat + 4 * k.synthetic.toNat),
      BitVec.ofNat 8 (k.stamp.toNat / 16777216), BitVec.ofNat 8 (k.stamp.toNat / 65536),
      BitVec.ofNat 8 (k.stamp.toNat / 256), BitVec.ofNat 8 k.stamp.toNat]) ∧
  ∀ s : State,
    let up := s.slc.linkUp = true
    let sends := fun (source : TxSource) (frame : List Byte) (t : State) =>
      exec .transmitStart s = .next { t with slc := { t.slc with tx := some ⟨source, [frame]⟩ } }
    (s.slc.tx ≠ none → exec .transmitStart s = .next s) ∧
    (s.slc.tx = none →
      (∀ r, s.slc.replies.head? = some r → exec .transmitStart s =
        .next { s with slc := { s.slc with tx := some ⟨.reply, replyFrames r⟩ } }) ∧
      (s.slc.replies = [] →
        (¬ up → exec .transmitStart s = .next s) ∧
        (up → ∀ r, s.evr.urgent.head? = some r →
          sends .urgent (frameBytes 2 3 (eventBytes r))
            { s with evr := { s.evr with urgent := s.evr.urgent.tail } }) ∧
        (up → s.evr.urgent = [] → ∀ r, s.evr.normal.head? = some r →
          let frame := match r with | .event e => frameBytes 2 2 (eventBytes e) | .key k => frameBytes 3 2 (keyBytes k)
          (s.evr.normalState = .opened ∨ 17 < s.evr.normal.length →
            sends .normal frame { s with evr := { s.evr with normal := s.evr.normal.tail } }) ∧
          (s.evr.normalState = .overflowed → s.evr.normal.length ≤ 17 →
            let n := s.evr.tally.get EventCode.gap.idx
            sends .normal frame { s with
              evr := { s.evr with
                normal := s.evr.normal.tail ++ [.event ⟨.gap, 0, 1, false, false, false, s.tmb.ms,
                  s.evr.discarded + (if s.evr.keyMark = true then 256 else 0)⟩]
                normalState := .opened
                discarded := 0
                keyMark := false
                tally := s.evr.tally.set EventCode.gap.idx (if n < 255 then n + 1 else 255) }
              kms := if s.evr.keyMark = true then
                { s.kms with positions := s.kms.positions.map fun x => { x with announced := false } } else s.kms })) ∧
        (up → s.evr.urgent = [] → s.evr.normal = [] →
          let order : List BulkSlot := match s.evr.rotation with
            | .relayA => [.relayA, .relayB, .telemetry]
            | .relayB => [.relayB, .telemetry, .relayA]
            | .telemetry => [.telemetry, .relayA, .relayB]
          ((∀ b, s.evr.bulk b = none) → exec .transmitStart s = .next s) ∧
          ∀ (i : Nat) (b : BulkSlot) (bs : List Byte), order[i]? = some b → s.evr.bulk b = some bs →
            (∀ (j : Nat) (d : BulkSlot), j < i → order[j]? = some d → s.evr.bulk d = none) →
            let emptied : Evr := match b with
              | .relayA => { s.evr with relayA := none, rotation := .relayB }
              | .relayB => { s.evr with relayB := none, rotation := .telemetry }
              | .telemetry => { s.evr with telemetry := none, rotation := .relayA }
            sends .bulk (match b with
              | .relayA => frameBytes 5 0 bs
              | .relayB => frameBytes 5 1 bs
              | .telemetry => frameBytes 4 1 bs) { s with evr := emptied }))) ∧
    (s.slc.tx = none → exec .transmitEnd s = .next s) ∧
    (∀ x, s.slc.tx = some x →
      (∀ a b rest, x.frames = a :: b :: rest →
        exec .transmitEnd s = .next { s with slc := { s.slc with tx := some ⟨x.source, b :: rest⟩ } }) ∧
      (x.frames.length ≤ 1 → x.source ≠ .reply →
        exec .transmitEnd s = .next { s with slc := { s.slc with tx := none } }) ∧
      (x.frames.length ≤ 1 → x.source = .reply → ∀ r rest, s.slc.replies = r :: rest →
        exec .transmitEnd s = .next { s with
          slc := { s.slc with tx := none, replies := rest, linkUp := s.slc.linkUp && !r.linkDown } }))

/-- Sections 11.3 and 11.4: a REQUEST without a number is answered BAD_LENGTH and one with an unknown number
UNKNOWN_REQUEST, by SLC; other heads do not concern it. RESTART_LINK empties the buffer, the reply queue but for a reply
already being sent, the event queues, the tallies and the bulk slots, clears the error counts and every announced mark, and
marks or drops the pass-throughs; its own reply follows, and the receiver, the tables and the system state stay. One that carries arguments is answered
BAD_LENGTH. -/
def Obligations.UnknownIsAnsweredAndRestartClears : Prop :=
  (∀ (s : State) (tag : Nat) (bs : List Byte), s.slc.requests.head? = some ⟨.request, tag, bs⟩ →
    replyRoom s = true →
    (bs = [] → exec .unknownRequest s = .next (answered tag .badLength [] s)) ∧
    (∀ n rest, bs = n :: rest →
      (n ∉ ([0x01, 0x02, 0x03, 0x04, 0x05, 0x06, 0x07, 0x08, 0x09, 0x0A, 0x0B, 0x0C, 0x0D, 0x10, 0x11, 0x12, 0x13, 0x14,
          0x15, 0x16, 0x17, 0x18, 0x19, 0x20, 0x21, 0x22, 0x23, 0x24, 0x25, 0x26, 0x27, 0x28, 0x29, 0x2A,
          0x2B] : List Byte) →
        exec .unknownRequest s = .next (answered tag .unknownRequest [] s)) ∧
      ((∃ c num, requestNumber c = some num ∧ n = BitVec.ofNat 8 num) → exec .unknownRequest s = .next s))) ∧
  (∀ (s : State) (tag : Nat) (args : List Byte), args ≠ [] → RequestAtHead s 0x04 args tag →
    exec .restartLink s = .next (answered tag .badLength [] s)) ∧
  ∀ (s : State) (tag : Nat), RequestAtHead s 0x04 [] tag → ∃ t, exec .restartLink s = .next t ∧
    let sending := ∃ x, s.slc.tx = some x ∧ x.source = .reply
    t.slc.requests = [] ∧
    (sending → t.slc.replies = s.slc.replies.take 1 ++ [⟨tag, .ok, [], false⟩]) ∧
    (¬ sending → t.slc.replies = [⟨tag, .ok, [], false⟩]) ∧
    (t.slc.linkUp = true ↔ s.slc.linkUp = true ∧
      ∀ r ∈ (s.slc.replies), r.linkDown = true → sending ∧ r ∉ s.slc.replies.tail) ∧
    t.slc = { s.slc with
      requests := []
      replies := t.slc.replies
      linkUp := t.slc.linkUp
      checkErrors := 0
      framingErrors := 0
      overrun := false } ∧
    t.evr = { s.evr with
      urgent := []
      normal := []
      normalState := .opened
      discarded := 0
      keyMark := false
      relayA := none
      relayB := none
      telemetry := none
      tally := t.evr.tally
      rotation := .relayA } ∧
    (∀ c, t.evr.tally.get c = 0) ∧
    (∀ p, t.kms.positions.get p = { s.kms.positions.get p with announced := false }) ∧
    (∀ p, t.ppt.ports.get p = { s.ppt.ports.get p with slot := (t.ppt.ports.get p).slot } ∧
      ((s.ppt.ports.get p).slot.state = .waiting →
        (t.ppt.ports.get p).slot = { (s.ppt.ports.get p).slot with discard := true }) ∧
      ((s.ppt.ports.get p).slot.state = .resolved →
        (t.ppt.ports.get p).slot = { (s.ppt.ports.get p).slot with state := .idle, held := none }) ∧
      ((s.ppt.ports.get p).slot.state = .idle → (t.ppt.ports.get p).slot = (s.ppt.ports.get p).slot)) ∧
    t.kms = { s.kms with positions := t.kms.positions } ∧ t.ppt.filter = s.ppt.filter ∧ t.tmb = s.tmb ∧
    t.sws = s.sws ∧ t.lmt = s.lmt ∧ t.ppc = s.ppc ∧ t.swi = s.swi ∧ t.fnc = s.fnc ∧ t.ssc = s.ssc

/-! ## The reading requests -/

/-- The reading rules of chapters 1 to 11: each reading request is answered OK with the present state, byte by byte, and
changes nothing; a bad selector is answered BAD_ARGUMENT and a wrong length BAD_LENGTH. A field of two or four bytes travels
high byte first in two's complement, and a state as its code. (The byte layout where section 11.2 leaves it open, the codes
of the limit states, of flags and of line levels, and that READ_PACK sends no receive stamp are the model's: log 11 and
log 24.) -/
def Obligations.ReadsAnswerWithoutChange : Prop :=
  (∀ v : Int, put2 v = [BitVec.ofInt 8 (v / 256), BitVec.ofInt 8 v] ∧
    put4 v = [BitVec.ofInt 8 (v / 16777216), BitVec.ofInt 8 (v / 65536), BitVec.ofInt 8 (v / 256), BitVec.ofInt 8 v]) ∧
  (∀ x : Stamp, putStamp x = put4 x.toNat) ∧
  [PortState.absent, .identifying, .active, .stale, .unresponsive].map PortState.num = [0, 1, 2, 3, 4] ∧
  [SlotState.idle, .waiting, .resolved].map SlotState.num = [0, 1, 2] ∧
  [PathMode.opened, .dischargeOnly, .full].map PathMode.num = [0, 1, 2] ∧
  [BayState.latched, .releasing, .released].map BayState.num = [0, 1, 2] ∧
  [Phase.none, .hold, .precharge, .bulk, .taper, .done].map Phase.num = [0, 1, 2, 3, 4, 5] ∧
  [AdapterState.absent, .pendingId, .identified, .unknown].map AdapterState.num = [0, 1, 2, 3] ∧
  [AllocMode.adapter, .batteryOnly].map AllocMode.num = [0, 1] ∧
  [ThrottleState.released, .pending, .asserted, .releasing].map ThrottleState.num = [0, 1, 2, 3] ∧
  [LimitState.normal, .warning, .fault, .held].map LimitState.num = [0, 1, 2, 3] ∧
  [CurveSet.openSet, .closed, .tablet].map CurveSet.num = [0, 1, 2] ∧
  [FanMode.off, .kick, .running, .stallRetry, .stallLockout].map FanMode.num = [0, 1, 2, 3, 4] ∧
  [SysState.off, .booting, .run, .halting, .standby, .waking].map SysState.num = [0, 1, 2, 3, 4, 5] ∧
  ∀ (s : State) (tag : Nat),
    let answers := fun (c : Instr) (code : ResultCode) (data : List Byte) =>
      exec c s = .next (answered tag code data s)
    let b := fun (n : Nat) => BitVec.ofNat 8 n
    -- READ_CHANNELS
    (∀ half : Byte, RequestAtHead s 0x05 [half] tag →
      let entry : Fin 16 → List Byte := fun ch =>
        if (s.sws.latest.get ch).valid = true then
          [BitVec.ofNat 8 (1 + 2 * (s.sws.latest.get ch).clamped.toNat)] ++ put2 (s.sws.latest.get ch).value ++
            [BitVec.ofNat 8 (s.sws.latest.get ch).sweep] ++
            put2 (min 65535 (s.tmb.ms - (s.sws.latest.get ch).stamp).toNat : Nat)
        else [0, 0, 0, 0, 0, 0]
      (half = 0 → answers .readChannels .ok
        (putStamp s.tmb.ms ++ ([0, 1, 2, 3, 4, 5, 6, 7] : List (Fin 16)).flatMap entry)) ∧
      (half = 1 → answers .readChannels .ok
        (putStamp s.tmb.ms ++ ([8, 9, 10, 11, 12, 13, 14, 15] : List (Fin 16)).flatMap entry)) ∧
      (half ≠ 0 → half ≠ 1 → answers .readChannels .badArgument [])) ∧
    (∀ args : List Byte, args.length ≠ 1 →
      (RequestAtHead s 0x05 args tag → answers .readChannels .badLength []) ∧
      (RequestAtHead s 0x06 args tag → answers .readPack .badLength []) ∧
      (RequestAtHead s 0x08 args tag → answers .readFaults .badLength [])) ∧
    -- READ_PACK
    (∀ p : Pack, packBytes p s =
      (let x := s.ppt.ports.get p
      [b x.state.num, b x.presence.toNat, b x.frameErrors, b x.slot.state.num, b (s.ppc.path.get p).mode.num,
          b ((s.ppc.path.get p).unsupplied.toNat + 2 * x.record.isSome.toNat)] ++
        (match x.record with
        | none => List.replicate 22 0
        | some r => [b r.profile, b r.cells] ++ put2 r.voltage ++ put2 r.current ++ put2 r.temp ++ [b r.soc] ++
            put2 r.remaining ++ put2 r.full ++ put2 r.reqVoltage ++ put2 r.reqCurrent ++ put2 r.maxDischarge ++
            [b (r.alarms.overCharge.toNat + 2 * r.alarms.overTemp.toNat + 4 * r.alarms.terminateCharge.toNat +
              8 * r.alarms.terminateDischarge.toNat + 16 * r.alarms.cellImbalance.toNat)] ++
            put2 (min 65535 (s.tmb.ms - r.stamp).toNat : Nat)) ++
        (match p with
        | .a => []
        | .b => [b s.ppc.bay.state.num, b s.ppc.bay.pending.toNat]))) ∧
    (∀ sel : Byte, RequestAtHead s 0x06 [sel] tag →
      (sel = 0 → answers .readPack .ok (packBytes .a s) ∧ (packBytes .a s).length = 28) ∧
      (sel = 1 → answers .readPack .ok (packBytes .b s) ∧ (packBytes .b s).length = 30) ∧
      (∀ p, (s.ppt.ports.get p).record = none → ((packBytes p s).drop 6).take 22 = List.replicate 22 0) ∧
      (sel ≠ 0 → sel ≠ 1 → answers .readPack .badArgument [])) ∧
    -- READ_ALLOCATION
    (RequestAtHead s 0x07 [] tag →
      answers .readAllocation .ok (allocationBytes s.ppc) ∧ (allocationBytes s.ppc).length = 87) ∧
    (allocationBytes s.ppc =
      let c := s.ppc
      let m := c.alloc
      let pack : Pack → List Byte := fun p =>
        let f := m.packs.get p
        let d := c.charge.get p
        let x := c.setpoints.get p
        [b d.phase.num, b (d.band.getD 0xFF), b (c.path.get p).mode.num,
            b (f.chargeEligible.toNat + 2 * f.boostEligible.toNat)] ++
          put2 f.c ++ put2 f.b ++ put2 d.cap ++ put2 d.vChg ++ put2 d.iDmax ++ put2 x.chargeI ++ put2 x.chargeV ++
          put2 x.boost
      [b c.adapter.aid.isSome.toNat, b c.adapter.state.num, b c.adapter.cls] ++ put2 c.adapter.iAL ++
        put2 (c.adapter.aid.getD 0) ++ put2 c.iHL ++ [b c.eta, b c.boostOn.toNat, b c.boostFloor] ++
        [b m.made.toNat, b m.sweep] ++ putStamp m.stamp ++ [b m.mode.num] ++ put2 m.iEff ++ put2 c.iLim ++ put4 m.pIn ++
        put4 m.pUse ++ put4 m.pSys ++ put4 m.h ++ put4 m.u ++
        [b c.throttle.state.num, b c.throttle.count, b c.ltr.toNat] ++ pack .a ++ pack .b ++ [b c.bay.state.num]) ∧
    -- READ_FAULTS
    (∀ sel : Byte, RequestAtHead s 0x08 [sel] tag →
      let states : List LimitState := (List.finRange 16).map fun ch => (s.lmt.chans.get ch).state
      (sel = 0xFF → answers .readFaults .ok
        (s.lmt.actionSet.map (fun a => BitVec.ofNat 8 a.num) ++ states.map (fun x => BitVec.ofNat 8 x.num) ++
          [BitVec.ofNat 8 (states.count .fault), BitVec.ofNat 8 (states.count .held)])) ∧
      (∀ ch : Fin 16, sel = BitVec.ofNat 8 ch.val →
        let e := s.lmt.entries.get ch
        let c := s.lmt.chans.get ch
        answers .readFaults .ok
          ([BitVec.ofNat 8 e.enable.toNat, BitVec.ofNat 8 c.state.num, BitVec.ofNat 8 e.action.num,
              BitVec.ofNat 8 c.warnRun, BitVec.ofNat 8 c.faultRun, BitVec.ofNat 8 c.returnRun,
              BitVec.ofNat 8 (c.tripValue.isSome.toNat + 2 * c.tripStamp.isSome.toNat), BitVec.ofNat 8 c.tripCount] ++
            put2 (c.tripValue.getD 0) ++ putStamp (c.tripStamp.getD 0))) ∧
      (sel ≠ 0xFF → 16 ≤ sel.toNat → answers .readFaults .badArgument [])) ∧
    -- READ_KEYMAP
    (RequestAtHead s 0x0A [] tag →
      let down : List (Fin 144) := (List.finRange 144).filter fun p => (s.kms.positions.get p).state = .down
      answers .readKeymap .ok (keymapBytes s.kms) ∧ (keymapBytes s.kms).length = 23 + min 28 down.length ∧
        (keymapBytes s.kms).head? = some (BitVec.ofNat 8 down.length) ∧
        (((keymapBytes s.kms).drop 19).take (min 28 down.length) = (down.take 28).map fun p =>
          if (s.kms.positions.get p).silent = true then 0 else BitVec.ofNat 8 (s.kms.positions.get p).code) ∧
        (∀ p : Fin 144,
          ((keymapBytes s.kms).getD (1 + p.val / 8) 0).getLsbD (p.val % 8) = decide (p ∈ down.take 28)) ∧
        ∃ marks : Nat, (keymapBytes s.kms).drop (19 + min 28 down.length) = put4 marks ∧ marks < 4294967296 ∧
          (marks.testBit 31 = true ↔ 28 < down.length) ∧
          ∀ i, i < 31 → (marks.testBit i = true ↔
            ∃ p, (down.take 28)[i]? = some p ∧ (s.kms.positions.get p).announced = false)) ∧
    -- READ_FANS
    (RequestAtHead s 0x0C [] tag →
      answers .readFans .ok (fansBytes s) ∧ (fansBytes s).length = 68) ∧
    (fansBytes s =
      let fan : Fan → List Byte := fun f =>
        let x := s.fnc.fans.get f
        let g := s.fnc.configs.get f
        let rpm : Nat := match x.silent, x.interval with
          | false, some i => 60000000 / (i * g.ppr)
          | _, _ => 0
        [b x.interval.isSome.toNat, b x.state.num] ++ put2 x.drive ++ put2 x.demand ++ put2 x.curveDuty ++
          put2 (x.governing.getD (-32768)) ++ put2 x.reference ++ [b x.fresh.toNat, b x.retries] ++
          put2 (x.interval.getD 0) ++ [b x.silent.toNat] ++ put2 (min 65535 rpm : Nat) ++
          [b g.ppr, b g.stallCheck.toNat]
      [b s.fnc.set.num, b (decide (Action.fanFull ∈ s.lmt.actionSet)).toNat] ++ put2 s.fnc.overrideDuty ++
        put2 (s.fnc.overrideTimer.getD 0) ++ fan .one ++ fan .two ++
        s.fnc.slots.list.flatMap fun x => put2 x.value ++ [b x.refreshed.toNat] ++ put2 (x.timer.getD 0)) ∧
    -- READ_STATUS
    (RequestAtHead s 0x0D [] tag →
      answers .readStatus .ok
        [if s.slc.linkUp = true then 0 else 1,
          if ∃ r ∈ s.slc.replies, r.linkDown = true then 1 else 0,
          BitVec.ofNat 8 s.slc.checkErrors, BitVec.ofNat 8 s.slc.framingErrors, BitVec.ofNat 8 s.slc.overrun.toNat,
          BitVec.ofNat 8 (s.slc.requests.length - 1), BitVec.ofNat 8 s.slc.replies.length,
          BitVec.ofNat 8 s.ssc.state.num, BitVec.ofNat 8 s.ssc.mode.num]) ∧
    (∀ args : List Byte, args ≠ [] →
      (RequestAtHead s 0x07 args tag → answers .readAllocation .badLength []) ∧
      (RequestAtHead s 0x0A args tag → answers .readKeymap .badLength []) ∧
      (RequestAtHead s 0x0C args tag → answers .readFans .badLength []) ∧
      (RequestAtHead s 0x0D args tag → answers .readStatus .badLength [])) ∧
    -- READ_TABLE
    (∀ args : List Byte, RequestAtHead s 0x18 args tag →
      (args = [] → answers .readTable .badLength []) ∧
      (∀ n rest, args = n :: rest → (n = 0 ∨ 8 < n.toNat) → answers .readTable .badArgument []) ∧
      (args = [1] → answers .readTable .ok (s.sws.schedule.list.flatMap fun e =>
        [BitVec.ofNat 8 e.enable.toNat, BitVec.ofNat 8 e.rep, BitVec.ofNat 8 e.off])) ∧
      (∀ ch : Fin 16, args = [2, BitVec.ofNat 8 ch.val] →
        answers .readTable .ok (limitBytes (s.lmt.entries.get ch)) ∧ (limitBytes (s.lmt.entries.get ch)).length = 15 ∧
        limitBytes (s.lmt.entries.get ch) =
          (let e := s.lmt.entries.get ch
          [b (e.warnLow.isSome.toNat + 2 * e.warnHigh.isSome.toNat + 4 * e.faultLow.isSome.toNat +
              8 * e.faultHigh.isSome.toNat), b e.enable.toNat] ++
            put2 (e.warnLow.getD 0) ++ put2 (e.warnHigh.getD 0) ++ put2 (e.faultLow.getD 0) ++
            put2 (e.faultHigh.getD 0) ++ put2 e.hyst ++
            [b e.deglitch, b e.action.num, b (e.reportWarning.toNat + 2 * e.reportFault.toNat)])) ∧
      (∀ i : Fin 4, args = [3, BitVec.ofNat 8 i.val] →
        answers .readTable .ok (profileBytes i.val (s.ppc.profiles.get i)) ∧
        profileBytes i.val (s.ppc.profiles.get i) =
          (let x := s.ppc.profiles.get i
          [b (16 * i.val + x.bands.length), b x.hyst] ++ put2 x.preThreshold ++ put2 x.preCurrent ++
            put2 x.taperCurrent ++ put2 x.rechargeDelta ++ [b x.rechargeSoc] ++ put2 x.fastLimit ++
            (x.bounds.flatMap fun v => put2 v) ++
            x.bands.flatMap fun y => put2 y.chargeLimit ++ put2 y.cellVoltage ++ put2 y.dischargeLimit)) ∧
      (args = [4] → answers .readTable .ok (s.ppc.adapterTable.list.flatMap fun e =>
        match e with
        | none => [1, 0, 0, 0, 0, 0, 0]
        | some x => [0] ++ put2 (x.low : Nat) ++ put2 (x.high : Nat) ++ put2 (x.rating : Nat))) ∧
      (∀ (f : Fan) (i : Fin 3), args = [5, BitVec.ofNat 8 (fanNum f), BitVec.ofNat 8 i.val] →
        answers .readTable .ok (curveBytes ((s.fnc.curves.get f).get i)) ∧
        curveBytes ((s.fnc.curves.get f).get i) =
          (let x := (s.fnc.curves.get f).get i
          let m := x.sources
          [b (m.tch.toNat + 2 * m.tsk.toNat + 4 * m.tfz.toNat + 8 * m.h0.toNat + 16 * m.h1.toNat + 32 * m.h2.toNat +
              64 * m.h3.toNat), b x.points.length, b x.hyst] ++ put2 x.minDuty ++ put2 x.failsafe ++
            x.points.flatMap fun q => put2 q.1 ++ put2 q.2)) ∧
      (∀ f : Fan, args = [5, BitVec.ofNat 8 (fanNum f), 3] → answers .readTable .ok
        [BitVec.ofNat 8 (s.fnc.configs.get f).ppr, BitVec.ofNat 8 (s.fnc.configs.get f).stallCheck.toNat]) ∧
      (args = [6] → answers .readTable .ok (policyBytes s.evr.policy) ∧ (policyBytes s.evr.policy).length = 102 ∧
        policyBytes s.evr.policy = (allCodes.filter fun c => decide (c ≠ .gap)).flatMap fun c =>
          [b c.num, b (s.evr.policy.get c.idx).cls.num,
            b ((s.evr.policy.get c.idx).wake.toNat + 2 * (s.evr.policy.get c.idx).start.toNat)]) ∧
      (∀ row : Fin 8, args = [7, BitVec.ofNat 8 row.val] → answers .readTable .ok
        ((List.finRange 18).flatMap fun col =>
          let e := s.kms.translation.get ⟨row.val * 18 + col.val, by omega⟩
          [BitVec.ofNat 8 e.base, BitVec.ofNat 8 e.fn,
            BitVec.ofNat 8 (e.fnKey.toNat + 2 * e.wake.toNat + 4 * e.isolated.toNat)])) ∧
      (args = [8] → answers .readTable .ok (s.ppt.filter.list.flatMap fun e =>
        match e with
        | none => [1, 0, 0, 0]
        | some x => [0, BitVec.ofNat 8 x.low, BitVec.ofNat 8 x.high, BitVec.ofNat 8 x.verdict.num])) ∧
      (∀ n : Byte, (args = [2, n] ∧ 16 ≤ n.toNat) ∨ (args = [3, n] ∧ 4 ≤ n.toNat) ∨ (args = [7, n] ∧ 8 ≤ n.toNat) →
        answers .readTable .badArgument []) ∧
      (∀ f n : Byte, args = [5, f, n] → (f ≠ 1 ∧ f ≠ 2) ∨ 4 ≤ n.toNat → answers .readTable .badArgument []) ∧
      (args.length ≠ 2 → (args.head? = some 2 ∨ args.head? = some 3 ∨ args.head? = some 7) →
        answers .readTable .badLength []) ∧
      (args.length ≠ 3 → args.head? = some 5 → answers .readTable .badLength []) ∧
      (args.length ≠ 1 → (args.head? = some 1 ∨ args.head? = some 4 ∨ args.head? = some 6 ∨ args.head? = some 8) →
        answers .readTable .badLength []))

/-! ## The tables -/

/-- Sections 1.5, 3.4, 4.1, 5.1, 6.8, 8.1 and 10.2: every table load but LOAD_LIMIT, which LimitLoadsAndDefaultsAct states,
replaces one entry whole, within its ranges, and changes nothing else but what its rule names; the first failing check decides the reply. A load with fewer or more bytes than its layout is
answered BAD_LENGTH (section 11.3), in its place among the checks where the rule has one. (Flag bytes other than 0 and 1 read
as the free value of log 12; the layouts are those of section 11.2 and log 11, and so is that the bytes under a set empty
mark are ignored; the data of LOAD_POLICY's reply is log 24, the mark that a loaded profile is new to a pack log 26, and
the kick timer stopped where a stall check is turned off during a retry log 28.) -/
def Obligations.LoadsReplaceOneEntry : Prop :=
  ∀ (s : State) (args : List Byte) (tag : Nat),
    let answers := fun (c : Instr) (code : ResultCode) (t : State) => exec c s = .next (answered tag code [] t)
    -- a wrong length
    ((RequestAtHead s 0x13 args tag → args.length ≠ 4 → answers .loadSchedule .badLength s) ∧
      (RequestAtHead s 0x10 args tag → args = [] → answers .loadProfile .badLength s) ∧
      (RequestAtHead s 0x11 args tag → args.length ≠ 8 → answers .loadAdapter .badLength s) ∧
      (RequestAtHead s 0x17 args tag → args.length ≠ 5 → answers .loadPassFilter .badLength s) ∧
      (RequestAtHead s 0x14 args tag →
        (args.length < 2 → answers .loadFanCurve .badLength s) ∧
        (2 ≤ args.length → arg1 args 0 = 1 ∨ arg1 args 0 = 2 →
          (arg1 args 1 < 3 → args.length < 4 → answers .loadFanCurve .badLength s) ∧
          (arg1 args 1 = 3 → args.length ≠ 4 → answers .loadFanCurve .badLength s))) ∧
      (RequestAtHead s 0x15 args tag → args.length ≠ 3 → answers .loadPolicy .badLength s) ∧
      (RequestAtHead s 0x16 args tag → args = [] → answers .loadKeyrow .badLength s)) ∧
    -- LOAD_SCHEDULE
    (RequestAtHead s 0x13 args tag → args.length = 4 →
      let e : SlotEntry := ⟨argFlag args 1, arg1 args 2, arg1 args 3⟩
      (arg1 args 0 < 8 ∨ 15 < arg1 args 0 → answers .loadSchedule .badArgument s) ∧
      ∀ i : Fin 8, arg1 args 0 = 8 + i.val →
        let wellFormed := e.rep ∈ ([1, 2, 4, 8, 16, 32, 64] : List Nat) ∧ e.off < e.rep
        let clash := e.enable = true ∧ ∃ j, j ≠ i ∧ (s.sws.schedule.get j).enable = true ∧
          e.off % min e.rep (s.sws.schedule.get j).rep =
            (s.sws.schedule.get j).off % min e.rep (s.sws.schedule.get j).rep
        (¬ wellFormed ∨ clash → answers .loadSchedule .invalidTable s) ∧
        (wellFormed → ¬ clash →
          ((s.sws.schedule.get i).enable = true ∧ e.enable = false → answers .loadSchedule .ok { s with
            sws := { s.sws with
              schedule := s.sws.schedule.set i e
              latest := s.sws.latest.set ⟨8 + i.val, by omega⟩ ⟨false, false, 0, 0, 0⟩
              sweep := s.sws.sweep.map fun w =>
                if w.slot = some i ∧ w.slotDone = false then { w with slot := none } else w } }) ∧
          (¬ ((s.sws.schedule.get i).enable = true ∧ e.enable = false) → answers .loadSchedule .ok { s with
            sws := { s.sws with schedule := s.sws.schedule.set i e } }))) ∧
    -- LOAD_PROFILE
    (RequestAtHead s 0x10 args tag → args ≠ [] →
      let n := arg1 args 0 % 16
      let x := profileOf args n
      let inRanges := x.bounds.Pairwise (fun u v => u < v) ∧ (∀ b ∈ x.bounds, -200 ≤ b ∧ b ≤ 800) ∧
        (∀ b ∈ x.bands, b.chargeLimit ≤ 8064 ∧ 3000 ≤ b.cellVoltage ∧ b.cellVoltage ≤ 4500 ∧ b.dischargeLimit ≤ 8064) ∧
        x.hyst ≤ 100 ∧ 2500 ≤ x.preThreshold ∧ x.preThreshold ≤ 3300 ∧ x.preCurrent ≤ 1024 ∧ 64 ≤ x.taperCurrent ∧
        x.taperCurrent ≤ 2048 ∧ 50 ≤ x.rechargeDelta ∧ x.rechargeDelta ≤ 300 ∧ 50 ≤ x.rechargeSoc ∧
        x.rechargeSoc ≤ 99 ∧ 60 ≤ x.fastLimit ∧ x.fastLimit ≤ 600
      (4 ≤ arg1 args 0 / 16 → answers .loadProfile .badArgument s) ∧
      ∀ i : Fin 4, arg1 args 0 / 16 = i.val →
        (n = 0 ∨ 6 < n → answers .loadProfile .invalidTable s) ∧
        (1 ≤ n → n ≤ 6 → args.length ≠ 11 + 8 * n → answers .loadProfile .badLength s) ∧
        (1 ≤ n → n ≤ 6 → args.length = 11 + 8 * n →
          (¬ inRanges → answers .loadProfile .invalidTable s) ∧
          (inRanges → x.bands.length = n ∧ x.bounds.length + 1 = n ∧ answers .loadProfile .ok { s with
            ppc := { s.ppc with
              profiles := s.ppc.profiles.set i x
              charge := s.ppc.charge.map fun c =>
                { c with profileFresh := c.profileFresh || decide (c.lastProfile = some i.val) } } }))) ∧
    -- LOAD_ADAPTER
    (RequestAtHead s 0x11 args tag → args.length = 8 →
      let e : AdapterEntry := ⟨arg2 args 2, arg2 args 4, arg2 args 6⟩
      (8 ≤ arg1 args 0 → answers .loadAdapter .badArgument s) ∧
      ∀ i : Fin 8, arg1 args 0 = i.val →
        (argFlag args 1 = true → answers .loadAdapter .ok
          { s with ppc := { s.ppc with adapterTable := s.ppc.adapterTable.set i none } }) ∧
        (argFlag args 1 = false →
          (e.low ≤ e.high ∧ e.high ≤ 3300 ∧ 1000 ≤ e.rating ∧ e.rating ≤ 16000 → answers .loadAdapter .ok
            { s with ppc := { s.ppc with adapterTable := s.ppc.adapterTable.set i (some e) } }) ∧
          (¬ (e.low ≤ e.high ∧ e.high ≤ 3300 ∧ 1000 ≤ e.rating ∧ e.rating ≤ 16000) →
            answers .loadAdapter .invalidTable s))) ∧
    -- LOAD_PASS_FILTER
    (RequestAtHead s 0x17 args tag → args.length = 5 →
      (8 ≤ arg1 args 0 → answers .loadPassFilter .badArgument s) ∧
      ∀ i : Fin 8, arg1 args 0 = i.val →
        (argFlag args 1 = true → answers .loadPassFilter .ok
          { s with ppt := { s.ppt with filter := s.ppt.filter.set i none } }) ∧
        (argFlag args 1 = false →
          (arg1 args 3 < arg1 args 2 ∨ 2 < arg1 args 4 → answers .loadPassFilter .invalidTable s) ∧
          (∀ v : Verdict, arg1 args 2 ≤ arg1 args 3 → arg1 args 4 = v.num → answers .loadPassFilter .ok
            { s with ppt := { s.ppt with
              filter := s.ppt.filter.set i (some ⟨arg1 args 2, arg1 args 3, v⟩) } }))) ∧
    -- LOAD_FAN_CURVE
    (RequestAtHead s 0x14 args tag → 2 ≤ args.length →
      (arg1 args 0 ≠ 1 ∧ arg1 args 0 ≠ 2 ∨ 3 < arg1 args 1 → answers .loadFanCurve .badArgument s) ∧
      ∀ f : Fan, arg1 args 0 = fanNum f →
        (∀ i : Fin 3, arg1 args 1 = i.val → 4 ≤ args.length →
          let n := arg1 args 3
          let x := curveAt args
          let inRanges := arg1 args 2 < 128 ∧ x.hyst ≤ 100 ∧ x.minDuty ≤ 1000 ∧ x.failsafe ≤ 1000 ∧
            (∀ q ∈ x.points, -400 ≤ q.1 ∧ q.1 ≤ 1500 ∧ q.2 ≤ 1000) ∧ x.points.Pairwise (fun u v => u.1 < v.1)
          (n < 2 ∨ 8 < n → answers .loadFanCurve .invalidTable s) ∧
          (2 ≤ n → n ≤ 8 → args.length ≠ 9 + 4 * n → answers .loadFanCurve .badLength s) ∧
          (2 ≤ n → n ≤ 8 → args.length = 9 + 4 * n →
            (¬ inRanges → answers .loadFanCurve .invalidTable s) ∧
            (inRanges → x.points.length = n ∧ answers .loadFanCurve .ok
              { s with fnc := { s.fnc with
                curves := s.fnc.curves.set f ((s.fnc.curves.get f).set i x) } }))) ∧
        (arg1 args 1 = 3 → args.length = 4 →
          let ranged := 1 ≤ arg1 args 2 ∧ arg1 args 2 ≤ 4 ∧ arg1 args 3 ≤ 1
          (¬ ranged → answers .loadFanCurve .invalidTable s) ∧
          (ranged →
            let config : FanConfig := ⟨arg1 args 2, decide (arg1 args 3 = 1)⟩
            let x := s.fnc.fans.get f
            let freed := (s.fnc.configs.get f).stallCheck = true ∧ config.stallCheck = false ∧ x.state = .stallRetry
            (¬ freed → answers .loadFanCurve .ok
              { s with fnc := { s.fnc with configs := s.fnc.configs.set f config } }) ∧
            (freed → answers .loadFanCurve .ok
              { s with fnc := { s.fnc with
                configs := s.fnc.configs.set f config
                fans := s.fnc.fans.set f { x with
                  state := .running
                  retries := 0
                  kickTimer := none
                  silenceTimer := if s.ssc.mode = .full then some 1000 else x.silenceTimer } } })))) ∧
    -- LOAD_POLICY
    (RequestAtHead s 0x15 args tag → args.length = 3 →
      (arg1 args 0 = 0x20 ∨ arg1 args 0 = 0 ∨ 0x23 < arg1 args 0 → answers .loadPolicy .badArgument s) ∧
      ∀ c : EventCode, c ≠ .gap → arg1 args 0 = c.num →
        (2 < arg1 args 1 → answers .loadPolicy .invalidTable s) ∧
        ∀ cls : PolicyClass, arg1 args 1 = cls.num →
          let policy : Policy := ⟨cls, argBit args 2 0, argBit args 2 1⟩
          let table := s.evr.policy.set c.idx policy
          let startBad := policy.start = true ∧ c ∉ ([.powerButton, .lid, .adapterAttach, .keyWake] : List EventCode)
          let urgent := allCodes.filter fun d => decide (d ≠ .gap ∧ (table.get d.idx).cls = .urgent) ||
            decide (∃ r ∈ s.evr.urgent, r.code = d)
          (startBad ∨ 8 < urgent.length → answers .loadPolicy .invalidTable s) ∧
          (¬ startBad → urgent.length ≤ 8 → exec .loadPolicy s = .next (answered tag .ok
            [BitVec.ofNat 8 cls.num, BitVec.ofNat 8 (policy.wake.toNat + 2 * policy.start.toNat)]
            { s with evr := { s.evr with policy := table } }))) ∧
    -- LOAD_KEYROW
    (RequestAtHead s 0x16 args tag → args ≠ [] →
      (8 ≤ arg1 args 0 → answers .loadKeyrow .badArgument s) ∧
      ∀ row : Fin 8, arg1 args 0 = row.val →
        (args.length ≠ 55 → answers .loadKeyrow .badLength s) ∧
        (args.length = 55 →
          ((∃ c, c < 18 ∧ 8 ≤ arg1 args (3 + 3 * c)) → answers .loadKeyrow .invalidTable s) ∧
          ((∀ c, c < 18 → arg1 args (3 + 3 * c) < 8) → ∃ t, answers .loadKeyrow .ok t ∧
            t = { s with kms := { s.kms with translation := t.kms.translation } } ∧
            ∀ p : Fin 144,
              (p.val / 18 ≠ row.val → t.kms.translation.get p = s.kms.translation.get p) ∧
              (p.val / 18 = row.val →
                let c := p.val % 18
                t.kms.translation.get p =
                  ⟨arg1 args (1 + 3 * c), arg1 args (2 + 3 * c), argBit args (3 + 3 * c) 0, argBit args (3 + 3 * c) 1,
                    argBit args (3 + 3 * c) 2⟩))))

/-- Sections 2.1, 2.4 and 11.3, and the default rules of the tables: LOAD_LIMIT is checked in its order, its length first,
and acts by its enable flag, and RESTORE_DEFAULTS returns each of the eight tables to its default and answers OK. A limit channel keeps its state,
runs and trip record under enable on and returns to NORMAL under enable off; the action set is made afresh. The policy
table is refused NOT_NOW while more than 8 codes could stand in the urgent queue. The model's choices: the layout of
LOAD_LIMIT with its presence byte, whose unnamed bits are ignored (log 11), an enable byte other than 0 and 1 (log 12), and
the mark that a restored profile is new to a pack (log 26). -/
def Obligations.LimitLoadsAndDefaultsAct : Prop :=
  ∀ (s : State) (args : List Byte) (tag : Nat),
    -- LOAD_LIMIT
    (RequestAtHead s 0x12 args tag → args.length ≠ 16 → exec .loadLimit s = .next (answered tag .badLength [] s)) ∧
    (RequestAtHead s 0x12 args tag → args.length = 16 →
      (16 ≤ arg1 args 0 → exec .loadLimit s = .next (answered tag .badArgument [] s)) ∧
      ∀ ch : Fin 16, arg1 args 0 = ch.val →
        (10 ≤ arg1 args 14 → exec .loadLimit s = .next (answered tag .invalidTable [] s)) ∧
        ∀ a : Action, arg1 args 14 = a.num →
          let limit := fun (k i : Nat) => if argBit args 1 k = true then some (arg2s args i) else none
          let e : LimitEntry :=
            { enable := argFlag args 2
              warnLow := limit 0 3
              warnHigh := limit 1 5
              faultLow := limit 2 7
              faultHigh := limit 3 9
              hyst := arg2 args 11
              deglitch := arg1 args 13
              action := a
              reportWarning := argBit args 15 0
              reportFault := argBit args 15 1 }
          let ordered := (e.faultLow.toList ++ e.warnLow.toList ++ e.warnHigh.toList ++ e.faultHigh.toList).Pairwise
            fun u v => u ≤ v
          let apart := fun (low high : Option Int) =>
            ∀ l ∈ low, ∀ h ∈ high, l ≠ h ∧ 2 * e.hyst ≤ h - l
          let inClamp := ∀ l ∈ e.faultLow.toList ++ e.warnLow.toList ++ e.warnHigh.toList ++ e.faultHigh.toList,
            clamped ch l = l
          let valid := e.hyst ≤ 1000 ∧ 1 ≤ e.deglitch ∧ e.deglitch ≤ 15 ∧ inClamp ∧ ordered ∧
            apart e.warnLow e.warnHigh ∧ apart e.faultLow e.faultHigh
          (¬ valid → exec .loadLimit s = .next (answered tag .invalidTable [] s)) ∧
          (valid → ∃ t, exec .loadLimit s = .next t ∧
            t.lmt.entries = s.lmt.entries.set ch e ∧ t.lmt.actionSet = t.lmt.carried ∧
            (∀ d, d ≠ ch → t.lmt.chans.get d = s.lmt.chans.get d) ∧
            (e.enable = true → t.lmt.chans.get ch = s.lmt.chans.get ch) ∧
            (e.enable = false → t.lmt.chans.get ch =
              { s.lmt.chans.get ch with state := .normal, warnRun := 0, faultRun := 0, returnRun := 0 }) ∧
            (e.enable = false → (s.lmt.chans.get ch).state = .fault ∨ (s.lmt.chans.get ch).state = .held →
              Tallied .limitCleared s t) ∧
            (e.enable = true → (s.lmt.chans.get ch).state = .fault → a = .systemOff →
              (s.lmt.entries.get ch).action ≠ .systemOff → PolicyLegal s.evr → t.ssc.state = .off) ∧
            t.sws = { s.sws with countdown := t.sws.countdown } ∧ t.ppt = s.ppt ∧ t.swi = s.swi ∧
            t.slc.replies.getLast? = some ⟨tag, .ok, [], false⟩)) ∧
    -- RESTORE_DEFAULTS
    (RequestAtHead s 0x19 args tag →
      let restores := fun (t : State) => exec .restoreDefaults s = .next (answered tag .ok [] t)
      (args = [] → exec .restoreDefaults s = .next (answered tag .badLength [] s)) ∧
      (∀ n rest, args = n :: rest → n = 0 ∨ 8 < n.toNat →
        exec .restoreDefaults s = .next (answered tag .badArgument [] s)) ∧
      (∀ n m rest, args = n :: m :: rest → n ≠ 0 → n.toNat ≤ 8 →
        exec .restoreDefaults s = .next (answered tag .badLength [] s)) ∧
      (args = [1] → restores { s with sws := { s.sws with schedule := defaultSchedule } }) ∧
      (args = [2] → ∃ t, exec .restoreDefaults s = .next t ∧ t.lmt.entries = defaultLimits ∧
        t.lmt.chans = s.lmt.chans ∧ t.lmt.actionSet = t.lmt.carried ∧ t.ppt = s.ppt ∧ t.swi = s.swi ∧
        t.slc.replies.getLast? = some ⟨tag, .ok, [], false⟩) ∧
      (args = [3] → restores { s with
        ppc := { s.ppc with
          profiles := defaultProfiles
          charge := s.ppc.charge.map fun c => { c with profileFresh := c.lastProfile.isSome } } }) ∧
      (args = [4] → restores { s with ppc := { s.ppc with adapterTable := defaultAdapters } }) ∧
      (args = [5] → restores { s with
        fnc := { s.fnc with curves := defaultCurves, configs := ⟨defaultConfig, defaultConfig⟩ } }) ∧
      (args = [6] →
        let urgent := allCodes.filter fun d => decide (d ≠ .gap ∧ (defaultPolicy.get d.idx).cls = .urgent) ||
          decide (∃ r ∈ s.evr.urgent, r.code = d)
        (urgent.length ≤ 8 → restores { s with evr := { s.evr with policy := defaultPolicy } }) ∧
        (8 < urgent.length → exec .restoreDefaults s = .next (answered tag .notNow [] s))) ∧
      (args = [7] → restores { s with kms := { s.kms with translation := defaultTranslation } }) ∧
      (args = [8] → restores { s with ppt := { s.ppt with filter := defaultFilter } }))

/-- Sections 2.5, 4.4, 8.6 and 10.3: CLEAR_FAULTS returns every HELD channel to NORMAL, clears the timeout latches and
returns the locked-out fans to OFF (or, under FAN_FULL, to KICK), and names them in its reply; READ_TALLY returns up to 28
tallies, the more mark and the queues' figures, and sets exactly those tallies to 0. The bytes of the channel sets are the
model's (log 11), bit 3 of READ_TALLY's first byte 0 among them, and so is that a clear of the latch drops a firing not yet
taken (log 19). -/
def Obligations.ClearFaultsAndTalliesAnswer : Prop :=
  ∀ (s : State) (tag : Nat),
    (∀ args, args ≠ [] →
      (RequestAtHead s 0x09 args tag → exec .clearFaults s = .next (answered tag .badLength [] s)) ∧
      (RequestAtHead s 0x0B args tag → exec .readTally s = .next (answered tag .badLength [] s))) ∧
    (RequestAtHead s 0x09 [] tag → ∃ t, exec .clearFaults s = .next t ∧
      (∀ ch, t.lmt.chans.get ch = if (s.lmt.chans.get ch).state = .held
        then { s.lmt.chans.get ch with state := .normal, warnRun := 0, faultRun := 0, returnRun := 0 }
        else s.lmt.chans.get ch) ∧
      t.lmt.entries = s.lmt.entries ∧ t.lmt.actionSet = t.lmt.carried ∧
      (∀ p, t.ppc.charge.get p = if (s.ppc.charge.get p).latch = none then s.ppc.charge.get p
        else { s.ppc.charge.get p with latch := none, preTimer := 0, fastTimer := 0, due := none }) ∧
      (∀ f, (t.fnc.fans.get f).state ≠ .stallLockout) ∧
      (∀ f, (s.fnc.fans.get f).state = .stallLockout →
        (t.fnc.fans.get f).retries = 0 ∧
        (Action.fanFull ∈ t.lmt.actionSet → (t.fnc.fans.get f).state = .kick ∧ (t.fnc.fans.get f).demand = 1000 ∧
          (t.fnc.fans.get f).drive = 1000) ∧
        (Action.fanFull ∉ t.lmt.actionSet → (t.fnc.fans.get f).state = .off)) ∧
      (∀ n, n = ((List.finRange 16).filter fun ch => (s.lmt.chans.get ch).state = .held).length → 0 < n →
        t.evr.tally.get EventCode.limitCleared.idx =
          min 255 (s.evr.tally.get EventCode.limitCleared.idx + n)) ∧
      t.ppt = s.ppt ∧ t.swi = s.swi ∧
      t.slc.replies.getLast? = some ⟨tag, .ok,
        put2 (flagSet ((List.finRange 16).map fun ch => decide ((s.lmt.chans.get ch).state = .held)) : Nat) ++
          put2 (flagSet ((List.finRange 16).map fun ch => decide ((s.lmt.chans.get ch).state = .fault)) : Nat) ++
          [BitVec.ofNat 8 ((s.ppc.charge.a.latch.isSome).toNat + 2 * (s.ppc.charge.b.latch.isSome).toNat),
            BitVec.ofNat 8 ((decide (s.fnc.fans.one.state = .stallLockout)).toNat +
              2 * (decide (s.fnc.fans.two.state = .stallLockout)).toNat)], false⟩) ∧
    (RequestAtHead s 0x0B [] tag →
      let codes := allCodes.filter fun c => decide (s.evr.tally.get c.idx ≠ 0)
      ∃ t, exec .readTally s = .next (answered tag .ok (tallyBytes s.evr) t) ∧
        t = { s with evr := { s.evr with tally := t.evr.tally } } ∧
        (∀ c ∈ codes.take 28, t.evr.tally.get c.idx = 0) ∧
        (∀ c, c ∉ codes.take 28 → t.evr.tally.get c.idx = s.evr.tally.get c.idx) ∧
        (tallyBytes s.evr).take 3 =
          [BitVec.ofNat 8 ((decide (28 < codes.length)).toNat + 2 * (decide (s.evr.normalState = .overflowed)).toNat +
              4 * s.evr.keyMark.toNat + 16 * s.evr.urgent.length),
            BitVec.ofNat 8 s.evr.normal.length, BitVec.ofNat 8 s.evr.discarded] ∧
        (tallyBytes s.evr).drop 3 =
          (codes.take 28).flatMap fun c => [BitVec.ofNat 8 c.num, BitVec.ofNat 8 (s.evr.tally.get c.idx)])

/-! ## The settings -/

/-- Section 5.2: SET_INPUT_LIMIT takes 0 as no limit and brings any other value into 500..20000 mA; SET_EFFICIENCY brings η
into 48..64; each answers OK_CLAMPED where it clamped and OK otherwise, with the value in force, and changes nothing else at
the request, the input current setpoint in force included. Every pass works with the I_HL, in ADAPTER mode only, and the η
in force when its completion is taken; only their requests and a reset write them, so a new value is used from the next
pass on, and a completion taken first still uses the old one. A request of another length is answered BAD_LENGTH (section
11.3). After reset I_HL is 0 and η is 60. The model's choices: η travels as one byte, in the request and in the reply (log 11), and I_EFF is 0 in BATTERY_ONLY mode (log 36). -/
def Obligations.InputLimitAndEfficiencyAreUsed : Prop :=
  (∀ cause prsA prsB queue, (State.afterReset cause prsA prsB queue).ppc.iHL = 0 ∧
    (State.afterReset cause prsA prsB queue).ppc.eta = 60) ∧
  (∀ (s : State) (tag : Nat) (args : List Byte),
    (RequestAtHead s 0x20 args tag → args.length ≠ 2 → exec .setInputLimit s = .next (answered tag .badLength [] s)) ∧
    (RequestAtHead s 0x21 args tag → args.length ≠ 1 → exec .setEfficiency s = .next (answered tag .badLength [] s))) ∧
  (∀ (s : State) (tag : Nat) (high low : Byte), RequestAtHead s 0x20 [high, low] tag →
    let v := 256 * high.toNat + low.toNat
    let n := if v = 0 then 0 else if v < 500 then 500 else if 20000 < v then 20000 else v
    let code := if (1 ≤ v ∧ v ≤ 499) ∨ 20000 < v then ResultCode.okClamped else .ok
    exec .setInputLimit s = .next (answered tag code [BitVec.ofNat 8 (n / 256), BitVec.ofNat 8 (n % 256)]
      { s with ppc := { s.ppc with iHL := n } })) ∧
  (∀ (s : State) (tag : Nat) (eta : Byte), RequestAtHead s 0x21 [eta] tag →
    let n := if eta.toNat < 48 then 48 else if 64 < eta.toNat then 64 else eta.toNat
    let code := if eta.toNat < 48 ∨ 64 < eta.toNat then ResultCode.okClamped else .ok
    exec .setEfficiency s =
      .next (answered tag code [BitVec.ofNat 8 n] { s with ppc := { s.ppc with eta := n } })) ∧
  (∀ (s t : State) (w : Sweep), SweepDone s w → exec .sweepCompletion s = .next t →
    (t.ppc.alloc.mode = .adapter → t.ppc.alloc.iEff =
      if s.ppc.iHL = 0 then t.ppc.adapter.iAL else min t.ppc.adapter.iAL s.ppc.iHL) ∧
    (t.ppc.alloc.mode = .batteryOnly → t.ppc.alloc.iEff = 0) ∧
    t.ppc.iLim = t.ppc.alloc.iEff * 31 / 32 ∧ t.ppc.alloc.pUse = t.ppc.alloc.pIn * s.ppc.eta / 64) ∧
  ∀ (c : Instr) (s t : State), exec c s = .next t → (∀ rail rstin prsA prsB, c ≠ .reset rail rstin prsA prsB) →
    (c ≠ .setInputLimit → t.ppc.iHL = s.ppc.iHL) ∧ (c ≠ .setEfficiency → t.ppc.eta = s.ppc.eta)

/-- The settings of chapters 4 to 10: each value is brought into its range, answered OK_CLAMPED if that changed it and OK
otherwise, with the values in force, and nothing else changes but what the rule names at once; a bad selector or flag is
answered BAD_ARGUMENT, and another length BAD_LENGTH (section 11.3). The telemetry period restarts its timer and sets the due mark at each completion, and the next pass
builds the telemetry frame of section 11.2, byte by byte. The model's choices: which values a reply returns (log 24), the
one-byte override expiry, the widths in the switch reply and its 0xFF for a level not taken, the flag bytes 1 for on and 0
for off, the LTR level 1 for asserted and the unnamed bits of the frame 0 (log 11), the lengths of SET_SWITCH_DEBOUNCE that
its rule does not name (log 40), and the period's completion as a command of its own (log 2). -/
def Obligations.SettingsAreClampedAndKept : Prop :=
  ∀ (s : State) (tag : Nat),
    let answers := fun (c : Instr) (clamped : Prop) (data : List Byte) (t : State) =>
      (clamped → exec c s = .next (answered tag .okClamped data t)) ∧
      (¬ clamped → exec c s = .next (answered tag .ok data t))
    let refuses := fun (c : Instr) => exec c s = .next (answered tag .badArgument [] s)
    -- a wrong length
    (∀ args : List Byte,
      let short := fun (c : Instr) => exec c s = .next (answered tag .badLength [] s)
      (RequestAtHead s 0x22 args tag → args.length ≠ 2 → short .setBoost) ∧
      (RequestAtHead s 0x23 args tag → args.length ≠ 2 → short .setChargeInhibit) ∧
      (RequestAtHead s 0x24 args tag → args.length ≠ 2 → short .setBatteryThresholds) ∧
      (RequestAtHead s 0x25 args tag → args = [] → short .setHostTemps) ∧
      (RequestAtHead s 0x26 args tag → args.length ≠ 3 → short .setFanOverride) ∧
      (RequestAtHead s 0x27 args tag → args.length ≠ 2 → short .setKeyDebounce) ∧
      (RequestAtHead s 0x28 args tag →
        (args = [] → short .setSwitchDebounce) ∧
        (args.head? = some 0xFF → args.length ≠ 1 → short .setSwitchDebounce) ∧
        (args ≠ [] → arg1 args 0 < 4 → args.length ≠ 3 → short .setSwitchDebounce)) ∧
      (RequestAtHead s 0x29 args tag → args.length ≠ 2 → short .setTelemetry)) ∧
    -- SET_BOOST
    (∀ flag floor : Byte, RequestAtHead s 0x22 [flag, floor] tag →
      let n := max 5 (min 90 floor.toNat)
      (1 < flag.toNat → refuses .setBoost) ∧
      (flag = 1 → answers .setBoost (n ≠ floor.toNat) [1, BitVec.ofNat 8 n]
        { s with ppc := { s.ppc with boostOn := true, boostFloor := n } }) ∧
      (flag = 0 → answers .setBoost (n ≠ floor.toNat) [0, BitVec.ofNat 8 n]
        { s with ppc := { s.ppc with
          boostOn := false
          boostFloor := n
          setpoints := ⟨{ s.ppc.setpoints.a with boost := 0 }, { s.ppc.setpoints.b with boost := 0 }⟩ } })) ∧
    -- SET_CHARGE_INHIBIT
    (∀ sel flag : Byte, RequestAtHead s 0x23 [sel, flag] tag →
      (2 < sel.toNat ∨ 1 < flag.toNat → refuses .setChargeInhibit) ∧
      (sel.toNat ≤ 2 → flag.toNat ≤ 1 → ∃ t,
        let on := fun (p : Pack) => (t.ppc.charge.get p).inhibit.toNat
        exec .setChargeInhibit s = .next (answered tag .ok [BitVec.ofNat 8 (on .a + 2 * on .b)] t) ∧
        t = { s with ppc := { s.ppc with charge := t.ppc.charge, setpoints := t.ppc.setpoints } } ∧
        ∀ p : Pack,
          let selected := sel = 2 ∨ sel = BitVec.ofNat 8 (packNum p)
          (selected → t.ppc.charge.get p = { s.ppc.charge.get p with inhibit := decide (flag = 1) }) ∧
          (¬ selected → t.ppc.charge.get p = s.ppc.charge.get p) ∧
          (selected → flag = 1 →
            t.ppc.setpoints.get p = { s.ppc.setpoints.get p with chargeI := 0, chargeV := 0 }) ∧
          (¬ (selected ∧ flag = 1) → t.ppc.setpoints.get p = s.ppc.setpoints.get p))) ∧
    -- SET_BATTERY_THRESHOLDS
    (batteryBytes s.ssc =
      [BitVec.ofNat 8 s.ssc.lowThreshold, BitVec.ofNat 8 s.ssc.criticalThreshold,
          BitVec.ofNat 8 (s.ssc.combinedSoc.getD 0xFF), BitVec.ofNat 8 (s.ssc.low.toNat + 2 * s.ssc.critical.toNat)] ++
        put2 (s.ssc.graceTimer.getD 0) ++
        [BitVec.ofNat 8 s.ssc.state.num, BitVec.ofNat 8 s.ssc.mode.num, BitVec.ofNat 8 s.ssc.startCause.num,
          BitVec.ofNat 8 s.ssc.wakeCause]) ∧
    (∀ low critical : Byte, RequestAtHead s 0x24 [low, critical] tag →
      let l := max 5 (min 50 low.toNat)
      let c := max 2 (min (l - 1) critical.toNat)
      ∃ t, exec .setBatteryThresholds s = .next t ∧ t.ssc.lowThreshold = l ∧ t.ssc.criticalThreshold = c ∧
        t.ssc.low = batteryLowHolds t ∧ t.ssc.critical = batteryCriticalHolds t ∧
        (t.ssc.low = true → s.ssc.low = false → Tallied .batteryLow s t) ∧
        (t.ssc.critical = true → s.ssc.critical = false →
          Tallied .batteryCritical s t ∧ t.ssc.graceTimer = some 30000) ∧
        (t.ssc.critical = false → s.ssc.critical = true → t.ssc.graceTimer = none) ∧
        t.ppc = s.ppc ∧ t.ppt = s.ppt ∧ t.lmt = s.lmt ∧ t.swi = s.swi ∧
        t.slc.replies = s.slc.replies ++ [⟨tag,
          if l ≠ low.toNat ∨ c ≠ critical.toNat then .okClamped else .ok, batteryBytes t.ssc, false⟩]) ∧
    -- SET_HOST_TEMPS
    (∀ args : List Byte, args ≠ [] → RequestAtHead s 0x25 args tag →
      let mask := arg1 args 0
      let named := (List.finRange 4).filter fun i => mask.testBit i.val
      (mask = 0 ∨ 15 < mask → refuses .setHostTemps) ∧
      (1 ≤ mask → mask ≤ 15 → args.length ≠ 1 + 2 * named.length →
        exec .setHostTemps s = .next (answered tag .badLength [] s)) ∧
      (1 ≤ mask → mask ≤ 15 → args.length = 1 + 2 * named.length → ∃ t,
        let given := fun (k : Nat) => arg2s args (1 + 2 * k)
        answers .setHostTemps (∃ k, k < named.length ∧ (given k < -400 ∨ 1500 < given k))
          (t.fnc.slots.list.flatMap fun x => put2 x.value ++ [BitVec.ofNat 8 x.refreshed.toNat]) t ∧
        t = { s with fnc := { s.fnc with slots := t.fnc.slots } } ∧
        (∀ (k : Nat) (i : Fin 4), named[k]? = some i →
          t.fnc.slots.get i = ⟨max (-400) (min 1500 (given k)), true, some 5000⟩) ∧
        ∀ i, i ∉ named → t.fnc.slots.get i = s.fnc.slots.get i)) ∧
    -- SET_FAN_OVERRIDE
    (∀ (v : Nat) (seconds : Byte), v < 65536 → RequestAtHead s 0x26 (put2 (v : Int) ++ [seconds]) tag →
      let e := max 1 (min 60 seconds.toNat)
      (v = 0 → exec .setFanOverride s = .next (answered tag .ok (put2 0 ++ put2 0)
        { s with fnc := { s.fnc with overrideDuty := 0, overrideTimer := none } })) ∧
      (v ≠ 0 → answers .setFanOverride (1000 < v ∨ e ≠ seconds.toNat)
        (put2 ((min 1000 v : Nat) : Int) ++ put2 ((1000 * e : Nat) : Int))
        { s with fnc := { s.fnc with overrideDuty := min 1000 v, overrideTimer := some (1000 * e) } })) ∧
    -- SET_KEY_DEBOUNCE
    (∀ press release : Byte, RequestAtHead s 0x27 [press, release] tag →
      let p := max 1 (min 15 press.toNat)
      let r := max 1 (min 15 release.toNat)
      answers .setKeyDebounce (p ≠ press.toNat ∨ r ≠ release.toNat) [BitVec.ofNat 8 p, BitVec.ofNat 8 r]
        { s with kms := { s.kms with pressCount := p, releaseCount := r } }) ∧
    -- SET_SWITCH_DEBOUNCE
    (switchBytes s.swi =
      (([.lid, .hinge, .pwrbtn, .baylatch] : List SwitchInput).flatMap fun i =>
        let x := s.swi.input i
        put2 x.time ++ [(match x.level with | some l => if l then 1 else 0 | none => 0xFF : Byte)] ++
          put2 x.run) ++
        [(match s.swi.holdStage with | .idle => 0 | .counting => 1 | .reported => 2 | .spent => 3 : Byte)] ++
        put2 s.swi.holdCount) ∧
    (RequestAtHead s 0x28 [0xFF] tag → exec .setSwitchDebounce s = .next (answered tag .ok (switchBytes s.swi) s)) ∧
    (∀ (sel : Byte) (v : Nat), v < 65536 → RequestAtHead s 0x28 (sel :: put2 (v : Int)) tag →
      (sel = 0xFF → exec .setSwitchDebounce s = .next (answered tag .badLength [] s)) ∧
      (4 ≤ sel.toNat → sel ≠ 0xFF → refuses .setSwitchDebounce) ∧
      ∀ i : SwitchInput,
        sel = (match i with | .lid => (0 : Byte) | .hinge => 1 | .pwrbtn => 2 | .baylatch => 3) →
        let d := max 5 (min 500 v)
        let w := s.swi.setInput i { s.swi.input i with time := d }
        answers .setSwitchDebounce (d ≠ v) (switchBytes w) { s with swi := w }) ∧
    -- SET_TELEMETRY and the period timer
    (∀ v : Nat, v < 65536 → RequestAtHead s 0x29 (put2 (v : Int)) tag →
      let n := max 50 (min 5000 v)
      (v = 0 → exec .setTelemetry s = .next (answered tag .ok (put2 0)
        { s with evr := { s.evr with period := 0, periodTimer := none, due := false } })) ∧
      (v ≠ 0 → answers .setTelemetry (n ≠ v) (put2 (n : Int))
        { s with evr := { s.evr with period := n, periodTimer := some n, due := true } })) ∧
    (s.evr.periodTimer = some 0 → exec .telemetryPeriodExpiry s =
      .next { s with evr := { s.evr with due := true, periodTimer := some s.evr.period } }) ∧
    (s.evr.periodTimer ≠ some 0 → exec .telemetryPeriodExpiry s = .next s) ∧
    ∀ w t, SweepDone s w → exec .sweepCompletion s = .next t → t.evr.due = false ∧
      (s.evr.due = false → t.evr.telemetry = s.evr.telemetry) ∧
      (s.evr.due = true → t.evr.telemetry = some (telemetryFrame t) ∧ (telemetryFrame t).length = 60 ∧
        telemetryFrame t =
          (let b := fun (n : Nat) => BitVec.ofNat 8 n
          let fast : List (Fin 16) := [0, 1, 2, 3, 4, 5, 6, 7]
          let mark := fun (ch : Fin 16) => (t.sws.latest.get ch).clamped.toNat
          let pack : Pack → List Byte := fun p =>
            [b ((t.ppc.charge.get p).phase.num + 16 * (t.ppc.path.get p).mode.num),
                b ((t.ppc.charge.get p).band.getD 0xFF)] ++
              put2 (t.ppc.setpoints.get p).chargeI ++ put2 (t.ppc.setpoints.get p).chargeV ++
              put2 (t.ppc.setpoints.get p).boost
          let fan : Fan → List Byte := fun f =>
            let x := t.fnc.fans.get f
            let rpm : Nat := match x.silent, x.interval with
              | false, some i => 60000000 / (i * (t.fnc.configs.get f).ppr)
              | _, _ => 0
            [b x.state.num] ++ put2 x.drive ++ put2 (min 65535 rpm : Nat)
          [b t.ppc.alloc.sweep] ++ putStamp t.ppc.alloc.stamp ++ (fast.flatMap fun ch => put2 (t.sws.latest.get ch).value) ++
            [b (mark 0 + 2 * mark 1 + 4 * mark 2 + 8 * mark 3 + 16 * mark 4 + 32 * mark 5 + 64 * mark 6 + 128 * mark 7)] ++
            pack .a ++ pack .b ++ put2 t.ppc.iLim ++ put4 t.ppc.alloc.h ++ put4 t.ppc.alloc.u ++
            [b (t.ppc.throttle.state.num + 4 * t.ppc.ltr.toNat + 8 * t.ppc.alloc.mode.num)] ++ fan .one ++ fan .two ++
            [b (t.ssc.state.num + 8 * t.ssc.mode.num)]))

/-! ## Laws that every command keeps -/

/-- Section 5.3, last rule: every nonzero charge or boost setpoint is a multiple of 32 mA between 128 and 8064 mA, and no
state carries a nonzero charge setpoint of either pack together with a nonzero boost setpoint of either. What a pass writes
is rounded down from a figure bounded by C_k, or rounded up from one bounded by B_k and raised to 128; whatever else
happens, a setpoint stays or becomes 0. -/
def Obligations.SetpointLawIsKept : Prop :=
  (∀ (c : Instr) (s t : State), SetpointLaw s → exec c s = .next t → SetpointLaw t) ∧
  (∀ (s t : State) (w : Sweep), SweepDone s w → exec .sweepCompletion s = .next t → ∀ p : Pack,
    let f := t.ppc.alloc.packs.get p
    let x := t.ppc.setpoints.get p
    f.c ≤ 8064 ∧ (f.b = 0 ∨ (f.b % 32 = 0 ∧ 128 ≤ f.b ∧ f.b ≤ 8064)) ∧
    (∃ i, i ≤ f.c ∧ x.chargeI = if i / 32 * 32 < 128 then 0 else i / 32 * 32) ∧
    (∃ i, x.boost = if i = 0 then 0 else max 128 (min f.b ((i + 31) / 32 * 32))) ∧ x.boost ≤ f.b ∧
    (0 ≤ t.ppc.alloc.h → x.boost = 0) ∧ (t.ppc.alloc.h < 0 → x.chargeI = 0)) ∧
  ∀ (c : Instr) (s t : State), exec c s = .next t → c ≠ .sweepCompletion ∨ (∀ w, ¬ SweepDone s w) → ∀ p : Pack,
    let x := s.ppc.setpoints.get p
    let y := t.ppc.setpoints.get p
    (y.chargeI = x.chargeI ∨ y.chargeI = 0) ∧ (y.chargeV = x.chargeV ∨ y.chargeV = 0) ∧
      (y.boost = x.boost ∨ y.boost = 0)

/-- Sections 2.4, 3.5, 5.4 and 9.6: the action set is always the union of the carried actions, the adapter switch, the path
modes and LTR stand as those sections say, the combined SOC is that of the pack records, and both battery flags stand
exactly while their conditions hold: every command keeps this. -/
def Obligations.ProtectionAndBatteryLawsAreKept : Prop :=
  ∀ (c : Instr) (s t : State), ProtectionLaw s → BatteryLaw s → exec c s = .next t → ProtectionLaw t ∧ BatteryLaw t

/-- Sections 9.1, 9.3, 9.4 and 9.7: SYSEN, WAKE, the three state timers, the part mode, the link state and the pending
link-down stand as the system state says, after every command. -/
def Obligations.StateLawIsKept : Prop :=
  ∀ (c : Instr) (s t : State), StateLaw s → QueueLaw s → exec c s = .next t → StateLaw t

/-- Sections 6.1, 6.5 and 10.5: the gate and the scan countdown follow the switch levels and the system state, and for every
position the PRESS and RELEASE records of the normal queue alternate after its last GAP with the key mark, a standing PRESS
answering to an announced position: every command keeps both. The mark of a gate exit in the present tick (log 37) stands
only with the countdown at 1 and the first pass still to be made. -/
def Obligations.KeyLawsAreKept : Prop :=
  ∀ (c : Instr) (s t : State), KeyLaw s → KeyRecordLaw s → QueueLaw s → exec c s = .next t →
    KeyLaw t ∧ KeyRecordLaw t

/-- Chapters 3 and 8: the fan states agree with their kick timers and retry counts, FAN_FULL drives every fan not locked out
at 1000, a fan in QUIET has no tach record; a port's record, timers, lines and slot agree with its state: every command
keeps both. That a PACK_REQUEST is due only while its slot is WAITING rests on log 17, the model's choice. -/
def Obligations.FanAndPackLawsAreKept : Prop :=
  ∀ (c : Instr) (s t : State), exec c s = .next t → (FanLaw s → FanLaw t) ∧ (PackLaw s → PackLaw t)

/-- Sections 1.5, 10.4, 10.5 and 11.3: the urgent queue never holds two records of one code, the queues, buffers and reply
queue keep their sizes, START stays where it may stand; the schedule stays free of conflicts, and a sweep in progress
carries the counter's number: every command keeps both. -/
def Obligations.QueueAndSweepLawsAreKept : Prop :=
  ∀ (c : Instr) (s t : State), exec c s = .next t → (QueueLaw s → QueueLaw t) ∧ (SweepLaw s → SweepLaw t)
end

