-- ==== Sys2Proof/Laws/State.lean ====
section
/-! SUPPORT. What each update of the state leaves alone: one lemma for each block and each update, true by `rfl`. -/

namespace Sys2Proof.Machine

variable (s : State)

/-! `driveState` -/

@[simp] theorem driveState_tmb (n : SysState) : (driveState n s).tmb = s.tmb := rfl
@[simp] theorem driveState_sws (n : SysState) : (driveState n s).sws = s.sws := rfl
@[simp] theorem driveState_lmt (n : SysState) : (driveState n s).lmt = s.lmt := rfl
@[simp] theorem driveState_ppt (n : SysState) : (driveState n s).ppt = s.ppt := rfl
@[simp] theorem driveState_ppc (n : SysState) : (driveState n s).ppc = s.ppc := rfl
@[simp] theorem driveState_kms (n : SysState) : (driveState n s).kms = s.kms := rfl
@[simp] theorem driveState_swi (n : SysState) : (driveState n s).swi = s.swi := rfl
@[simp] theorem driveState_fnc (n : SysState) : (driveState n s).fnc = s.fnc := rfl
@[simp] theorem driveState_evr (n : SysState) : (driveState n s).evr = s.evr := rfl
@[simp] theorem driveState_slc (n : SysState) : (driveState n s).slc = s.slc := rfl
@[simp] theorem driveState_pending (n : SysState) : (driveState n s).pending = s.pending := rfl

/-! `stopKeys` -/

@[simp] theorem stopKeys_tmb : (stopKeys s).tmb = s.tmb := rfl
@[simp] theorem stopKeys_sws : (stopKeys s).sws = s.sws := rfl
@[simp] theorem stopKeys_lmt : (stopKeys s).lmt = s.lmt := rfl
@[simp] theorem stopKeys_ppt : (stopKeys s).ppt = s.ppt := rfl
@[simp] theorem stopKeys_ppc : (stopKeys s).ppc = s.ppc := rfl
@[simp] theorem stopKeys_swi : (stopKeys s).swi = s.swi := rfl
@[simp] theorem stopKeys_fnc : (stopKeys s).fnc = s.fnc := rfl
@[simp] theorem stopKeys_ssc : (stopKeys s).ssc = s.ssc := rfl
@[simp] theorem stopKeys_slc : (stopKeys s).slc = s.slc := rfl
@[simp] theorem stopKeys_pending : (stopKeys s).pending = s.pending := rfl

/-! `offEntry` -/

@[simp] theorem offEntry_tmb : (offEntry s).tmb = s.tmb := rfl
@[simp] theorem offEntry_sws : (offEntry s).sws = s.sws := rfl
@[simp] theorem offEntry_lmt : (offEntry s).lmt = s.lmt := rfl
@[simp] theorem offEntry_ppt : (offEntry s).ppt = s.ppt := rfl
@[simp] theorem offEntry_ppc : (offEntry s).ppc = s.ppc := rfl
@[simp] theorem offEntry_kms : (offEntry s).kms = s.kms := rfl
@[simp] theorem offEntry_swi : (offEntry s).swi = s.swi := rfl
@[simp] theorem offEntry_fnc : (offEntry s).fnc = s.fnc := rfl
@[simp] theorem offEntry_evr : (offEntry s).evr = s.evr := rfl
@[simp] theorem offEntry_pending : (offEntry s).pending = s.pending := rfl

/-! `record` -/

@[simp] theorem record_tmb (c : EventCode) (n : Nat) (v : Int) (a : Bool) : (record c n v a s).tmb = s.tmb := rfl
@[simp] theorem record_sws (c : EventCode) (n : Nat) (v : Int) (a : Bool) : (record c n v a s).sws = s.sws := rfl
@[simp] theorem record_lmt (c : EventCode) (n : Nat) (v : Int) (a : Bool) : (record c n v a s).lmt = s.lmt := rfl
@[simp] theorem record_ppt (c : EventCode) (n : Nat) (v : Int) (a : Bool) : (record c n v a s).ppt = s.ppt := rfl
@[simp] theorem record_ppc (c : EventCode) (n : Nat) (v : Int) (a : Bool) : (record c n v a s).ppc = s.ppc := rfl
@[simp] theorem record_kms (c : EventCode) (n : Nat) (v : Int) (a : Bool) : (record c n v a s).kms = s.kms := rfl
@[simp] theorem record_swi (c : EventCode) (n : Nat) (v : Int) (a : Bool) : (record c n v a s).swi = s.swi := rfl
@[simp] theorem record_fnc (c : EventCode) (n : Nat) (v : Int) (a : Bool) : (record c n v a s).fnc = s.fnc := rfl
@[simp] theorem record_ssc (c : EventCode) (n : Nat) (v : Int) (a : Bool) : (record c n v a s).ssc = s.ssc := rfl
@[simp] theorem record_slc (c : EventCode) (n : Nat) (v : Int) (a : Bool) : (record c n v a s).slc = s.slc := rfl
@[simp] theorem record_pending (c : EventCode) (n : Nat) (v : Int) (a : Bool) : (record c n v a s).pending = s.pending := rfl

/-! `enqueueReply` -/

@[simp] theorem enqueueReply_tmb (r : Reply) : (enqueueReply r s).tmb = s.tmb := rfl
@[simp] theorem enqueueReply_sws (r : Reply) : (enqueueReply r s).sws = s.sws := rfl
@[simp] theorem enqueueReply_lmt (r : Reply) : (enqueueReply r s).lmt = s.lmt := rfl
@[simp] theorem enqueueReply_ppt (r : Reply) : (enqueueReply r s).ppt = s.ppt := rfl
@[simp] theorem enqueueReply_ppc (r : Reply) : (enqueueReply r s).ppc = s.ppc := rfl
@[simp] theorem enqueueReply_kms (r : Reply) : (enqueueReply r s).kms = s.kms := rfl
@[simp] theorem enqueueReply_swi (r : Reply) : (enqueueReply r s).swi = s.swi := rfl
@[simp] theorem enqueueReply_fnc (r : Reply) : (enqueueReply r s).fnc = s.fnc := rfl
@[simp] theorem enqueueReply_ssc (r : Reply) : (enqueueReply r s).ssc = s.ssc := rfl
@[simp] theorem enqueueReply_evr (r : Reply) : (enqueueReply r s).evr = s.evr := rfl
@[simp] theorem enqueueReply_pending (r : Reply) : (enqueueReply r s).pending = s.pending := rfl

/-! `startGrace` -/

@[simp] theorem startGrace_tmb : (startGrace s).tmb = s.tmb := rfl
@[simp] theorem startGrace_sws : (startGrace s).sws = s.sws := rfl
@[simp] theorem startGrace_lmt : (startGrace s).lmt = s.lmt := rfl
@[simp] theorem startGrace_ppt : (startGrace s).ppt = s.ppt := rfl
@[simp] theorem startGrace_ppc : (startGrace s).ppc = s.ppc := rfl
@[simp] theorem startGrace_kms : (startGrace s).kms = s.kms := rfl
@[simp] theorem startGrace_swi : (startGrace s).swi = s.swi := rfl
@[simp] theorem startGrace_fnc : (startGrace s).fnc = s.fnc := rfl
@[simp] theorem startGrace_evr : (startGrace s).evr = s.evr := rfl
@[simp] theorem startGrace_slc : (startGrace s).slc = s.slc := rfl
@[simp] theorem startGrace_pending : (startGrace s).pending = s.pending := rfl

/-! `redecidePaths` -/

@[simp] theorem redecidePaths_tmb : (redecidePaths s).tmb = s.tmb := rfl
@[simp] theorem redecidePaths_sws : (redecidePaths s).sws = s.sws := rfl
@[simp] theorem redecidePaths_lmt : (redecidePaths s).lmt = s.lmt := rfl
@[simp] theorem redecidePaths_ppt : (redecidePaths s).ppt = s.ppt := rfl
@[simp] theorem redecidePaths_kms : (redecidePaths s).kms = s.kms := rfl
@[simp] theorem redecidePaths_swi : (redecidePaths s).swi = s.swi := rfl
@[simp] theorem redecidePaths_fnc : (redecidePaths s).fnc = s.fnc := rfl
@[simp] theorem redecidePaths_ssc : (redecidePaths s).ssc = s.ssc := rfl
@[simp] theorem redecidePaths_evr : (redecidePaths s).evr = s.evr := rfl
@[simp] theorem redecidePaths_slc : (redecidePaths s).slc = s.slc := rfl
@[simp] theorem redecidePaths_pending : (redecidePaths s).pending = s.pending := rfl

/-! `redriveLtr` -/

@[simp] theorem redriveLtr_tmb : (redriveLtr s).tmb = s.tmb := rfl
@[simp] theorem redriveLtr_sws : (redriveLtr s).sws = s.sws := rfl
@[simp] theorem redriveLtr_lmt : (redriveLtr s).lmt = s.lmt := rfl
@[simp] theorem redriveLtr_ppt : (redriveLtr s).ppt = s.ppt := rfl
@[simp] theorem redriveLtr_kms : (redriveLtr s).kms = s.kms := rfl
@[simp] theorem redriveLtr_swi : (redriveLtr s).swi = s.swi := rfl
@[simp] theorem redriveLtr_fnc : (redriveLtr s).fnc = s.fnc := rfl
@[simp] theorem redriveLtr_ssc : (redriveLtr s).ssc = s.ssc := rfl
@[simp] theorem redriveLtr_evr : (redriveLtr s).evr = s.evr := rfl
@[simp] theorem redriveLtr_slc : (redriveLtr s).slc = s.slc := rfl
@[simp] theorem redriveLtr_pending : (redriveLtr s).pending = s.pending := rfl

/-! `setCharge` -/

@[simp] theorem setCharge_tmb (p : Pack) (c : Charge) : (setCharge p c s).tmb = s.tmb := rfl
@[simp] theorem setCharge_sws (p : Pack) (c : Charge) : (setCharge p c s).sws = s.sws := rfl
@[simp] theorem setCharge_lmt (p : Pack) (c : Charge) : (setCharge p c s).lmt = s.lmt := rfl
@[simp] theorem setCharge_ppt (p : Pack) (c : Charge) : (setCharge p c s).ppt = s.ppt := rfl
@[simp] theorem setCharge_kms (p : Pack) (c : Charge) : (setCharge p c s).kms = s.kms := rfl
@[simp] theorem setCharge_swi (p : Pack) (c : Charge) : (setCharge p c s).swi = s.swi := rfl
@[simp] theorem setCharge_fnc (p : Pack) (c : Charge) : (setCharge p c s).fnc = s.fnc := rfl
@[simp] theorem setCharge_ssc (p : Pack) (c : Charge) : (setCharge p c s).ssc = s.ssc := rfl
@[simp] theorem setCharge_evr (p : Pack) (c : Charge) : (setCharge p c s).evr = s.evr := rfl
@[simp] theorem setCharge_slc (p : Pack) (c : Charge) : (setCharge p c s).slc = s.slc := rfl
@[simp] theorem setCharge_pending (p : Pack) (c : Charge) : (setCharge p c s).pending = s.pending := rfl

/-! `setAdapter` -/

@[simp] theorem setAdapter_tmb (a : Adapter) : (setAdapter a s).tmb = s.tmb := rfl
@[simp] theorem setAdapter_sws (a : Adapter) : (setAdapter a s).sws = s.sws := rfl
@[simp] theorem setAdapter_lmt (a : Adapter) : (setAdapter a s).lmt = s.lmt := rfl
@[simp] theorem setAdapter_ppt (a : Adapter) : (setAdapter a s).ppt = s.ppt := rfl
@[simp] theorem setAdapter_kms (a : Adapter) : (setAdapter a s).kms = s.kms := rfl
@[simp] theorem setAdapter_swi (a : Adapter) : (setAdapter a s).swi = s.swi := rfl
@[simp] theorem setAdapter_fnc (a : Adapter) : (setAdapter a s).fnc = s.fnc := rfl
@[simp] theorem setAdapter_ssc (a : Adapter) : (setAdapter a s).ssc = s.ssc := rfl
@[simp] theorem setAdapter_evr (a : Adapter) : (setAdapter a s).evr = s.evr := rfl
@[simp] theorem setAdapter_slc (a : Adapter) : (setAdapter a s).slc = s.slc := rfl
@[simp] theorem setAdapter_pending (a : Adapter) : (setAdapter a s).pending = s.pending := rfl

/-! `popRequest` -/

@[simp] theorem popRequest_tmb : (popRequest s).tmb = s.tmb := rfl
@[simp] theorem popRequest_sws : (popRequest s).sws = s.sws := rfl
@[simp] theorem popRequest_lmt : (popRequest s).lmt = s.lmt := rfl
@[simp] theorem popRequest_ppt : (popRequest s).ppt = s.ppt := rfl
@[simp] theorem popRequest_ppc : (popRequest s).ppc = s.ppc := rfl
@[simp] theorem popRequest_kms : (popRequest s).kms = s.kms := rfl
@[simp] theorem popRequest_swi : (popRequest s).swi = s.swi := rfl
@[simp] theorem popRequest_fnc : (popRequest s).fnc = s.fnc := rfl
@[simp] theorem popRequest_ssc : (popRequest s).ssc = s.ssc := rfl
@[simp] theorem popRequest_evr : (popRequest s).evr = s.evr := rfl
@[simp] theorem popRequest_pending : (popRequest s).pending = s.pending := rfl

/-! `setTx` -/

@[simp] theorem setTx_tmb (t : Option Tx) : (setTx t s).tmb = s.tmb := rfl
@[simp] theorem setTx_sws (t : Option Tx) : (setTx t s).sws = s.sws := rfl
@[simp] theorem setTx_lmt (t : Option Tx) : (setTx t s).lmt = s.lmt := rfl
@[simp] theorem setTx_ppt (t : Option Tx) : (setTx t s).ppt = s.ppt := rfl
@[simp] theorem setTx_ppc (t : Option Tx) : (setTx t s).ppc = s.ppc := rfl
@[simp] theorem setTx_kms (t : Option Tx) : (setTx t s).kms = s.kms := rfl
@[simp] theorem setTx_swi (t : Option Tx) : (setTx t s).swi = s.swi := rfl
@[simp] theorem setTx_fnc (t : Option Tx) : (setTx t s).fnc = s.fnc := rfl
@[simp] theorem setTx_ssc (t : Option Tx) : (setTx t s).ssc = s.ssc := rfl
@[simp] theorem setTx_evr (t : Option Tx) : (setTx t s).evr = s.evr := rfl
@[simp] theorem setTx_pending (t : Option Tx) : (setTx t s).pending = s.pending := rfl

/-! `sendUrgent` -/

@[simp] theorem sendUrgent_tmb (r : EventRecord) : (sendUrgent r s).tmb = s.tmb := rfl
@[simp] theorem sendUrgent_sws (r : EventRecord) : (sendUrgent r s).sws = s.sws := rfl
@[simp] theorem sendUrgent_lmt (r : EventRecord) : (sendUrgent r s).lmt = s.lmt := rfl
@[simp] theorem sendUrgent_ppt (r : EventRecord) : (sendUrgent r s).ppt = s.ppt := rfl
@[simp] theorem sendUrgent_ppc (r : EventRecord) : (sendUrgent r s).ppc = s.ppc := rfl
@[simp] theorem sendUrgent_kms (r : EventRecord) : (sendUrgent r s).kms = s.kms := rfl
@[simp] theorem sendUrgent_swi (r : EventRecord) : (sendUrgent r s).swi = s.swi := rfl
@[simp] theorem sendUrgent_fnc (r : EventRecord) : (sendUrgent r s).fnc = s.fnc := rfl
@[simp] theorem sendUrgent_ssc (r : EventRecord) : (sendUrgent r s).ssc = s.ssc := rfl
@[simp] theorem sendUrgent_pending (r : EventRecord) : (sendUrgent r s).pending = s.pending := rfl

/-! `sendNormal` -/

@[simp] theorem sendNormal_tmb (r : NormalRecord) : (sendNormal r s).tmb = s.tmb := rfl
@[simp] theorem sendNormal_sws (r : NormalRecord) : (sendNormal r s).sws = s.sws := rfl
@[simp] theorem sendNormal_lmt (r : NormalRecord) : (sendNormal r s).lmt = s.lmt := rfl
@[simp] theorem sendNormal_ppt (r : NormalRecord) : (sendNormal r s).ppt = s.ppt := rfl
@[simp] theorem sendNormal_ppc (r : NormalRecord) : (sendNormal r s).ppc = s.ppc := rfl
@[simp] theorem sendNormal_swi (r : NormalRecord) : (sendNormal r s).swi = s.swi := rfl
@[simp] theorem sendNormal_fnc (r : NormalRecord) : (sendNormal r s).fnc = s.fnc := rfl
@[simp] theorem sendNormal_ssc (r : NormalRecord) : (sendNormal r s).ssc = s.ssc := rfl
@[simp] theorem sendNormal_pending (r : NormalRecord) : (sendNormal r s).pending = s.pending := rfl

/-! `sendBulk` -/

@[simp] theorem sendBulk_tmb (b : BulkSlot) : (sendBulk b s).tmb = s.tmb := rfl
@[simp] theorem sendBulk_sws (b : BulkSlot) : (sendBulk b s).sws = s.sws := rfl
@[simp] theorem sendBulk_lmt (b : BulkSlot) : (sendBulk b s).lmt = s.lmt := rfl
@[simp] theorem sendBulk_ppt (b : BulkSlot) : (sendBulk b s).ppt = s.ppt := rfl
@[simp] theorem sendBulk_ppc (b : BulkSlot) : (sendBulk b s).ppc = s.ppc := rfl
@[simp] theorem sendBulk_kms (b : BulkSlot) : (sendBulk b s).kms = s.kms := rfl
@[simp] theorem sendBulk_swi (b : BulkSlot) : (sendBulk b s).swi = s.swi := rfl
@[simp] theorem sendBulk_fnc (b : BulkSlot) : (sendBulk b s).fnc = s.fnc := rfl
@[simp] theorem sendBulk_ssc (b : BulkSlot) : (sendBulk b s).ssc = s.ssc := rfl
@[simp] theorem sendBulk_pending (b : BulkSlot) : (sendBulk b s).pending = s.pending := rfl

/-! `tickState` -/

@[simp] theorem tickState_lmt (raw : SwitchLevels) : (tickState raw s).lmt = s.lmt := by simp only [tickState]
@[simp] theorem tickState_pending (raw : SwitchLevels) : (tickState raw s).pending = s.pending := by simp only [tickState]

/-! `setFan` -/

@[simp] theorem setFan_tmb (f : Fan) (x : FanState) : (setFan f x s).tmb = s.tmb := rfl
@[simp] theorem setFan_sws (f : Fan) (x : FanState) : (setFan f x s).sws = s.sws := rfl
@[simp] theorem setFan_lmt (f : Fan) (x : FanState) : (setFan f x s).lmt = s.lmt := rfl
@[simp] theorem setFan_ppt (f : Fan) (x : FanState) : (setFan f x s).ppt = s.ppt := rfl
@[simp] theorem setFan_ppc (f : Fan) (x : FanState) : (setFan f x s).ppc = s.ppc := rfl
@[simp] theorem setFan_kms (f : Fan) (x : FanState) : (setFan f x s).kms = s.kms := rfl
@[simp] theorem setFan_swi (f : Fan) (x : FanState) : (setFan f x s).swi = s.swi := rfl
@[simp] theorem setFan_ssc (f : Fan) (x : FanState) : (setFan f x s).ssc = s.ssc := rfl
@[simp] theorem setFan_evr (f : Fan) (x : FanState) : (setFan f x s).evr = s.evr := rfl
@[simp] theorem setFan_slc (f : Fan) (x : FanState) : (setFan f x s).slc = s.slc := rfl
@[simp] theorem setFan_pending (f : Fan) (x : FanState) : (setFan f x s).pending = s.pending := rfl

/-! `setSlot` -/

@[simp] theorem setSlot_tmb (i : Fin 4) (x : HostSlot) : (setSlot i x s).tmb = s.tmb := rfl
@[simp] theorem setSlot_sws (i : Fin 4) (x : HostSlot) : (setSlot i x s).sws = s.sws := rfl
@[simp] theorem setSlot_lmt (i : Fin 4) (x : HostSlot) : (setSlot i x s).lmt = s.lmt := rfl
@[simp] theorem setSlot_ppt (i : Fin 4) (x : HostSlot) : (setSlot i x s).ppt = s.ppt := rfl
@[simp] theorem setSlot_ppc (i : Fin 4) (x : HostSlot) : (setSlot i x s).ppc = s.ppc := rfl
@[simp] theorem setSlot_kms (i : Fin 4) (x : HostSlot) : (setSlot i x s).kms = s.kms := rfl
@[simp] theorem setSlot_swi (i : Fin 4) (x : HostSlot) : (setSlot i x s).swi = s.swi := rfl
@[simp] theorem setSlot_ssc (i : Fin 4) (x : HostSlot) : (setSlot i x s).ssc = s.ssc := rfl
@[simp] theorem setSlot_evr (i : Fin 4) (x : HostSlot) : (setSlot i x s).evr = s.evr := rfl
@[simp] theorem setSlot_slc (i : Fin 4) (x : HostSlot) : (setSlot i x s).slc = s.slc := rfl
@[simp] theorem setSlot_pending (i : Fin 4) (x : HostSlot) : (setSlot i x s).pending = s.pending := rfl

/-! `setPort` -/

@[simp] theorem setPort_tmb (p : Pack) (x : Port) : (setPort p x s).tmb = s.tmb := rfl
@[simp] theorem setPort_sws (p : Pack) (x : Port) : (setPort p x s).sws = s.sws := rfl
@[simp] theorem setPort_lmt (p : Pack) (x : Port) : (setPort p x s).lmt = s.lmt := rfl
@[simp] theorem setPort_ppc (p : Pack) (x : Port) : (setPort p x s).ppc = s.ppc := rfl
@[simp] theorem setPort_kms (p : Pack) (x : Port) : (setPort p x s).kms = s.kms := rfl
@[simp] theorem setPort_swi (p : Pack) (x : Port) : (setPort p x s).swi = s.swi := rfl
@[simp] theorem setPort_fnc (p : Pack) (x : Port) : (setPort p x s).fnc = s.fnc := rfl
@[simp] theorem setPort_ssc (p : Pack) (x : Port) : (setPort p x s).ssc = s.ssc := rfl
@[simp] theorem setPort_evr (p : Pack) (x : Port) : (setPort p x s).evr = s.evr := rfl
@[simp] theorem setPort_slc (p : Pack) (x : Port) : (setPort p x s).slc = s.slc := rfl
@[simp] theorem setPort_pending (p : Pack) (x : Port) : (setPort p x s).pending = s.pending := rfl

/-! `placeRelay` -/

@[simp] theorem placeRelay_tmb (p : Pack) (raw : List Byte) : (placeRelay p raw s).tmb = s.tmb := rfl
@[simp] theorem placeRelay_sws (p : Pack) (raw : List Byte) : (placeRelay p raw s).sws = s.sws := rfl
@[simp] theorem placeRelay_lmt (p : Pack) (raw : List Byte) : (placeRelay p raw s).lmt = s.lmt := rfl
@[simp] theorem placeRelay_ppt (p : Pack) (raw : List Byte) : (placeRelay p raw s).ppt = s.ppt := rfl
@[simp] theorem placeRelay_ppc (p : Pack) (raw : List Byte) : (placeRelay p raw s).ppc = s.ppc := rfl
@[simp] theorem placeRelay_kms (p : Pack) (raw : List Byte) : (placeRelay p raw s).kms = s.kms := rfl
@[simp] theorem placeRelay_swi (p : Pack) (raw : List Byte) : (placeRelay p raw s).swi = s.swi := rfl
@[simp] theorem placeRelay_fnc (p : Pack) (raw : List Byte) : (placeRelay p raw s).fnc = s.fnc := rfl
@[simp] theorem placeRelay_ssc (p : Pack) (raw : List Byte) : (placeRelay p raw s).ssc = s.ssc := rfl
@[simp] theorem placeRelay_slc (p : Pack) (raw : List Byte) : (placeRelay p raw s).slc = s.slc := rfl
@[simp] theorem placeRelay_pending (p : Pack) (raw : List Byte) : (placeRelay p raw s).pending = s.pending := rfl

/-! `setFilter` -/

@[simp] theorem setFilter_tmb (i : Fin 8) (e : Option FilterEntry) : (setFilter i e s).tmb = s.tmb := rfl
@[simp] theorem setFilter_sws (i : Fin 8) (e : Option FilterEntry) : (setFilter i e s).sws = s.sws := rfl
@[simp] theorem setFilter_lmt (i : Fin 8) (e : Option FilterEntry) : (setFilter i e s).lmt = s.lmt := rfl
@[simp] theorem setFilter_ppc (i : Fin 8) (e : Option FilterEntry) : (setFilter i e s).ppc = s.ppc := rfl
@[simp] theorem setFilter_kms (i : Fin 8) (e : Option FilterEntry) : (setFilter i e s).kms = s.kms := rfl
@[simp] theorem setFilter_swi (i : Fin 8) (e : Option FilterEntry) : (setFilter i e s).swi = s.swi := rfl
@[simp] theorem setFilter_fnc (i : Fin 8) (e : Option FilterEntry) : (setFilter i e s).fnc = s.fnc := rfl
@[simp] theorem setFilter_ssc (i : Fin 8) (e : Option FilterEntry) : (setFilter i e s).ssc = s.ssc := rfl
@[simp] theorem setFilter_evr (i : Fin 8) (e : Option FilterEntry) : (setFilter i e s).evr = s.evr := rfl
@[simp] theorem setFilter_slc (i : Fin 8) (e : Option FilterEntry) : (setFilter i e s).slc = s.slc := rfl
@[simp] theorem setFilter_pending (i : Fin 8) (e : Option FilterEntry) : (setFilter i e s).pending = s.pending := rfl

/-! `setKey` -/

@[simp] theorem setKey_tmb (p : Fin 144) (r : PosRec) : (setKey p r s).tmb = s.tmb := rfl
@[simp] theorem setKey_sws (p : Fin 144) (r : PosRec) : (setKey p r s).sws = s.sws := rfl
@[simp] theorem setKey_lmt (p : Fin 144) (r : PosRec) : (setKey p r s).lmt = s.lmt := rfl
@[simp] theorem setKey_ppt (p : Fin 144) (r : PosRec) : (setKey p r s).ppt = s.ppt := rfl
@[simp] theorem setKey_ppc (p : Fin 144) (r : PosRec) : (setKey p r s).ppc = s.ppc := rfl
@[simp] theorem setKey_swi (p : Fin 144) (r : PosRec) : (setKey p r s).swi = s.swi := rfl
@[simp] theorem setKey_fnc (p : Fin 144) (r : PosRec) : (setKey p r s).fnc = s.fnc := rfl
@[simp] theorem setKey_ssc (p : Fin 144) (r : PosRec) : (setKey p r s).ssc = s.ssc := rfl
@[simp] theorem setKey_evr (p : Fin 144) (r : PosRec) : (setKey p r s).evr = s.evr := rfl
@[simp] theorem setKey_slc (p : Fin 144) (r : PosRec) : (setKey p r s).slc = s.slc := rfl
@[simp] theorem setKey_pending (p : Fin 144) (r : PosRec) : (setKey p r s).pending = s.pending := rfl

/-! `placeKey` -/

@[simp] theorem placeKey_tmb (r : KeyRecord) : (placeKey r s).tmb = s.tmb := rfl
@[simp] theorem placeKey_sws (r : KeyRecord) : (placeKey r s).sws = s.sws := rfl
@[simp] theorem placeKey_lmt (r : KeyRecord) : (placeKey r s).lmt = s.lmt := rfl
@[simp] theorem placeKey_ppt (r : KeyRecord) : (placeKey r s).ppt = s.ppt := rfl
@[simp] theorem placeKey_ppc (r : KeyRecord) : (placeKey r s).ppc = s.ppc := rfl
@[simp] theorem placeKey_kms (r : KeyRecord) : (placeKey r s).kms = s.kms := rfl
@[simp] theorem placeKey_swi (r : KeyRecord) : (placeKey r s).swi = s.swi := rfl
@[simp] theorem placeKey_fnc (r : KeyRecord) : (placeKey r s).fnc = s.fnc := rfl
@[simp] theorem placeKey_ssc (r : KeyRecord) : (placeKey r s).ssc = s.ssc := rfl
@[simp] theorem placeKey_slc (r : KeyRecord) : (placeKey r s).slc = s.slc := rfl
@[simp] theorem placeKey_pending (r : KeyRecord) : (placeKey r s).pending = s.pending := rfl

/-! `setInput` -/

@[simp] theorem setInput_tmb (i : SwitchInput) (x : Input) : (setInput i x s).tmb = s.tmb := rfl
@[simp] theorem setInput_sws (i : SwitchInput) (x : Input) : (setInput i x s).sws = s.sws := rfl
@[simp] theorem setInput_lmt (i : SwitchInput) (x : Input) : (setInput i x s).lmt = s.lmt := rfl
@[simp] theorem setInput_ppt (i : SwitchInput) (x : Input) : (setInput i x s).ppt = s.ppt := rfl
@[simp] theorem setInput_ppc (i : SwitchInput) (x : Input) : (setInput i x s).ppc = s.ppc := rfl
@[simp] theorem setInput_kms (i : SwitchInput) (x : Input) : (setInput i x s).kms = s.kms := rfl
@[simp] theorem setInput_fnc (i : SwitchInput) (x : Input) : (setInput i x s).fnc = s.fnc := rfl
@[simp] theorem setInput_ssc (i : SwitchInput) (x : Input) : (setInput i x s).ssc = s.ssc := rfl
@[simp] theorem setInput_evr (i : SwitchInput) (x : Input) : (setInput i x s).evr = s.evr := rfl
@[simp] theorem setInput_slc (i : SwitchInput) (x : Input) : (setInput i x s).slc = s.slc := rfl
@[simp] theorem setInput_pending (i : SwitchInput) (x : Input) : (setInput i x s).pending = s.pending := rfl

/-! `selectCurves` -/

@[simp] theorem selectCurves_tmb : (selectCurves s).tmb = s.tmb := rfl
@[simp] theorem selectCurves_sws : (selectCurves s).sws = s.sws := rfl
@[simp] theorem selectCurves_lmt : (selectCurves s).lmt = s.lmt := rfl
@[simp] theorem selectCurves_ppt : (selectCurves s).ppt = s.ppt := rfl
@[simp] theorem selectCurves_ppc : (selectCurves s).ppc = s.ppc := rfl
@[simp] theorem selectCurves_kms : (selectCurves s).kms = s.kms := rfl
@[simp] theorem selectCurves_swi : (selectCurves s).swi = s.swi := rfl
@[simp] theorem selectCurves_ssc : (selectCurves s).ssc = s.ssc := rfl
@[simp] theorem selectCurves_evr : (selectCurves s).evr = s.evr := rfl
@[simp] theorem selectCurves_slc : (selectCurves s).slc = s.slc := rfl
@[simp] theorem selectCurves_pending : (selectCurves s).pending = s.pending := rfl

/-! `unlockFans` -/

@[simp] theorem unlockFans_tmb : (unlockFans s).tmb = s.tmb := rfl
@[simp] theorem unlockFans_sws : (unlockFans s).sws = s.sws := rfl
@[simp] theorem unlockFans_lmt : (unlockFans s).lmt = s.lmt := rfl
@[simp] theorem unlockFans_ppt : (unlockFans s).ppt = s.ppt := rfl
@[simp] theorem unlockFans_ppc : (unlockFans s).ppc = s.ppc := rfl
@[simp] theorem unlockFans_kms : (unlockFans s).kms = s.kms := rfl
@[simp] theorem unlockFans_swi : (unlockFans s).swi = s.swi := rfl
@[simp] theorem unlockFans_ssc : (unlockFans s).ssc = s.ssc := rfl
@[simp] theorem unlockFans_evr : (unlockFans s).evr = s.evr := rfl
@[simp] theorem unlockFans_slc : (unlockFans s).slc = s.slc := rfl
@[simp] theorem unlockFans_pending : (unlockFans s).pending = s.pending := rfl

/-! `clearLatches` -/

@[simp] theorem clearLatches_tmb : (clearLatches s).tmb = s.tmb := rfl
@[simp] theorem clearLatches_sws : (clearLatches s).sws = s.sws := rfl
@[simp] theorem clearLatches_lmt : (clearLatches s).lmt = s.lmt := rfl
@[simp] theorem clearLatches_ppt : (clearLatches s).ppt = s.ppt := rfl
@[simp] theorem clearLatches_kms : (clearLatches s).kms = s.kms := rfl
@[simp] theorem clearLatches_swi : (clearLatches s).swi = s.swi := rfl
@[simp] theorem clearLatches_fnc : (clearLatches s).fnc = s.fnc := rfl
@[simp] theorem clearLatches_ssc : (clearLatches s).ssc = s.ssc := rfl
@[simp] theorem clearLatches_evr : (clearLatches s).evr = s.evr := rfl
@[simp] theorem clearLatches_slc : (clearLatches s).slc = s.slc := rfl
@[simp] theorem clearLatches_pending : (clearLatches s).pending = s.pending := rfl

/-! `restartLink` -/

@[simp] theorem restartLink_tmb : (restartLink s).tmb = s.tmb := rfl
@[simp] theorem restartLink_sws : (restartLink s).sws = s.sws := rfl
@[simp] theorem restartLink_lmt : (restartLink s).lmt = s.lmt := rfl
@[simp] theorem restartLink_ppc : (restartLink s).ppc = s.ppc := rfl
@[simp] theorem restartLink_swi : (restartLink s).swi = s.swi := rfl
@[simp] theorem restartLink_fnc : (restartLink s).fnc = s.fnc := rfl
@[simp] theorem restartLink_ssc : (restartLink s).ssc = s.ssc := rfl
@[simp] theorem restartLink_pending : (restartLink s).pending = s.pending := rfl

/-! `setProfile` -/

@[simp] theorem setProfile_tmb (i : Fin 4) (x : Profile) : (setProfile i x s).tmb = s.tmb := rfl
@[simp] theorem setProfile_sws (i : Fin 4) (x : Profile) : (setProfile i x s).sws = s.sws := rfl
@[simp] theorem setProfile_lmt (i : Fin 4) (x : Profile) : (setProfile i x s).lmt = s.lmt := rfl
@[simp] theorem setProfile_ppt (i : Fin 4) (x : Profile) : (setProfile i x s).ppt = s.ppt := rfl
@[simp] theorem setProfile_kms (i : Fin 4) (x : Profile) : (setProfile i x s).kms = s.kms := rfl
@[simp] theorem setProfile_swi (i : Fin 4) (x : Profile) : (setProfile i x s).swi = s.swi := rfl
@[simp] theorem setProfile_fnc (i : Fin 4) (x : Profile) : (setProfile i x s).fnc = s.fnc := rfl
@[simp] theorem setProfile_ssc (i : Fin 4) (x : Profile) : (setProfile i x s).ssc = s.ssc := rfl
@[simp] theorem setProfile_evr (i : Fin 4) (x : Profile) : (setProfile i x s).evr = s.evr := rfl
@[simp] theorem setProfile_slc (i : Fin 4) (x : Profile) : (setProfile i x s).slc = s.slc := rfl
@[simp] theorem setProfile_pending (i : Fin 4) (x : Profile) : (setProfile i x s).pending = s.pending := rfl

/-! `setAdapterEntry` -/

@[simp] theorem setAdapterEntry_tmb (i : Fin 8) (e : Option AdapterEntry) : (setAdapterEntry i e s).tmb = s.tmb := rfl
@[simp] theorem setAdapterEntry_sws (i : Fin 8) (e : Option AdapterEntry) : (setAdapterEntry i e s).sws = s.sws := rfl
@[simp] theorem setAdapterEntry_lmt (i : Fin 8) (e : Option AdapterEntry) : (setAdapterEntry i e s).lmt = s.lmt := rfl
@[simp] theorem setAdapterEntry_ppt (i : Fin 8) (e : Option AdapterEntry) : (setAdapterEntry i e s).ppt = s.ppt := rfl
@[simp] theorem setAdapterEntry_kms (i : Fin 8) (e : Option AdapterEntry) : (setAdapterEntry i e s).kms = s.kms := rfl
@[simp] theorem setAdapterEntry_swi (i : Fin 8) (e : Option AdapterEntry) : (setAdapterEntry i e s).swi = s.swi := rfl
@[simp] theorem setAdapterEntry_fnc (i : Fin 8) (e : Option AdapterEntry) : (setAdapterEntry i e s).fnc = s.fnc := rfl
@[simp] theorem setAdapterEntry_ssc (i : Fin 8) (e : Option AdapterEntry) : (setAdapterEntry i e s).ssc = s.ssc := rfl
@[simp] theorem setAdapterEntry_evr (i : Fin 8) (e : Option AdapterEntry) : (setAdapterEntry i e s).evr = s.evr := rfl
@[simp] theorem setAdapterEntry_slc (i : Fin 8) (e : Option AdapterEntry) : (setAdapterEntry i e s).slc = s.slc := rfl
@[simp] theorem setAdapterEntry_pending (i : Fin 8) (e : Option AdapterEntry) : (setAdapterEntry i e s).pending = s.pending := rfl

/-! `loadCurve` -/

@[simp] theorem loadCurve_tmb (f : Fan) (i : Fin 3) (c : Curve) : (loadCurve f i c s).tmb = s.tmb := rfl
@[simp] theorem loadCurve_sws (f : Fan) (i : Fin 3) (c : Curve) : (loadCurve f i c s).sws = s.sws := rfl
@[simp] theorem loadCurve_lmt (f : Fan) (i : Fin 3) (c : Curve) : (loadCurve f i c s).lmt = s.lmt := rfl
@[simp] theorem loadCurve_ppt (f : Fan) (i : Fin 3) (c : Curve) : (loadCurve f i c s).ppt = s.ppt := rfl
@[simp] theorem loadCurve_ppc (f : Fan) (i : Fin 3) (c : Curve) : (loadCurve f i c s).ppc = s.ppc := rfl
@[simp] theorem loadCurve_kms (f : Fan) (i : Fin 3) (c : Curve) : (loadCurve f i c s).kms = s.kms := rfl
@[simp] theorem loadCurve_swi (f : Fan) (i : Fin 3) (c : Curve) : (loadCurve f i c s).swi = s.swi := rfl
@[simp] theorem loadCurve_ssc (f : Fan) (i : Fin 3) (c : Curve) : (loadCurve f i c s).ssc = s.ssc := rfl
@[simp] theorem loadCurve_evr (f : Fan) (i : Fin 3) (c : Curve) : (loadCurve f i c s).evr = s.evr := rfl
@[simp] theorem loadCurve_slc (f : Fan) (i : Fin 3) (c : Curve) : (loadCurve f i c s).slc = s.slc := rfl
@[simp] theorem loadCurve_pending (f : Fan) (i : Fin 3) (c : Curve) : (loadCurve f i c s).pending = s.pending := rfl

end Sys2Proof.Machine
end

