-- ==== Sys2Proof/Laws/Charge.lean ====
section
/-! SUPPORT. What a charge state's band step and tick can do (04: R60 to R63, R71, R72). -/

namespace Sys2Proof.Machine

variable (s : State) (p : Pack)

@[simp] theorem setCharge_charge (c : Charge) : (setCharge p c s).ppc.charge.get p = c := by cases p <;> rfl

/-- The band step of a pack with a record takes the fast-charge limit of the record's profile into force (R60). -/
theorem stepBand_fastLimit (r : PackRecord) (h : (s.ppt.ports.get p).record = some r) :
    ((stepBand p s).ppc.charge.get p).fastLimit = (profileAt s.ppc.profiles r.profile).fastLimit := by
  simp [stepBand, h]

/-- The band step of a pack without a record keeps the limit in force. -/
theorem stepBand_fastLimit_of_none (h : (s.ppt.ports.get p).record = none) :
    ((stepBand p s).ppc.charge.get p).fastLimit = (s.ppc.charge.get p).fastLimit := by
  simp [stepBand, h]

/-- A tick leaves a charge state as it is, or counts its precharge timer, or counts its fast-charge timer (R71, R72). -/
theorem packTick_cases :
    let c := s.ppc.charge.get p
    packTick s p = c ∨
      (c.phase = .precharge ∧ packTick s p = { c with
        preTimer := c.preTimer + 1
        due := if preLimit ≤ c.preTimer + 1 then some .precharge else c.due }) ∨
      ((c.phase = .bulk ∨ c.phase = .taper) ∧ 0 < (s.ppc.setpoints.get p).chargeI ∧ packTick s p = { c with
        fastTimer := c.fastTimer + 1
        due := if c.fastLimit * 60000 ≤ c.fastTimer + 1 then some .fast else c.due }) := by
  intro c
  by_cases h : 0 < (s.ppc.setpoints.get p).chargeI <;> cases hp : c.phase <;> simp_all [packTick, chargeTick, c]

end Sys2Proof.Machine
end

