-- ==== Sys2Proof/Laws/Keys.lean ====
section
/-! SUPPORT. What stopping, starting and a gate exit leave of the scanner, and when a pass is made (06: R102 to R104). -/

namespace Sys2Proof.Machine

variable (k : Kms) (s : State)

@[simp] theorem Kms.stopped_countdown : k.stopped.countdown = none := rfl
@[simp] theorem Kms.stopped_firstPass : k.stopped.firstPass = true := rfl
@[simp] theorem Kms.stopped_exited : k.stopped.exited = false := rfl
@[simp] theorem Kms.stopped_gated : k.stopped.gated = k.gated := rfl

@[simp] theorem Kms.started_countdown : k.started.countdown = some 1 := rfl
@[simp] theorem Kms.started_firstPass : k.started.firstPass = true := rfl
@[simp] theorem Kms.started_exited : k.started.exited = k.exited := rfl
@[simp] theorem Kms.started_gated : k.started.gated = k.gated := rfl
@[simp] theorem Kms.started_positions : k.started.positions = k.positions := rfl

@[simp] theorem Kms.ungated_countdown : k.ungated.countdown = some 1 := rfl
@[simp] theorem Kms.ungated_firstPass : k.ungated.firstPass = true := rfl
@[simp] theorem Kms.ungated_exited : k.ungated.exited = true := rfl
@[simp] theorem Kms.ungated_gated : k.ungated.gated = k.gated := rfl
@[simp] theorem Kms.ungated_positions : k.ungated.positions = k.positions := rfl

/-- When a pass is made: at a countdown of 0 (R102), or under the mark of a gate exit while the scanner runs (R104). -/
theorem Kms.passDue_iff :
    k.passDue = true ↔ k.countdown = some 0 ∨ (k.exited = true ∧ k.countdown ≠ none) := by
  cases h : k.countdown <;> simp [Kms.passDue, h]

/-- A SCAN_PASS that is not due changes nothing. -/
theorem execScanPass_of_not_due (image : List Bool) (h : k.passDue = false) (hk : s.kms = k) :
    execScanPass image s = .next s := by
  simp [execScanPass, hk, h]

/-- A SCAN_PASS that is due runs the matrix pass. -/
theorem execScanPass_of_due (image : List Bool) (h : k.passDue = true) (hk : s.kms = k) :
    execScanPass image s = .next (scanMatrix image s) := by
  simp [execScanPass, hk, h]

end Sys2Proof.Machine
end

