-- ==== Sys2Proof/Laws/Route.lean ====
section
/-! SUPPORT. What a change of the part mode and an event on its way through EVR to SSC leave alone (R165, R168). -/

namespace Sys2Proof.Machine

variable (s : State)

@[simp] theorem setMode_lmt (m : PartMode) : (setMode m s).lmt = s.lmt := by
  unfold setMode; split <;> [rfl; (cases m <;> rfl)]
@[simp] theorem setMode_ppt (m : PartMode) : (setMode m s).ppt = s.ppt := by
  unfold setMode; split <;> [rfl; (cases m <;> rfl)]
@[simp] theorem setMode_ppc (m : PartMode) : (setMode m s).ppc = s.ppc := by
  unfold setMode; split <;> [rfl; (cases m <;> rfl)]
@[simp] theorem setMode_swi (m : PartMode) : (setMode m s).swi = s.swi := by
  unfold setMode; split <;> [rfl; (cases m <;> rfl)]
@[simp] theorem setMode_slc (m : PartMode) : (setMode m s).slc = s.slc := by
  unfold setMode; split <;> [rfl; (cases m <;> rfl)]
@[simp] theorem setMode_pending (m : PartMode) : (setMode m s).pending = s.pending := by
  unfold setMode; split <;> [rfl; (cases m <;> rfl)]
@[simp] theorem setMode_sws_schedule (m : PartMode) : (setMode m s).sws.schedule = s.sws.schedule := by
  unfold setMode; split <;> [rfl; (cases m <;> rfl)]
@[simp] theorem setMode_sws_counter (m : PartMode) : (setMode m s).sws.counter = s.sws.counter := by
  unfold setMode; split <;> [rfl; (cases m <;> rfl)]
@[simp] theorem setMode_sws_latest (m : PartMode) : (setMode m s).sws.latest = s.sws.latest := by
  unfold setMode; split <;> [rfl; (cases m <;> rfl)]
@[simp] theorem setMode_sws_sweep (m : PartMode) : (setMode m s).sws.sweep = s.sws.sweep := by
  unfold setMode; split <;> [rfl; (cases m <;> rfl)]
@[simp] theorem setMode_tmb_ms (m : PartMode) : (setMode m s).tmb.ms = s.tmb.ms := by
  unfold setMode; split <;> [rfl; (cases m <;> rfl)]
@[simp] theorem setMode_tmb_acc (m : PartMode) : (setMode m s).tmb.acc = s.tmb.acc := by
  unfold setMode; split <;> [rfl; (cases m <;> rfl)]
@[simp] theorem setMode_tmb_clockPeriods (m : PartMode) : (setMode m s).tmb.clockPeriods = s.tmb.clockPeriods := by
  unfold setMode; split <;> [rfl; (cases m <;> rfl)]
@[simp] theorem setMode_fnc_curves (m : PartMode) : (setMode m s).fnc.curves = s.fnc.curves := by
  unfold setMode; split <;> [rfl; (cases m <;> rfl)]
@[simp] theorem setMode_fnc_configs (m : PartMode) : (setMode m s).fnc.configs = s.fnc.configs := by
  unfold setMode; split <;> [rfl; (cases m <;> rfl)]
@[simp] theorem setMode_fnc_set (m : PartMode) : (setMode m s).fnc.set = s.fnc.set := by
  unfold setMode; split <;> [rfl; (cases m <;> rfl)]
@[simp] theorem setMode_fnc_slots (m : PartMode) : (setMode m s).fnc.slots = s.fnc.slots := by
  unfold setMode; split <;> [rfl; (cases m <;> rfl)]
@[simp] theorem setMode_fnc_overrideDuty (m : PartMode) : (setMode m s).fnc.overrideDuty = s.fnc.overrideDuty := by
  unfold setMode; split <;> [rfl; (cases m <;> rfl)]
@[simp] theorem setMode_fnc_overrideTimer (m : PartMode) : (setMode m s).fnc.overrideTimer = s.fnc.overrideTimer := by
  unfold setMode; split <;> [rfl; (cases m <;> rfl)]
@[simp] theorem setMode_ssc_startCause (m : PartMode) : (setMode m s).ssc.startCause = s.ssc.startCause := by
  unfold setMode; split <;> [rfl; (cases m <;> rfl)]
@[simp] theorem setMode_ssc_lowThreshold (m : PartMode) : (setMode m s).ssc.lowThreshold = s.ssc.lowThreshold := by
  unfold setMode; split <;> [rfl; (cases m <;> rfl)]
@[simp] theorem setMode_ssc_criticalThreshold (m : PartMode) : (setMode m s).ssc.criticalThreshold = s.ssc.criticalThreshold := by
  unfold setMode; split <;> [rfl; (cases m <;> rfl)]
@[simp] theorem setMode_ssc_combinedSoc (m : PartMode) : (setMode m s).ssc.combinedSoc = s.ssc.combinedSoc := by
  unfold setMode; split <;> [rfl; (cases m <;> rfl)]
@[simp] theorem setMode_ssc_low (m : PartMode) : (setMode m s).ssc.low = s.ssc.low := by
  unfold setMode; split <;> [rfl; (cases m <;> rfl)]
@[simp] theorem setMode_ssc_critical (m : PartMode) : (setMode m s).ssc.critical = s.ssc.critical := by
  unfold setMode; split <;> [rfl; (cases m <;> rfl)]
@[simp] theorem setMode_ssc_haltTimer (m : PartMode) : (setMode m s).ssc.haltTimer = s.ssc.haltTimer := by
  unfold setMode; split <;> [rfl; (cases m <;> rfl)]
@[simp] theorem setMode_ssc_graceTimer (m : PartMode) : (setMode m s).ssc.graceTimer = s.ssc.graceTimer := by
  unfold setMode; split <;> [rfl; (cases m <;> rfl)]
@[simp] theorem setMode_kms (m : PartMode) : (setMode m s).kms = s.kms := by
  unfold setMode; split <;> [rfl; (cases m <;> rfl)]
@[simp] theorem setMode_evr (m : PartMode) : (setMode m s).evr = s.evr := by
  unfold setMode; split <;> [rfl; (cases m <;> rfl)]
@[simp] theorem setMode_ssc_state (m : PartMode) : (setMode m s).ssc.state = s.ssc.state := by
  unfold setMode; split <;> [rfl; (cases m <;> rfl)]
@[simp] theorem setMode_ssc_sysen (m : PartMode) : (setMode m s).ssc.sysen = s.ssc.sysen := by
  unfold setMode; split <;> [rfl; (cases m <;> rfl)]
@[simp] theorem setMode_ssc_wake (m : PartMode) : (setMode m s).ssc.wake = s.ssc.wake := by
  unfold setMode; split <;> [rfl; (cases m <;> rfl)]
@[simp] theorem setMode_ssc_bootTimer (m : PartMode) : (setMode m s).ssc.bootTimer = s.ssc.bootTimer := by
  unfold setMode; split <;> [rfl; (cases m <;> rfl)]
@[simp] theorem setMode_ssc_wakeTimer (m : PartMode) : (setMode m s).ssc.wakeTimer = s.ssc.wakeTimer := by
  unfold setMode; split <;> [rfl; (cases m <;> rfl)]
@[simp] theorem setMode_ssc_wakeCause (m : PartMode) : (setMode m s).ssc.wakeCause = s.ssc.wakeCause := by
  unfold setMode; split <;> [rfl; (cases m <;> rfl)]

@[simp] theorem setMode_mode (m : PartMode) : (setMode m s).ssc.mode = m := by
  unfold setMode; split <;> [exact (‹m = _›).symm; (cases m <;> rfl)]

@[simp] theorem moveMode_lmt (o n : SysState) : (moveMode o n s).lmt = s.lmt := by
  unfold moveMode; split <;> split <;> simp
@[simp] theorem moveMode_ppt (o n : SysState) : (moveMode o n s).ppt = s.ppt := by
  unfold moveMode; split <;> split <;> simp
@[simp] theorem moveMode_ppc (o n : SysState) : (moveMode o n s).ppc = s.ppc := by
  unfold moveMode; split <;> split <;> simp
@[simp] theorem moveMode_swi (o n : SysState) : (moveMode o n s).swi = s.swi := by
  unfold moveMode; split <;> split <;> simp
@[simp] theorem moveMode_slc (o n : SysState) : (moveMode o n s).slc = s.slc := by
  unfold moveMode; split <;> split <;> simp
@[simp] theorem moveMode_pending (o n : SysState) : (moveMode o n s).pending = s.pending := by
  unfold moveMode; split <;> split <;> simp
@[simp] theorem moveMode_sws_schedule (o n : SysState) : (moveMode o n s).sws.schedule = s.sws.schedule := by
  unfold moveMode; split <;> split <;> simp
@[simp] theorem moveMode_sws_counter (o n : SysState) : (moveMode o n s).sws.counter = s.sws.counter := by
  unfold moveMode; split <;> split <;> simp
@[simp] theorem moveMode_sws_latest (o n : SysState) : (moveMode o n s).sws.latest = s.sws.latest := by
  unfold moveMode; split <;> split <;> simp
@[simp] theorem moveMode_sws_sweep (o n : SysState) : (moveMode o n s).sws.sweep = s.sws.sweep := by
  unfold moveMode; split <;> split <;> simp
@[simp] theorem moveMode_tmb_ms (o n : SysState) : (moveMode o n s).tmb.ms = s.tmb.ms := by
  unfold moveMode; split <;> split <;> simp
@[simp] theorem moveMode_tmb_acc (o n : SysState) : (moveMode o n s).tmb.acc = s.tmb.acc := by
  unfold moveMode; split <;> split <;> simp
@[simp] theorem moveMode_tmb_clockPeriods (o n : SysState) : (moveMode o n s).tmb.clockPeriods = s.tmb.clockPeriods := by
  unfold moveMode; split <;> split <;> simp
@[simp] theorem moveMode_fnc_curves (o n : SysState) : (moveMode o n s).fnc.curves = s.fnc.curves := by
  unfold moveMode; split <;> split <;> simp
@[simp] theorem moveMode_fnc_configs (o n : SysState) : (moveMode o n s).fnc.configs = s.fnc.configs := by
  unfold moveMode; split <;> split <;> simp
@[simp] theorem moveMode_fnc_set (o n : SysState) : (moveMode o n s).fnc.set = s.fnc.set := by
  unfold moveMode; split <;> split <;> simp
@[simp] theorem moveMode_fnc_slots (o n : SysState) : (moveMode o n s).fnc.slots = s.fnc.slots := by
  unfold moveMode; split <;> split <;> simp
@[simp] theorem moveMode_fnc_overrideDuty (o n : SysState) : (moveMode o n s).fnc.overrideDuty = s.fnc.overrideDuty := by
  unfold moveMode; split <;> split <;> simp
@[simp] theorem moveMode_fnc_overrideTimer (o n : SysState) : (moveMode o n s).fnc.overrideTimer = s.fnc.overrideTimer := by
  unfold moveMode; split <;> split <;> simp
@[simp] theorem moveMode_ssc_startCause (o n : SysState) : (moveMode o n s).ssc.startCause = s.ssc.startCause := by
  unfold moveMode; split <;> split <;> simp
@[simp] theorem moveMode_ssc_lowThreshold (o n : SysState) : (moveMode o n s).ssc.lowThreshold = s.ssc.lowThreshold := by
  unfold moveMode; split <;> split <;> simp
@[simp] theorem moveMode_ssc_criticalThreshold (o n : SysState) : (moveMode o n s).ssc.criticalThreshold = s.ssc.criticalThreshold := by
  unfold moveMode; split <;> split <;> simp
@[simp] theorem moveMode_ssc_combinedSoc (o n : SysState) : (moveMode o n s).ssc.combinedSoc = s.ssc.combinedSoc := by
  unfold moveMode; split <;> split <;> simp
@[simp] theorem moveMode_ssc_low (o n : SysState) : (moveMode o n s).ssc.low = s.ssc.low := by
  unfold moveMode; split <;> split <;> simp
@[simp] theorem moveMode_ssc_critical (o n : SysState) : (moveMode o n s).ssc.critical = s.ssc.critical := by
  unfold moveMode; split <;> split <;> simp
@[simp] theorem moveMode_ssc_haltTimer (o n : SysState) : (moveMode o n s).ssc.haltTimer = s.ssc.haltTimer := by
  unfold moveMode; split <;> split <;> simp
@[simp] theorem moveMode_ssc_graceTimer (o n : SysState) : (moveMode o n s).ssc.graceTimer = s.ssc.graceTimer := by
  unfold moveMode; split <;> split <;> simp
@[simp] theorem moveMode_kms (o n : SysState) : (moveMode o n s).kms = s.kms := by
  unfold moveMode; split <;> split <;> simp
@[simp] theorem moveMode_evr (o n : SysState) : (moveMode o n s).evr = s.evr := by
  unfold moveMode; split <;> split <;> simp
@[simp] theorem moveMode_ssc_state (o n : SysState) : (moveMode o n s).ssc.state = s.ssc.state := by
  unfold moveMode; split <;> split <;> simp
@[simp] theorem moveMode_ssc_sysen (o n : SysState) : (moveMode o n s).ssc.sysen = s.ssc.sysen := by
  unfold moveMode; split <;> split <;> simp
@[simp] theorem moveMode_ssc_wake (o n : SysState) : (moveMode o n s).ssc.wake = s.ssc.wake := by
  unfold moveMode; split <;> split <;> simp
@[simp] theorem moveMode_ssc_bootTimer (o n : SysState) : (moveMode o n s).ssc.bootTimer = s.ssc.bootTimer := by
  unfold moveMode; split <;> split <;> simp
@[simp] theorem moveMode_ssc_wakeTimer (o n : SysState) : (moveMode o n s).ssc.wakeTimer = s.ssc.wakeTimer := by
  unfold moveMode; split <;> split <;> simp
@[simp] theorem moveMode_ssc_wakeCause (o n : SysState) : (moveMode o n s).ssc.wakeCause = s.ssc.wakeCause := by
  unfold moveMode; split <;> split <;> simp

theorem handMove_lmt (o : SysState) {n : SysState} (h : n ≠ .off) : (handMove o n s).lmt = s.lmt := by
  unfold handMove; rw [if_neg h]; split <;> split <;> rfl
theorem handMove_ppt (o : SysState) {n : SysState} (h : n ≠ .off) : (handMove o n s).ppt = s.ppt := by
  unfold handMove; rw [if_neg h]; split <;> split <;> rfl
theorem handMove_ppc (o : SysState) {n : SysState} (h : n ≠ .off) : (handMove o n s).ppc = s.ppc := by
  unfold handMove; rw [if_neg h]; split <;> split <;> rfl
theorem handMove_swi (o : SysState) {n : SysState} (h : n ≠ .off) : (handMove o n s).swi = s.swi := by
  unfold handMove; rw [if_neg h]; split <;> split <;> rfl
theorem handMove_slc (o : SysState) {n : SysState} (h : n ≠ .off) : (handMove o n s).slc = s.slc := by
  unfold handMove; rw [if_neg h]; split <;> split <;> rfl
theorem handMove_pending (o : SysState) {n : SysState} (h : n ≠ .off) : (handMove o n s).pending = s.pending := by
  unfold handMove; rw [if_neg h]; split <;> split <;> rfl
theorem handMove_kms_positions (o : SysState) {n : SysState} (h : n ≠ .off) : (handMove o n s).kms.positions = s.kms.positions := by
  unfold handMove; rw [if_neg h]; split <;> split <;> rfl
theorem handMove_kms_translation (o : SysState) {n : SysState} (h : n ≠ .off) : (handMove o n s).kms.translation = s.kms.translation := by
  unfold handMove; rw [if_neg h]; split <;> split <;> rfl
theorem handMove_kms_pressCount (o : SysState) {n : SysState} (h : n ≠ .off) : (handMove o n s).kms.pressCount = s.kms.pressCount := by
  unfold handMove; rw [if_neg h]; split <;> split <;> rfl
theorem handMove_kms_releaseCount (o : SysState) {n : SysState} (h : n ≠ .off) : (handMove o n s).kms.releaseCount = s.kms.releaseCount := by
  unfold handMove; rw [if_neg h]; split <;> split <;> rfl
theorem handMove_kms_gated (o : SysState) {n : SysState} (h : n ≠ .off) : (handMove o n s).kms.gated = s.kms.gated := by
  unfold handMove; rw [if_neg h]; split <;> split <;> rfl
theorem handMove_evr (o : SysState) {n : SysState} (h : n ≠ .off) : (handMove o n s).evr = s.evr := by
  unfold handMove; rw [if_neg h]; split <;> split <;> rfl
theorem handMove_ssc (o : SysState) {n : SysState} (h : n ≠ .off) : (handMove o n s).ssc = s.ssc := by
  unfold handMove; rw [if_neg h]; split <;> split <;> rfl
theorem handMove_tmb (o : SysState) {n : SysState} (h : n ≠ .off) : (handMove o n s).tmb = s.tmb := by
  unfold handMove; rw [if_neg h]; split <;> split <;> rfl
theorem handMove_sws (o : SysState) {n : SysState} (h : n ≠ .off) : (handMove o n s).sws = s.sws := by
  unfold handMove; rw [if_neg h]; split <;> split <;> rfl
theorem handMove_fnc (o : SysState) {n : SysState} (h : n ≠ .off) : (handMove o n s).fnc = s.fnc := by
  unfold handMove; rw [if_neg h]; split <;> split <;> rfl

/-! One event taken by EVR (R168). -/

@[simp] theorem Evr.placeNormal_policy (e : Evr) (r : NormalRecord) : (e.placeNormal r).policy = e.policy := by
  unfold Evr.placeNormal; cases e.normalState <;> simp only; split <;> rfl
@[simp] theorem Evr.take_policy (e : Evr) (c : EventCode) (n : Nat) (v : Int) (a : Bool) (t : Stamp) :
    (e.take c n v a t).policy = e.policy := by
  unfold Evr.take Evr.place; cases (e.policyOf c).cls <;> simp [Evr.addTally]
@[simp] theorem Evr.placeNormal_relayA (e : Evr) (r : NormalRecord) : (e.placeNormal r).relayA = e.relayA := by
  unfold Evr.placeNormal; cases e.normalState <;> simp only; split <;> rfl
@[simp] theorem Evr.take_relayA (e : Evr) (c : EventCode) (n : Nat) (v : Int) (a : Bool) (t : Stamp) :
    (e.take c n v a t).relayA = e.relayA := by
  unfold Evr.take Evr.place; cases (e.policyOf c).cls <;> simp [Evr.addTally]
@[simp] theorem Evr.placeNormal_relayB (e : Evr) (r : NormalRecord) : (e.placeNormal r).relayB = e.relayB := by
  unfold Evr.placeNormal; cases e.normalState <;> simp only; split <;> rfl
@[simp] theorem Evr.take_relayB (e : Evr) (c : EventCode) (n : Nat) (v : Int) (a : Bool) (t : Stamp) :
    (e.take c n v a t).relayB = e.relayB := by
  unfold Evr.take Evr.place; cases (e.policyOf c).cls <;> simp [Evr.addTally]
@[simp] theorem Evr.placeNormal_telemetry (e : Evr) (r : NormalRecord) : (e.placeNormal r).telemetry = e.telemetry := by
  unfold Evr.placeNormal; cases e.normalState <;> simp only; split <;> rfl
@[simp] theorem Evr.take_telemetry (e : Evr) (c : EventCode) (n : Nat) (v : Int) (a : Bool) (t : Stamp) :
    (e.take c n v a t).telemetry = e.telemetry := by
  unfold Evr.take Evr.place; cases (e.policyOf c).cls <;> simp [Evr.addTally]
@[simp] theorem Evr.placeNormal_rotation (e : Evr) (r : NormalRecord) : (e.placeNormal r).rotation = e.rotation := by
  unfold Evr.placeNormal; cases e.normalState <;> simp only; split <;> rfl
@[simp] theorem Evr.take_rotation (e : Evr) (c : EventCode) (n : Nat) (v : Int) (a : Bool) (t : Stamp) :
    (e.take c n v a t).rotation = e.rotation := by
  unfold Evr.take Evr.place; cases (e.policyOf c).cls <;> simp [Evr.addTally]
@[simp] theorem Evr.placeNormal_period (e : Evr) (r : NormalRecord) : (e.placeNormal r).period = e.period := by
  unfold Evr.placeNormal; cases e.normalState <;> simp only; split <;> rfl
@[simp] theorem Evr.take_period (e : Evr) (c : EventCode) (n : Nat) (v : Int) (a : Bool) (t : Stamp) :
    (e.take c n v a t).period = e.period := by
  unfold Evr.take Evr.place; cases (e.policyOf c).cls <;> simp [Evr.addTally]
@[simp] theorem Evr.placeNormal_periodTimer (e : Evr) (r : NormalRecord) : (e.placeNormal r).periodTimer = e.periodTimer := by
  unfold Evr.placeNormal; cases e.normalState <;> simp only; split <;> rfl
@[simp] theorem Evr.take_periodTimer (e : Evr) (c : EventCode) (n : Nat) (v : Int) (a : Bool) (t : Stamp) :
    (e.take c n v a t).periodTimer = e.periodTimer := by
  unfold Evr.take Evr.place; cases (e.policyOf c).cls <;> simp [Evr.addTally]
@[simp] theorem Evr.placeNormal_due (e : Evr) (r : NormalRecord) : (e.placeNormal r).due = e.due := by
  unfold Evr.placeNormal; cases e.normalState <;> simp only; split <;> rfl
@[simp] theorem Evr.take_due (e : Evr) (c : EventCode) (n : Nat) (v : Int) (a : Bool) (t : Stamp) :
    (e.take c n v a t).due = e.due := by
  unfold Evr.take Evr.place; cases (e.policyOf c).cls <;> simp [Evr.addTally]

theorem moveOnEvent_lmt {n : SysState} (h : n ≠ .off) : (moveOnEvent n s).lmt = s.lmt := by
  simp [moveOnEvent, handMove_lmt _ _ h, record, driveState]
theorem moveOnEvent_ppt {n : SysState} (h : n ≠ .off) : (moveOnEvent n s).ppt = s.ppt := by
  simp [moveOnEvent, handMove_ppt _ _ h, record, driveState]
theorem moveOnEvent_ppc {n : SysState} (h : n ≠ .off) : (moveOnEvent n s).ppc = s.ppc := by
  simp [moveOnEvent, handMove_ppc _ _ h, record, driveState]
theorem moveOnEvent_swi {n : SysState} (h : n ≠ .off) : (moveOnEvent n s).swi = s.swi := by
  simp [moveOnEvent, handMove_swi _ _ h, record, driveState]
theorem moveOnEvent_slc {n : SysState} (h : n ≠ .off) : (moveOnEvent n s).slc = s.slc := by
  simp [moveOnEvent, handMove_slc _ _ h, record, driveState]
theorem moveOnEvent_pending {n : SysState} (h : n ≠ .off) : (moveOnEvent n s).pending = s.pending := by
  simp [moveOnEvent, handMove_pending _ _ h, record, driveState]
theorem moveOnEvent_sws_schedule {n : SysState} (h : n ≠ .off) : (moveOnEvent n s).sws.schedule = s.sws.schedule := by
  simp [moveOnEvent, handMove_sws _ _ h, record, driveState]
theorem moveOnEvent_sws_counter {n : SysState} (h : n ≠ .off) : (moveOnEvent n s).sws.counter = s.sws.counter := by
  simp [moveOnEvent, handMove_sws _ _ h, record, driveState]
theorem moveOnEvent_sws_latest {n : SysState} (h : n ≠ .off) : (moveOnEvent n s).sws.latest = s.sws.latest := by
  simp [moveOnEvent, handMove_sws _ _ h, record, driveState]
theorem moveOnEvent_sws_sweep {n : SysState} (h : n ≠ .off) : (moveOnEvent n s).sws.sweep = s.sws.sweep := by
  simp [moveOnEvent, handMove_sws _ _ h, record, driveState]
theorem moveOnEvent_tmb_ms {n : SysState} (h : n ≠ .off) : (moveOnEvent n s).tmb.ms = s.tmb.ms := by
  simp [moveOnEvent, handMove_tmb _ _ h, record, driveState]
theorem moveOnEvent_tmb_acc {n : SysState} (h : n ≠ .off) : (moveOnEvent n s).tmb.acc = s.tmb.acc := by
  simp [moveOnEvent, handMove_tmb _ _ h, record, driveState]
theorem moveOnEvent_tmb_clockPeriods {n : SysState} (h : n ≠ .off) : (moveOnEvent n s).tmb.clockPeriods = s.tmb.clockPeriods := by
  simp [moveOnEvent, handMove_tmb _ _ h, record, driveState]
theorem moveOnEvent_fnc_curves {n : SysState} (h : n ≠ .off) : (moveOnEvent n s).fnc.curves = s.fnc.curves := by
  simp [moveOnEvent, handMove_fnc _ _ h, record, driveState]
theorem moveOnEvent_fnc_configs {n : SysState} (h : n ≠ .off) : (moveOnEvent n s).fnc.configs = s.fnc.configs := by
  simp [moveOnEvent, handMove_fnc _ _ h, record, driveState]
theorem moveOnEvent_fnc_set {n : SysState} (h : n ≠ .off) : (moveOnEvent n s).fnc.set = s.fnc.set := by
  simp [moveOnEvent, handMove_fnc _ _ h, record, driveState]
theorem moveOnEvent_fnc_slots {n : SysState} (h : n ≠ .off) : (moveOnEvent n s).fnc.slots = s.fnc.slots := by
  simp [moveOnEvent, handMove_fnc _ _ h, record, driveState]
theorem moveOnEvent_fnc_overrideDuty {n : SysState} (h : n ≠ .off) : (moveOnEvent n s).fnc.overrideDuty = s.fnc.overrideDuty := by
  simp [moveOnEvent, handMove_fnc _ _ h, record, driveState]
theorem moveOnEvent_fnc_overrideTimer {n : SysState} (h : n ≠ .off) : (moveOnEvent n s).fnc.overrideTimer = s.fnc.overrideTimer := by
  simp [moveOnEvent, handMove_fnc _ _ h, record, driveState]
theorem moveOnEvent_kms_positions {n : SysState} (h : n ≠ .off) : (moveOnEvent n s).kms.positions = s.kms.positions := by
  simp [moveOnEvent, handMove_kms_positions _ _ h, record, driveState]
theorem moveOnEvent_kms_translation {n : SysState} (h : n ≠ .off) : (moveOnEvent n s).kms.translation = s.kms.translation := by
  simp [moveOnEvent, handMove_kms_translation _ _ h, record, driveState]
theorem moveOnEvent_kms_pressCount {n : SysState} (h : n ≠ .off) : (moveOnEvent n s).kms.pressCount = s.kms.pressCount := by
  simp [moveOnEvent, handMove_kms_pressCount _ _ h, record, driveState]
theorem moveOnEvent_kms_releaseCount {n : SysState} (h : n ≠ .off) : (moveOnEvent n s).kms.releaseCount = s.kms.releaseCount := by
  simp [moveOnEvent, handMove_kms_releaseCount _ _ h, record, driveState]
theorem moveOnEvent_kms_gated {n : SysState} (h : n ≠ .off) : (moveOnEvent n s).kms.gated = s.kms.gated := by
  simp [moveOnEvent, handMove_kms_gated _ _ h, record, driveState]
theorem moveOnEvent_ssc_startCause {n : SysState} (h : n ≠ .off) : (moveOnEvent n s).ssc.startCause = s.ssc.startCause := by
  simp [moveOnEvent, handMove_ssc _ _ h, record, driveState]
theorem moveOnEvent_ssc_lowThreshold {n : SysState} (h : n ≠ .off) : (moveOnEvent n s).ssc.lowThreshold = s.ssc.lowThreshold := by
  simp [moveOnEvent, handMove_ssc _ _ h, record, driveState]
theorem moveOnEvent_ssc_criticalThreshold {n : SysState} (h : n ≠ .off) : (moveOnEvent n s).ssc.criticalThreshold = s.ssc.criticalThreshold := by
  simp [moveOnEvent, handMove_ssc _ _ h, record, driveState]
theorem moveOnEvent_ssc_combinedSoc {n : SysState} (h : n ≠ .off) : (moveOnEvent n s).ssc.combinedSoc = s.ssc.combinedSoc := by
  simp [moveOnEvent, handMove_ssc _ _ h, record, driveState]
theorem moveOnEvent_ssc_low {n : SysState} (h : n ≠ .off) : (moveOnEvent n s).ssc.low = s.ssc.low := by
  simp [moveOnEvent, handMove_ssc _ _ h, record, driveState]
theorem moveOnEvent_ssc_critical {n : SysState} (h : n ≠ .off) : (moveOnEvent n s).ssc.critical = s.ssc.critical := by
  simp [moveOnEvent, handMove_ssc _ _ h, record, driveState]
theorem moveOnEvent_ssc_haltTimer {n : SysState} (h : n ≠ .off) : (moveOnEvent n s).ssc.haltTimer = s.ssc.haltTimer := by
  simp [moveOnEvent, handMove_ssc _ _ h, record, driveState]
theorem moveOnEvent_ssc_graceTimer {n : SysState} (h : n ≠ .off) : (moveOnEvent n s).ssc.graceTimer = s.ssc.graceTimer := by
  simp [moveOnEvent, handMove_ssc _ _ h, record, driveState]
theorem moveOnEvent_evr_policy {n : SysState} (h : n ≠ .off) : (moveOnEvent n s).evr.policy = s.evr.policy := by
  simp [moveOnEvent, handMove_evr _ _ h, record, driveState]
theorem moveOnEvent_evr_relayA {n : SysState} (h : n ≠ .off) : (moveOnEvent n s).evr.relayA = s.evr.relayA := by
  simp [moveOnEvent, handMove_evr _ _ h, record, driveState]
theorem moveOnEvent_evr_relayB {n : SysState} (h : n ≠ .off) : (moveOnEvent n s).evr.relayB = s.evr.relayB := by
  simp [moveOnEvent, handMove_evr _ _ h, record, driveState]
theorem moveOnEvent_evr_telemetry {n : SysState} (h : n ≠ .off) : (moveOnEvent n s).evr.telemetry = s.evr.telemetry := by
  simp [moveOnEvent, handMove_evr _ _ h, record, driveState]
theorem moveOnEvent_evr_rotation {n : SysState} (h : n ≠ .off) : (moveOnEvent n s).evr.rotation = s.evr.rotation := by
  simp [moveOnEvent, handMove_evr _ _ h, record, driveState]
theorem moveOnEvent_evr_period {n : SysState} (h : n ≠ .off) : (moveOnEvent n s).evr.period = s.evr.period := by
  simp [moveOnEvent, handMove_evr _ _ h, record, driveState]
theorem moveOnEvent_evr_periodTimer {n : SysState} (h : n ≠ .off) : (moveOnEvent n s).evr.periodTimer = s.evr.periodTimer := by
  simp [moveOnEvent, handMove_evr _ _ h, record, driveState]
theorem moveOnEvent_evr_due {n : SysState} (h : n ≠ .off) : (moveOnEvent n s).evr.due = s.evr.due := by
  simp [moveOnEvent, handMove_evr _ _ h, record, driveState]

@[simp] theorem sscAct_lmt (c : EventCode) : (sscAct c s).lmt = s.lmt := by
  unfold sscAct; split <;> simp [moveOnEvent_lmt]
@[simp] theorem sscAct_ppt (c : EventCode) : (sscAct c s).ppt = s.ppt := by
  unfold sscAct; split <;> simp [moveOnEvent_ppt]
@[simp] theorem sscAct_ppc (c : EventCode) : (sscAct c s).ppc = s.ppc := by
  unfold sscAct; split <;> simp [moveOnEvent_ppc]
@[simp] theorem sscAct_swi (c : EventCode) : (sscAct c s).swi = s.swi := by
  unfold sscAct; split <;> simp [moveOnEvent_swi]
@[simp] theorem sscAct_slc (c : EventCode) : (sscAct c s).slc = s.slc := by
  unfold sscAct; split <;> simp [moveOnEvent_slc]
@[simp] theorem sscAct_pending (c : EventCode) : (sscAct c s).pending = s.pending := by
  unfold sscAct; split <;> simp [moveOnEvent_pending]
@[simp] theorem sscAct_sws_schedule (c : EventCode) : (sscAct c s).sws.schedule = s.sws.schedule := by
  unfold sscAct; split <;> simp [moveOnEvent_sws_schedule]
@[simp] theorem sscAct_sws_counter (c : EventCode) : (sscAct c s).sws.counter = s.sws.counter := by
  unfold sscAct; split <;> simp [moveOnEvent_sws_counter]
@[simp] theorem sscAct_sws_latest (c : EventCode) : (sscAct c s).sws.latest = s.sws.latest := by
  unfold sscAct; split <;> simp [moveOnEvent_sws_latest]
@[simp] theorem sscAct_sws_sweep (c : EventCode) : (sscAct c s).sws.sweep = s.sws.sweep := by
  unfold sscAct; split <;> simp [moveOnEvent_sws_sweep]
@[simp] theorem sscAct_tmb_ms (c : EventCode) : (sscAct c s).tmb.ms = s.tmb.ms := by
  unfold sscAct; split <;> simp [moveOnEvent_tmb_ms]
@[simp] theorem sscAct_tmb_acc (c : EventCode) : (sscAct c s).tmb.acc = s.tmb.acc := by
  unfold sscAct; split <;> simp [moveOnEvent_tmb_acc]
@[simp] theorem sscAct_tmb_clockPeriods (c : EventCode) : (sscAct c s).tmb.clockPeriods = s.tmb.clockPeriods := by
  unfold sscAct; split <;> simp [moveOnEvent_tmb_clockPeriods]
@[simp] theorem sscAct_fnc_curves (c : EventCode) : (sscAct c s).fnc.curves = s.fnc.curves := by
  unfold sscAct; split <;> simp [moveOnEvent_fnc_curves]
@[simp] theorem sscAct_fnc_configs (c : EventCode) : (sscAct c s).fnc.configs = s.fnc.configs := by
  unfold sscAct; split <;> simp [moveOnEvent_fnc_configs]
@[simp] theorem sscAct_fnc_set (c : EventCode) : (sscAct c s).fnc.set = s.fnc.set := by
  unfold sscAct; split <;> simp [moveOnEvent_fnc_set]
@[simp] theorem sscAct_fnc_slots (c : EventCode) : (sscAct c s).fnc.slots = s.fnc.slots := by
  unfold sscAct; split <;> simp [moveOnEvent_fnc_slots]
@[simp] theorem sscAct_fnc_overrideDuty (c : EventCode) : (sscAct c s).fnc.overrideDuty = s.fnc.overrideDuty := by
  unfold sscAct; split <;> simp [moveOnEvent_fnc_overrideDuty]
@[simp] theorem sscAct_fnc_overrideTimer (c : EventCode) : (sscAct c s).fnc.overrideTimer = s.fnc.overrideTimer := by
  unfold sscAct; split <;> simp [moveOnEvent_fnc_overrideTimer]
@[simp] theorem sscAct_kms_positions (c : EventCode) : (sscAct c s).kms.positions = s.kms.positions := by
  unfold sscAct; split <;> simp [moveOnEvent_kms_positions]
@[simp] theorem sscAct_kms_translation (c : EventCode) : (sscAct c s).kms.translation = s.kms.translation := by
  unfold sscAct; split <;> simp [moveOnEvent_kms_translation]
@[simp] theorem sscAct_kms_pressCount (c : EventCode) : (sscAct c s).kms.pressCount = s.kms.pressCount := by
  unfold sscAct; split <;> simp [moveOnEvent_kms_pressCount]
@[simp] theorem sscAct_kms_releaseCount (c : EventCode) : (sscAct c s).kms.releaseCount = s.kms.releaseCount := by
  unfold sscAct; split <;> simp [moveOnEvent_kms_releaseCount]
@[simp] theorem sscAct_kms_gated (c : EventCode) : (sscAct c s).kms.gated = s.kms.gated := by
  unfold sscAct; split <;> simp [moveOnEvent_kms_gated]
@[simp] theorem sscAct_ssc_startCause (c : EventCode) : (sscAct c s).ssc.startCause = s.ssc.startCause := by
  unfold sscAct; split <;> simp [moveOnEvent_ssc_startCause]
@[simp] theorem sscAct_ssc_lowThreshold (c : EventCode) : (sscAct c s).ssc.lowThreshold = s.ssc.lowThreshold := by
  unfold sscAct; split <;> simp [moveOnEvent_ssc_lowThreshold]
@[simp] theorem sscAct_ssc_criticalThreshold (c : EventCode) : (sscAct c s).ssc.criticalThreshold = s.ssc.criticalThreshold := by
  unfold sscAct; split <;> simp [moveOnEvent_ssc_criticalThreshold]
@[simp] theorem sscAct_ssc_combinedSoc (c : EventCode) : (sscAct c s).ssc.combinedSoc = s.ssc.combinedSoc := by
  unfold sscAct; split <;> simp [moveOnEvent_ssc_combinedSoc]
@[simp] theorem sscAct_ssc_low (c : EventCode) : (sscAct c s).ssc.low = s.ssc.low := by
  unfold sscAct; split <;> simp [moveOnEvent_ssc_low]
@[simp] theorem sscAct_ssc_critical (c : EventCode) : (sscAct c s).ssc.critical = s.ssc.critical := by
  unfold sscAct; split <;> simp [moveOnEvent_ssc_critical]
@[simp] theorem sscAct_ssc_haltTimer (c : EventCode) : (sscAct c s).ssc.haltTimer = s.ssc.haltTimer := by
  unfold sscAct; split <;> simp [moveOnEvent_ssc_haltTimer]
@[simp] theorem sscAct_ssc_graceTimer (c : EventCode) : (sscAct c s).ssc.graceTimer = s.ssc.graceTimer := by
  unfold sscAct; split <;> simp [moveOnEvent_ssc_graceTimer]
@[simp] theorem sscAct_evr_policy (c : EventCode) : (sscAct c s).evr.policy = s.evr.policy := by
  unfold sscAct; split <;> simp [moveOnEvent_evr_policy]
@[simp] theorem sscAct_evr_relayA (c : EventCode) : (sscAct c s).evr.relayA = s.evr.relayA := by
  unfold sscAct; split <;> simp [moveOnEvent_evr_relayA]
@[simp] theorem sscAct_evr_relayB (c : EventCode) : (sscAct c s).evr.relayB = s.evr.relayB := by
  unfold sscAct; split <;> simp [moveOnEvent_evr_relayB]
@[simp] theorem sscAct_evr_telemetry (c : EventCode) : (sscAct c s).evr.telemetry = s.evr.telemetry := by
  unfold sscAct; split <;> simp [moveOnEvent_evr_telemetry]
@[simp] theorem sscAct_evr_rotation (c : EventCode) : (sscAct c s).evr.rotation = s.evr.rotation := by
  unfold sscAct; split <;> simp [moveOnEvent_evr_rotation]
@[simp] theorem sscAct_evr_period (c : EventCode) : (sscAct c s).evr.period = s.evr.period := by
  unfold sscAct; split <;> simp [moveOnEvent_evr_period]
@[simp] theorem sscAct_evr_periodTimer (c : EventCode) : (sscAct c s).evr.periodTimer = s.evr.periodTimer := by
  unfold sscAct; split <;> simp [moveOnEvent_evr_periodTimer]
@[simp] theorem sscAct_evr_due (c : EventCode) : (sscAct c s).evr.due = s.evr.due := by
  unfold sscAct; split <;> simp [moveOnEvent_evr_due]

@[simp] theorem route_lmt (c : EventCode) (n : Nat) (v : Int) : (route c n v s).lmt = s.lmt := by
  unfold route; split <;> simp [record]
@[simp] theorem route_ppt (c : EventCode) (n : Nat) (v : Int) : (route c n v s).ppt = s.ppt := by
  unfold route; split <;> simp [record]
@[simp] theorem route_ppc (c : EventCode) (n : Nat) (v : Int) : (route c n v s).ppc = s.ppc := by
  unfold route; split <;> simp [record]
@[simp] theorem route_swi (c : EventCode) (n : Nat) (v : Int) : (route c n v s).swi = s.swi := by
  unfold route; split <;> simp [record]
@[simp] theorem route_slc (c : EventCode) (n : Nat) (v : Int) : (route c n v s).slc = s.slc := by
  unfold route; split <;> simp [record]
@[simp] theorem route_pending (c : EventCode) (n : Nat) (v : Int) : (route c n v s).pending = s.pending := by
  unfold route; split <;> simp [record]
@[simp] theorem route_sws_schedule (c : EventCode) (n : Nat) (v : Int) : (route c n v s).sws.schedule = s.sws.schedule := by
  unfold route; split <;> simp [record]
@[simp] theorem route_sws_counter (c : EventCode) (n : Nat) (v : Int) : (route c n v s).sws.counter = s.sws.counter := by
  unfold route; split <;> simp [record]
@[simp] theorem route_sws_latest (c : EventCode) (n : Nat) (v : Int) : (route c n v s).sws.latest = s.sws.latest := by
  unfold route; split <;> simp [record]
@[simp] theorem route_sws_sweep (c : EventCode) (n : Nat) (v : Int) : (route c n v s).sws.sweep = s.sws.sweep := by
  unfold route; split <;> simp [record]
@[simp] theorem route_tmb_ms (c : EventCode) (n : Nat) (v : Int) : (route c n v s).tmb.ms = s.tmb.ms := by
  unfold route; split <;> simp [record]
@[simp] theorem route_tmb_acc (c : EventCode) (n : Nat) (v : Int) : (route c n v s).tmb.acc = s.tmb.acc := by
  unfold route; split <;> simp [record]
@[simp] theorem route_tmb_clockPeriods (c : EventCode) (n : Nat) (v : Int) : (route c n v s).tmb.clockPeriods = s.tmb.clockPeriods := by
  unfold route; split <;> simp [record]
@[simp] theorem route_fnc_curves (c : EventCode) (n : Nat) (v : Int) : (route c n v s).fnc.curves = s.fnc.curves := by
  unfold route; split <;> simp [record]
@[simp] theorem route_fnc_configs (c : EventCode) (n : Nat) (v : Int) : (route c n v s).fnc.configs = s.fnc.configs := by
  unfold route; split <;> simp [record]
@[simp] theorem route_fnc_set (c : EventCode) (n : Nat) (v : Int) : (route c n v s).fnc.set = s.fnc.set := by
  unfold route; split <;> simp [record]
@[simp] theorem route_fnc_slots (c : EventCode) (n : Nat) (v : Int) : (route c n v s).fnc.slots = s.fnc.slots := by
  unfold route; split <;> simp [record]
@[simp] theorem route_fnc_overrideDuty (c : EventCode) (n : Nat) (v : Int) : (route c n v s).fnc.overrideDuty = s.fnc.overrideDuty := by
  unfold route; split <;> simp [record]
@[simp] theorem route_fnc_overrideTimer (c : EventCode) (n : Nat) (v : Int) : (route c n v s).fnc.overrideTimer = s.fnc.overrideTimer := by
  unfold route; split <;> simp [record]
@[simp] theorem route_kms_positions (c : EventCode) (n : Nat) (v : Int) : (route c n v s).kms.positions = s.kms.positions := by
  unfold route; split <;> simp [record]
@[simp] theorem route_kms_translation (c : EventCode) (n : Nat) (v : Int) : (route c n v s).kms.translation = s.kms.translation := by
  unfold route; split <;> simp [record]
@[simp] theorem route_kms_pressCount (c : EventCode) (n : Nat) (v : Int) : (route c n v s).kms.pressCount = s.kms.pressCount := by
  unfold route; split <;> simp [record]
@[simp] theorem route_kms_releaseCount (c : EventCode) (n : Nat) (v : Int) : (route c n v s).kms.releaseCount = s.kms.releaseCount := by
  unfold route; split <;> simp [record]
@[simp] theorem route_kms_gated (c : EventCode) (n : Nat) (v : Int) : (route c n v s).kms.gated = s.kms.gated := by
  unfold route; split <;> simp [record]
@[simp] theorem route_ssc_startCause (c : EventCode) (n : Nat) (v : Int) : (route c n v s).ssc.startCause = s.ssc.startCause := by
  unfold route; split <;> simp [record]
@[simp] theorem route_ssc_lowThreshold (c : EventCode) (n : Nat) (v : Int) : (route c n v s).ssc.lowThreshold = s.ssc.lowThreshold := by
  unfold route; split <;> simp [record]
@[simp] theorem route_ssc_criticalThreshold (c : EventCode) (n : Nat) (v : Int) : (route c n v s).ssc.criticalThreshold = s.ssc.criticalThreshold := by
  unfold route; split <;> simp [record]
@[simp] theorem route_ssc_combinedSoc (c : EventCode) (n : Nat) (v : Int) : (route c n v s).ssc.combinedSoc = s.ssc.combinedSoc := by
  unfold route; split <;> simp [record]
@[simp] theorem route_ssc_low (c : EventCode) (n : Nat) (v : Int) : (route c n v s).ssc.low = s.ssc.low := by
  unfold route; split <;> simp [record]
@[simp] theorem route_ssc_critical (c : EventCode) (n : Nat) (v : Int) : (route c n v s).ssc.critical = s.ssc.critical := by
  unfold route; split <;> simp [record]
@[simp] theorem route_ssc_haltTimer (c : EventCode) (n : Nat) (v : Int) : (route c n v s).ssc.haltTimer = s.ssc.haltTimer := by
  unfold route; split <;> simp [record]
@[simp] theorem route_ssc_graceTimer (c : EventCode) (n : Nat) (v : Int) : (route c n v s).ssc.graceTimer = s.ssc.graceTimer := by
  unfold route; split <;> simp [record]
@[simp] theorem route_evr_policy (c : EventCode) (n : Nat) (v : Int) : (route c n v s).evr.policy = s.evr.policy := by
  unfold route; split <;> simp [record]
@[simp] theorem route_evr_relayA (c : EventCode) (n : Nat) (v : Int) : (route c n v s).evr.relayA = s.evr.relayA := by
  unfold route; split <;> simp [record]
@[simp] theorem route_evr_relayB (c : EventCode) (n : Nat) (v : Int) : (route c n v s).evr.relayB = s.evr.relayB := by
  unfold route; split <;> simp [record]
@[simp] theorem route_evr_telemetry (c : EventCode) (n : Nat) (v : Int) : (route c n v s).evr.telemetry = s.evr.telemetry := by
  unfold route; split <;> simp [record]
@[simp] theorem route_evr_rotation (c : EventCode) (n : Nat) (v : Int) : (route c n v s).evr.rotation = s.evr.rotation := by
  unfold route; split <;> simp [record]
@[simp] theorem route_evr_period (c : EventCode) (n : Nat) (v : Int) : (route c n v s).evr.period = s.evr.period := by
  unfold route; split <;> simp [record]
@[simp] theorem route_evr_periodTimer (c : EventCode) (n : Nat) (v : Int) : (route c n v s).evr.periodTimer = s.evr.periodTimer := by
  unfold route; split <;> simp [record]
@[simp] theorem route_evr_due (c : EventCode) (n : Nat) (v : Int) : (route c n v s).evr.due = s.evr.due := by
  unfold route; split <;> simp [record]

end Sys2Proof.Machine
end

