-- ==== Sys2Proof/Laws/Moves.lean ====
section
/-! SUPPORT. What a move of the system state leaves alone, whichever move it is (R152, R153, R160). -/

namespace Sys2Proof.Machine

variable {s : State}

@[simp] theorem placeKeys_policy (rs : List KeyRecord) (e : Evr) : (placeKeys rs e).policy = e.policy := by
  induction rs generalizing e with
  | nil => rfl
  | cons r rs ih => exact (ih _).trans (by simp)
@[simp] theorem placeKeys_relayA (rs : List KeyRecord) (e : Evr) : (placeKeys rs e).relayA = e.relayA := by
  induction rs generalizing e with
  | nil => rfl
  | cons r rs ih => exact (ih _).trans (by simp)
@[simp] theorem placeKeys_relayB (rs : List KeyRecord) (e : Evr) : (placeKeys rs e).relayB = e.relayB := by
  induction rs generalizing e with
  | nil => rfl
  | cons r rs ih => exact (ih _).trans (by simp)
@[simp] theorem placeKeys_telemetry (rs : List KeyRecord) (e : Evr) : (placeKeys rs e).telemetry = e.telemetry := by
  induction rs generalizing e with
  | nil => rfl
  | cons r rs ih => exact (ih _).trans (by simp)
@[simp] theorem placeKeys_rotation (rs : List KeyRecord) (e : Evr) : (placeKeys rs e).rotation = e.rotation := by
  induction rs generalizing e with
  | nil => rfl
  | cons r rs ih => exact (ih _).trans (by simp)
@[simp] theorem placeKeys_period (rs : List KeyRecord) (e : Evr) : (placeKeys rs e).period = e.period := by
  induction rs generalizing e with
  | nil => rfl
  | cons r rs ih => exact (ih _).trans (by simp)
@[simp] theorem placeKeys_periodTimer (rs : List KeyRecord) (e : Evr) : (placeKeys rs e).periodTimer = e.periodTimer := by
  induction rs generalizing e with
  | nil => rfl
  | cons r rs ih => exact (ih _).trans (by simp)
@[simp] theorem placeKeys_due (rs : List KeyRecord) (e : Evr) : (placeKeys rs e).due = e.due := by
  induction rs generalizing e with
  | nil => rfl
  | cons r rs ih => exact (ih _).trans (by simp)

theorem handMove_all_lmt (o n : SysState) : (handMove o n s).lmt = s.lmt := by
  unfold handMove; repeat' split
  all_goals simp [offEntry, stopKeys]
theorem handMove_all_ppt (o n : SysState) : (handMove o n s).ppt = s.ppt := by
  unfold handMove; repeat' split
  all_goals simp [offEntry, stopKeys]
theorem handMove_all_ppc (o n : SysState) : (handMove o n s).ppc = s.ppc := by
  unfold handMove; repeat' split
  all_goals simp [offEntry, stopKeys]
theorem handMove_all_swi (o n : SysState) : (handMove o n s).swi = s.swi := by
  unfold handMove; repeat' split
  all_goals simp [offEntry, stopKeys]
theorem handMove_all_pending (o n : SysState) : (handMove o n s).pending = s.pending := by
  unfold handMove; repeat' split
  all_goals simp [offEntry, stopKeys]
theorem handMove_all_tmb_ms (o n : SysState) : (handMove o n s).tmb.ms = s.tmb.ms := by
  unfold handMove; repeat' split
  all_goals simp [offEntry, stopKeys]
theorem handMove_all_tmb_acc (o n : SysState) : (handMove o n s).tmb.acc = s.tmb.acc := by
  unfold handMove; repeat' split
  all_goals simp [offEntry, stopKeys]
theorem handMove_all_tmb_clockPeriods (o n : SysState) : (handMove o n s).tmb.clockPeriods = s.tmb.clockPeriods := by
  unfold handMove; repeat' split
  all_goals simp [offEntry, stopKeys]
theorem handMove_all_sws_schedule (o n : SysState) : (handMove o n s).sws.schedule = s.sws.schedule := by
  unfold handMove; repeat' split
  all_goals simp [offEntry, stopKeys]
theorem handMove_all_sws_counter (o n : SysState) : (handMove o n s).sws.counter = s.sws.counter := by
  unfold handMove; repeat' split
  all_goals simp [offEntry, stopKeys]
theorem handMove_all_sws_latest (o n : SysState) : (handMove o n s).sws.latest = s.sws.latest := by
  unfold handMove; repeat' split
  all_goals simp [offEntry, stopKeys]
theorem handMove_all_sws_sweep (o n : SysState) : (handMove o n s).sws.sweep = s.sws.sweep := by
  unfold handMove; repeat' split
  all_goals simp [offEntry, stopKeys]
theorem handMove_all_fnc_curves (o n : SysState) : (handMove o n s).fnc.curves = s.fnc.curves := by
  unfold handMove; repeat' split
  all_goals simp [offEntry, stopKeys]
theorem handMove_all_fnc_configs (o n : SysState) : (handMove o n s).fnc.configs = s.fnc.configs := by
  unfold handMove; repeat' split
  all_goals simp [offEntry, stopKeys]
theorem handMove_all_fnc_set (o n : SysState) : (handMove o n s).fnc.set = s.fnc.set := by
  unfold handMove; repeat' split
  all_goals simp [offEntry, stopKeys]
theorem handMove_all_fnc_slots (o n : SysState) : (handMove o n s).fnc.slots = s.fnc.slots := by
  unfold handMove; repeat' split
  all_goals simp [offEntry, stopKeys]
theorem handMove_all_fnc_overrideDuty (o n : SysState) : (handMove o n s).fnc.overrideDuty = s.fnc.overrideDuty := by
  unfold handMove; repeat' split
  all_goals simp [offEntry, stopKeys]
theorem handMove_all_fnc_overrideTimer (o n : SysState) : (handMove o n s).fnc.overrideTimer = s.fnc.overrideTimer := by
  unfold handMove; repeat' split
  all_goals simp [offEntry, stopKeys]
theorem handMove_all_kms_translation (o n : SysState) : (handMove o n s).kms.translation = s.kms.translation := by
  unfold handMove; repeat' split
  all_goals simp [offEntry, stopKeys, Kms.stopped, Kms.started]
theorem handMove_all_kms_pressCount (o n : SysState) : (handMove o n s).kms.pressCount = s.kms.pressCount := by
  unfold handMove; repeat' split
  all_goals simp [offEntry, stopKeys, Kms.stopped, Kms.started]
theorem handMove_all_kms_releaseCount (o n : SysState) : (handMove o n s).kms.releaseCount = s.kms.releaseCount := by
  unfold handMove; repeat' split
  all_goals simp [offEntry, stopKeys, Kms.stopped, Kms.started]
theorem handMove_all_kms_gated (o n : SysState) : (handMove o n s).kms.gated = s.kms.gated := by
  unfold handMove; repeat' split
  all_goals simp [offEntry, stopKeys, Kms.stopped, Kms.started]
theorem handMove_all_ssc_startCause (o n : SysState) : (handMove o n s).ssc.startCause = s.ssc.startCause := by
  unfold handMove; repeat' split
  all_goals simp [offEntry, stopKeys]
theorem handMove_all_ssc_lowThreshold (o n : SysState) : (handMove o n s).ssc.lowThreshold = s.ssc.lowThreshold := by
  unfold handMove; repeat' split
  all_goals simp [offEntry, stopKeys]
theorem handMove_all_ssc_criticalThreshold (o n : SysState) : (handMove o n s).ssc.criticalThreshold = s.ssc.criticalThreshold := by
  unfold handMove; repeat' split
  all_goals simp [offEntry, stopKeys]
theorem handMove_all_ssc_combinedSoc (o n : SysState) : (handMove o n s).ssc.combinedSoc = s.ssc.combinedSoc := by
  unfold handMove; repeat' split
  all_goals simp [offEntry, stopKeys]
theorem handMove_all_ssc_low (o n : SysState) : (handMove o n s).ssc.low = s.ssc.low := by
  unfold handMove; repeat' split
  all_goals simp [offEntry, stopKeys]
theorem handMove_all_ssc_critical (o n : SysState) : (handMove o n s).ssc.critical = s.ssc.critical := by
  unfold handMove; repeat' split
  all_goals simp [offEntry, stopKeys]
theorem handMove_all_ssc_graceTimer (o n : SysState) : (handMove o n s).ssc.graceTimer = s.ssc.graceTimer := by
  unfold handMove; repeat' split
  all_goals simp [offEntry, stopKeys]
theorem handMove_all_evr_policy (o n : SysState) : (handMove o n s).evr.policy = s.evr.policy := by
  unfold handMove; repeat' split
  all_goals simp [offEntry, stopKeys]
theorem handMove_all_evr_relayA (o n : SysState) : (handMove o n s).evr.relayA = s.evr.relayA := by
  unfold handMove; repeat' split
  all_goals simp [offEntry, stopKeys]
theorem handMove_all_evr_relayB (o n : SysState) : (handMove o n s).evr.relayB = s.evr.relayB := by
  unfold handMove; repeat' split
  all_goals simp [offEntry, stopKeys]
theorem handMove_all_evr_telemetry (o n : SysState) : (handMove o n s).evr.telemetry = s.evr.telemetry := by
  unfold handMove; repeat' split
  all_goals simp [offEntry, stopKeys]
theorem handMove_all_evr_rotation (o n : SysState) : (handMove o n s).evr.rotation = s.evr.rotation := by
  unfold handMove; repeat' split
  all_goals simp [offEntry, stopKeys]
theorem handMove_all_evr_period (o n : SysState) : (handMove o n s).evr.period = s.evr.period := by
  unfold handMove; repeat' split
  all_goals simp [offEntry, stopKeys]
theorem handMove_all_evr_periodTimer (o n : SysState) : (handMove o n s).evr.periodTimer = s.evr.periodTimer := by
  unfold handMove; repeat' split
  all_goals simp [offEntry, stopKeys]
theorem handMove_all_evr_due (o n : SysState) : (handMove o n s).evr.due = s.evr.due := by
  unfold handMove; repeat' split
  all_goals simp [offEntry, stopKeys]

@[simp] theorem moveState_lmt (n : SysState) (e : Option (EventCode × Int)) : (moveState n e s).lmt = s.lmt := by
  unfold moveState; cases e <;> simp [handMove_all_lmt, driveState]
@[simp] theorem moveState_ppt (n : SysState) (e : Option (EventCode × Int)) : (moveState n e s).ppt = s.ppt := by
  unfold moveState; cases e <;> simp [handMove_all_ppt, driveState]
@[simp] theorem moveState_ppc (n : SysState) (e : Option (EventCode × Int)) : (moveState n e s).ppc = s.ppc := by
  unfold moveState; cases e <;> simp [handMove_all_ppc, driveState]
@[simp] theorem moveState_swi (n : SysState) (e : Option (EventCode × Int)) : (moveState n e s).swi = s.swi := by
  unfold moveState; cases e <;> simp [handMove_all_swi, driveState]
@[simp] theorem moveState_pending (n : SysState) (e : Option (EventCode × Int)) : (moveState n e s).pending = s.pending := by
  unfold moveState; cases e <;> simp [handMove_all_pending, driveState]
@[simp] theorem moveState_tmb_ms (n : SysState) (e : Option (EventCode × Int)) : (moveState n e s).tmb.ms = s.tmb.ms := by
  unfold moveState; cases e <;> simp [handMove_all_tmb_ms, driveState]
@[simp] theorem moveState_tmb_acc (n : SysState) (e : Option (EventCode × Int)) : (moveState n e s).tmb.acc = s.tmb.acc := by
  unfold moveState; cases e <;> simp [handMove_all_tmb_acc, driveState]
@[simp] theorem moveState_tmb_clockPeriods (n : SysState) (e : Option (EventCode × Int)) : (moveState n e s).tmb.clockPeriods = s.tmb.clockPeriods := by
  unfold moveState; cases e <;> simp [handMove_all_tmb_clockPeriods, driveState]
@[simp] theorem moveState_sws_schedule (n : SysState) (e : Option (EventCode × Int)) : (moveState n e s).sws.schedule = s.sws.schedule := by
  unfold moveState; cases e <;> simp [handMove_all_sws_schedule, driveState]
@[simp] theorem moveState_sws_counter (n : SysState) (e : Option (EventCode × Int)) : (moveState n e s).sws.counter = s.sws.counter := by
  unfold moveState; cases e <;> simp [handMove_all_sws_counter, driveState]
@[simp] theorem moveState_sws_latest (n : SysState) (e : Option (EventCode × Int)) : (moveState n e s).sws.latest = s.sws.latest := by
  unfold moveState; cases e <;> simp [handMove_all_sws_latest, driveState]
@[simp] theorem moveState_sws_sweep (n : SysState) (e : Option (EventCode × Int)) : (moveState n e s).sws.sweep = s.sws.sweep := by
  unfold moveState; cases e <;> simp [handMove_all_sws_sweep, driveState]
@[simp] theorem moveState_fnc_curves (n : SysState) (e : Option (EventCode × Int)) : (moveState n e s).fnc.curves = s.fnc.curves := by
  unfold moveState; cases e <;> simp [handMove_all_fnc_curves, driveState]
@[simp] theorem moveState_fnc_configs (n : SysState) (e : Option (EventCode × Int)) : (moveState n e s).fnc.configs = s.fnc.configs := by
  unfold moveState; cases e <;> simp [handMove_all_fnc_configs, driveState]
@[simp] theorem moveState_fnc_set (n : SysState) (e : Option (EventCode × Int)) : (moveState n e s).fnc.set = s.fnc.set := by
  unfold moveState; cases e <;> simp [handMove_all_fnc_set, driveState]
@[simp] theorem moveState_fnc_slots (n : SysState) (e : Option (EventCode × Int)) : (moveState n e s).fnc.slots = s.fnc.slots := by
  unfold moveState; cases e <;> simp [handMove_all_fnc_slots, driveState]
@[simp] theorem moveState_fnc_overrideDuty (n : SysState) (e : Option (EventCode × Int)) : (moveState n e s).fnc.overrideDuty = s.fnc.overrideDuty := by
  unfold moveState; cases e <;> simp [handMove_all_fnc_overrideDuty, driveState]
@[simp] theorem moveState_fnc_overrideTimer (n : SysState) (e : Option (EventCode × Int)) : (moveState n e s).fnc.overrideTimer = s.fnc.overrideTimer := by
  unfold moveState; cases e <;> simp [handMove_all_fnc_overrideTimer, driveState]
@[simp] theorem moveState_kms_translation (n : SysState) (e : Option (EventCode × Int)) : (moveState n e s).kms.translation = s.kms.translation := by
  unfold moveState; cases e <;> simp [handMove_all_kms_translation, driveState]
@[simp] theorem moveState_kms_pressCount (n : SysState) (e : Option (EventCode × Int)) : (moveState n e s).kms.pressCount = s.kms.pressCount := by
  unfold moveState; cases e <;> simp [handMove_all_kms_pressCount, driveState]
@[simp] theorem moveState_kms_releaseCount (n : SysState) (e : Option (EventCode × Int)) : (moveState n e s).kms.releaseCount = s.kms.releaseCount := by
  unfold moveState; cases e <;> simp [handMove_all_kms_releaseCount, driveState]
@[simp] theorem moveState_kms_gated (n : SysState) (e : Option (EventCode × Int)) : (moveState n e s).kms.gated = s.kms.gated := by
  unfold moveState; cases e <;> simp [handMove_all_kms_gated, driveState]
@[simp] theorem moveState_ssc_startCause (n : SysState) (e : Option (EventCode × Int)) : (moveState n e s).ssc.startCause = s.ssc.startCause := by
  unfold moveState; cases e <;> simp [handMove_all_ssc_startCause, driveState]
@[simp] theorem moveState_ssc_lowThreshold (n : SysState) (e : Option (EventCode × Int)) : (moveState n e s).ssc.lowThreshold = s.ssc.lowThreshold := by
  unfold moveState; cases e <;> simp [handMove_all_ssc_lowThreshold, driveState]
@[simp] theorem moveState_ssc_criticalThreshold (n : SysState) (e : Option (EventCode × Int)) : (moveState n e s).ssc.criticalThreshold = s.ssc.criticalThreshold := by
  unfold moveState; cases e <;> simp [handMove_all_ssc_criticalThreshold, driveState]
@[simp] theorem moveState_ssc_combinedSoc (n : SysState) (e : Option (EventCode × Int)) : (moveState n e s).ssc.combinedSoc = s.ssc.combinedSoc := by
  unfold moveState; cases e <;> simp [handMove_all_ssc_combinedSoc, driveState]
@[simp] theorem moveState_ssc_low (n : SysState) (e : Option (EventCode × Int)) : (moveState n e s).ssc.low = s.ssc.low := by
  unfold moveState; cases e <;> simp [handMove_all_ssc_low, driveState]
@[simp] theorem moveState_ssc_critical (n : SysState) (e : Option (EventCode × Int)) : (moveState n e s).ssc.critical = s.ssc.critical := by
  unfold moveState; cases e <;> simp [handMove_all_ssc_critical, driveState]
@[simp] theorem moveState_ssc_graceTimer (n : SysState) (e : Option (EventCode × Int)) : (moveState n e s).ssc.graceTimer = s.ssc.graceTimer := by
  unfold moveState; cases e <;> simp [handMove_all_ssc_graceTimer, driveState]
@[simp] theorem moveState_evr_policy (n : SysState) (e : Option (EventCode × Int)) : (moveState n e s).evr.policy = s.evr.policy := by
  unfold moveState; cases e <;> simp [handMove_all_evr_policy, driveState]
@[simp] theorem moveState_evr_relayA (n : SysState) (e : Option (EventCode × Int)) : (moveState n e s).evr.relayA = s.evr.relayA := by
  unfold moveState; cases e <;> simp [handMove_all_evr_relayA, driveState]
@[simp] theorem moveState_evr_relayB (n : SysState) (e : Option (EventCode × Int)) : (moveState n e s).evr.relayB = s.evr.relayB := by
  unfold moveState; cases e <;> simp [handMove_all_evr_relayB, driveState]
@[simp] theorem moveState_evr_telemetry (n : SysState) (e : Option (EventCode × Int)) : (moveState n e s).evr.telemetry = s.evr.telemetry := by
  unfold moveState; cases e <;> simp [handMove_all_evr_telemetry, driveState]
@[simp] theorem moveState_evr_rotation (n : SysState) (e : Option (EventCode × Int)) : (moveState n e s).evr.rotation = s.evr.rotation := by
  unfold moveState; cases e <;> simp [handMove_all_evr_rotation, driveState]
@[simp] theorem moveState_evr_period (n : SysState) (e : Option (EventCode × Int)) : (moveState n e s).evr.period = s.evr.period := by
  unfold moveState; cases e <;> simp [handMove_all_evr_period, driveState]
@[simp] theorem moveState_evr_periodTimer (n : SysState) (e : Option (EventCode × Int)) : (moveState n e s).evr.periodTimer = s.evr.periodTimer := by
  unfold moveState; cases e <;> simp [handMove_all_evr_periodTimer, driveState]
@[simp] theorem moveState_evr_due (n : SysState) (e : Option (EventCode × Int)) : (moveState n e s).evr.due = s.evr.due := by
  unfold moveState; cases e <;> simp [handMove_all_evr_due, driveState]

@[simp] theorem forceOff_lmt (c : ForceCause) : (forceOff c s).lmt = s.lmt := by
  unfold forceOff; split <;> simp
@[simp] theorem forceOff_ppt (c : ForceCause) : (forceOff c s).ppt = s.ppt := by
  unfold forceOff; split <;> simp
@[simp] theorem forceOff_ppc (c : ForceCause) : (forceOff c s).ppc = s.ppc := by
  unfold forceOff; split <;> simp
@[simp] theorem forceOff_swi (c : ForceCause) : (forceOff c s).swi = s.swi := by
  unfold forceOff; split <;> simp
@[simp] theorem forceOff_pending (c : ForceCause) : (forceOff c s).pending = s.pending := by
  unfold forceOff; split <;> simp
@[simp] theorem forceOff_tmb_ms (c : ForceCause) : (forceOff c s).tmb.ms = s.tmb.ms := by
  unfold forceOff; split <;> simp
@[simp] theorem forceOff_tmb_acc (c : ForceCause) : (forceOff c s).tmb.acc = s.tmb.acc := by
  unfold forceOff; split <;> simp
@[simp] theorem forceOff_tmb_clockPeriods (c : ForceCause) : (forceOff c s).tmb.clockPeriods = s.tmb.clockPeriods := by
  unfold forceOff; split <;> simp
@[simp] theorem forceOff_sws_schedule (c : ForceCause) : (forceOff c s).sws.schedule = s.sws.schedule := by
  unfold forceOff; split <;> simp
@[simp] theorem forceOff_sws_counter (c : ForceCause) : (forceOff c s).sws.counter = s.sws.counter := by
  unfold forceOff; split <;> simp
@[simp] theorem forceOff_sws_latest (c : ForceCause) : (forceOff c s).sws.latest = s.sws.latest := by
  unfold forceOff; split <;> simp
@[simp] theorem forceOff_sws_sweep (c : ForceCause) : (forceOff c s).sws.sweep = s.sws.sweep := by
  unfold forceOff; split <;> simp
@[simp] theorem forceOff_fnc_curves (c : ForceCause) : (forceOff c s).fnc.curves = s.fnc.curves := by
  unfold forceOff; split <;> simp
@[simp] theorem forceOff_fnc_configs (c : ForceCause) : (forceOff c s).fnc.configs = s.fnc.configs := by
  unfold forceOff; split <;> simp
@[simp] theorem forceOff_fnc_set (c : ForceCause) : (forceOff c s).fnc.set = s.fnc.set := by
  unfold forceOff; split <;> simp
@[simp] theorem forceOff_fnc_slots (c : ForceCause) : (forceOff c s).fnc.slots = s.fnc.slots := by
  unfold forceOff; split <;> simp
@[simp] theorem forceOff_fnc_overrideDuty (c : ForceCause) : (forceOff c s).fnc.overrideDuty = s.fnc.overrideDuty := by
  unfold forceOff; split <;> simp
@[simp] theorem forceOff_fnc_overrideTimer (c : ForceCause) : (forceOff c s).fnc.overrideTimer = s.fnc.overrideTimer := by
  unfold forceOff; split <;> simp
@[simp] theorem forceOff_kms_translation (c : ForceCause) : (forceOff c s).kms.translation = s.kms.translation := by
  unfold forceOff; split <;> simp
@[simp] theorem forceOff_kms_pressCount (c : ForceCause) : (forceOff c s).kms.pressCount = s.kms.pressCount := by
  unfold forceOff; split <;> simp
@[simp] theorem forceOff_kms_releaseCount (c : ForceCause) : (forceOff c s).kms.releaseCount = s.kms.releaseCount := by
  unfold forceOff; split <;> simp
@[simp] theorem forceOff_kms_gated (c : ForceCause) : (forceOff c s).kms.gated = s.kms.gated := by
  unfold forceOff; split <;> simp
@[simp] theorem forceOff_ssc_startCause (c : ForceCause) : (forceOff c s).ssc.startCause = s.ssc.startCause := by
  unfold forceOff; split <;> simp
@[simp] theorem forceOff_ssc_lowThreshold (c : ForceCause) : (forceOff c s).ssc.lowThreshold = s.ssc.lowThreshold := by
  unfold forceOff; split <;> simp
@[simp] theorem forceOff_ssc_criticalThreshold (c : ForceCause) : (forceOff c s).ssc.criticalThreshold = s.ssc.criticalThreshold := by
  unfold forceOff; split <;> simp
@[simp] theorem forceOff_ssc_combinedSoc (c : ForceCause) : (forceOff c s).ssc.combinedSoc = s.ssc.combinedSoc := by
  unfold forceOff; split <;> simp
@[simp] theorem forceOff_ssc_low (c : ForceCause) : (forceOff c s).ssc.low = s.ssc.low := by
  unfold forceOff; split <;> simp
@[simp] theorem forceOff_ssc_critical (c : ForceCause) : (forceOff c s).ssc.critical = s.ssc.critical := by
  unfold forceOff; split <;> simp
@[simp] theorem forceOff_ssc_graceTimer (c : ForceCause) : (forceOff c s).ssc.graceTimer = s.ssc.graceTimer := by
  unfold forceOff; split <;> simp
@[simp] theorem forceOff_evr_policy (c : ForceCause) : (forceOff c s).evr.policy = s.evr.policy := by
  unfold forceOff; split <;> simp
@[simp] theorem forceOff_evr_relayA (c : ForceCause) : (forceOff c s).evr.relayA = s.evr.relayA := by
  unfold forceOff; split <;> simp
@[simp] theorem forceOff_evr_relayB (c : ForceCause) : (forceOff c s).evr.relayB = s.evr.relayB := by
  unfold forceOff; split <;> simp
@[simp] theorem forceOff_evr_telemetry (c : ForceCause) : (forceOff c s).evr.telemetry = s.evr.telemetry := by
  unfold forceOff; split <;> simp
@[simp] theorem forceOff_evr_rotation (c : ForceCause) : (forceOff c s).evr.rotation = s.evr.rotation := by
  unfold forceOff; split <;> simp
@[simp] theorem forceOff_evr_period (c : ForceCause) : (forceOff c s).evr.period = s.evr.period := by
  unfold forceOff; split <;> simp
@[simp] theorem forceOff_evr_periodTimer (c : ForceCause) : (forceOff c s).evr.periodTimer = s.evr.periodTimer := by
  unfold forceOff; split <;> simp
@[simp] theorem forceOff_evr_due (c : ForceCause) : (forceOff c s).evr.due = s.evr.due := by
  unfold forceOff; split <;> simp

end Sys2Proof.Machine
end

