-- ==== Sys2Proof/Laws/Request.lean ====
section
/-! SUPPORT. What running a request can do, said once (R184, R185): it waits and changes nothing, or it is answered. -/

namespace Sys2Proof.Machine

variable {n tag : Nat} {args : List Byte} {s : State} {owner : List Byte → State → Answer}

/-- The head of the buffer is the request of a number, exactly when it stands there with some arguments and tag. -/
theorem headIs_iff {r : Request} :
    headIs n r = true ↔ r.kind = .request ∧ ∃ args, r.payload = BitVec.ofNat 8 n :: args := by
  obtain ⟨k, tag, p⟩ := r
  cases k <;> cases p <;> simp [headIs, eq_comm]

/-- A request in its turn is answered with what its owner makes of the state it has left. -/
theorem runRequest_at_head (h : RequestAtHead s n args tag) :
    runRequest n owner s = answerWith tag (owner args (popRequest s)) := by
  obtain ⟨h, room⟩ := h
  cases e : s.slc.requests with
  | nil => simp [e] at h
  | cons r rest =>
    obtain rfl : r = ⟨.request, tag, BitVec.ofNat 8 n :: args⟩ := by simpa [e] using h
    have hd : headIs n (⟨.request, tag, BitVec.ofNat 8 n :: args⟩ : Request) = true := headIs_iff.2 ⟨rfl, args, rfl⟩
    simp [runRequest, e, hd, room]

/-- A request that is not in its turn changes nothing. -/
theorem runRequest_waits (h : ∀ args tag, ¬ RequestAtHead s n args tag) : runRequest n owner s = s := by
  unfold runRequest
  cases e : s.slc.requests with
  | nil => rfl
  | cons r rest =>
    refine if_neg fun c => ?_
    obtain ⟨hd, room⟩ := Bool.and_eq_true_iff.1 c
    obtain ⟨hk, args, hp⟩ := headIs_iff.1 hd
    refine h args r.tag ⟨?_, room⟩
    obtain ⟨k, t, p⟩ := r
    cases hk; cases hp
    simp [e]

end Sys2Proof.Machine
end

