-- ==== Sys2Proof/WellFormed.lean ====
section
/-! DEFINITION. Well-formed commands: the operands that the row's event can carry. A meaning is given to every command,
well-formed or not; these checks say which commands a sender that follows the spec sends. -/

namespace Sys2Proof.Machine

/-- Where a run of bytes leaves a receiver, if no frame ends within it. -/
def rxWithin : Rx → List Byte → Option Rx
  | rx, [] => some rx
  | rx, b :: bs =>
    match (rxFeed rx b).2 with
    | some _ => none
    | none => rxWithin (rxFeed rx b).1 bs

/-- The bytes begin a frame and do not end it: the frame that a gap ends (R36, R182). -/
def begunFrame (bs : List Byte) : Bool :=
  match rxWithin .hunting bs with
  | some (.inFrame _) => true
  | _ => false

/-- The bytes end, with their last, a frame without error of one of the given kinds (R36, R182). -/
def goodFrame (kinds : List Nat) (fits : List Byte → Bool) (bs : List Byte) : Bool :=
  match endsFrame .hunting bs with
  | some (.frame f) => kinds.contains f.kind && fits f.payload
  | _ => false

/-- The bytes end, with their last, a frame of the service link in error, or begin one that a gap will end (R182). -/
def badServiceFrame (bs : List Byte) : Bool :=
  match endsFrame .hunting bs with
  | some (.frame f) => !([0x8, 0x9].contains f.kind)
  | some _ => true
  | none => begunFrame bs

/-- A PACK_REPLY payload that is not malformed (R47). -/
def replyFits (bs : List Byte) : Bool := decide (1 ≤ bs.length) && decide (bs.length ≤ 31)

/-- The bytes end, with their last, a frame of a pack line that is counted in the frame error count, or begin one that a
gap will end (R36, R37, R47). -/
def badPackFrame (bs : List Byte) : Bool :=
  match endsFrame .hunting bs with
  | some (.frame f) => !((f.kind = 0xA && telemetryValid f.payload) || (f.kind = 0xC && replyFits f.payload))
  | some _ => true
  | none => begunFrame bs

end Sys2Proof.Machine

namespace Sys2Proof

open Machine

/-- The operands of a command are such as its row's event can carry. -/
def Instr.wellFormed : Instr → Bool
  | .reset rail rstin _ _ => rail.isSome || rstin
  | .packTelemetryReceived _ bs => goodFrame [0xA] telemetryValid bs
  | .packReplyReceived _ bs => goodFrame [0xC] replyFits bs
  | .packFrameError _ .gap => true
  | .packFrameError _ (.bytes bs) => badPackFrame bs
  | .scanPass image => decide (image.length = 144)
  | .serviceFrameReceived bs => goodFrame [0x8, 0x9] (fun _ => true) bs
  | .serviceFrameError bs => badServiceFrame bs
  | .tickExpiry _ | .tachEdge _ _ | .sweepStart | .conversionComplete _ _ | .sweepCompletion
  | .presenceActive _ | .presenceTimerExpiry _ | .packRemoval _ | .silenceTimerExpiry _ | .staleTimerExpiry _
  | .packRequestTransmit _ | .passTimerExpiry _ | .passReplyQueued _ | .chargeTimeout _ | .initialTake _
  | .lidHingeDebounceComplete _ | .pwrbtnDebounceComplete | .baylatchDebounceComplete | .powerButtonHold
  | .hold10sExpiry | .fanEvaluation | .kickEnd _ | .retryKickEnd _ | .tachSilenceTimeout _ | .hostTempStale _
  | .overrideExpiry | .bootTimeout | .wakeTimeout | .haltTimerExpiry | .criticalGraceExpiry
  | .telemetryPeriodExpiry | .serviceGapTimeout | .transmitStart | .transmitEnd | .unknownRequest | .online
  | .sleep | .powerOff | .restartLink | .readChannels | .readPack | .readAllocation | .readFaults | .clearFaults
  | .readKeymap | .readTally | .readFans | .readStatus | .loadProfile | .loadAdapter | .loadLimit | .loadSchedule
  | .loadFanCurve | .loadPolicy | .loadKeyrow | .loadPassFilter | .readTable | .restoreDefaults | .setInputLimit
  | .setEfficiency | .setBoost | .setChargeInhibit | .setBatteryThresholds | .setHostTemps | .setFanOverride
  | .setKeyDebounce | .setSwitchDebounce | .setTelemetry | .releaseBay | .bayCancel | .pass
  | .packRequestTransmitted _ => true

end Sys2Proof
end

