-- ==== Sys2Proof/Tests/Slice0.lean ====
section
/-! SUPPORT. Named tests: the well-formedness smoke, values the manual works out, and a witness for each statement with
hypotheses: a concrete state and operands that meet them, at the boundary values of each clause. -/

namespace Sys2Proof.Tests

open Sys2Proof.Machine

set_option Elab.async false

/-! ## Ill-formed commands are refused by the check, well-formed ones pass -/

theorem test_reset_without_cause_is_ill_formed :
    (Instr.reset none false true true).wellFormed = false ∧ (Instr.reset none true false false).wellFormed = true ∧
      (Instr.reset (some .supplyDip) false false false).wellFormed = true := by decide

/-- A PACK_TELEMETRY payload with a cell count of `n` (section 11.2). -/
def payload (n : Byte) : List Byte :=
  [0, n, 0x2A, 0xF8, 0xFF, 0x38, 0, 250, 50, 7, 0xD0, 0x0F, 0xA0, 0x31, 0x38, 0x0B, 0xB8, 0x0B, 0xB8, 8]

theorem test_telemetry_of_one_cell_is_ill_formed :
    (Instr.packTelemetryReceived .a (frameBytes 0xA 0 (payload 1))).wellFormed = false ∧
      (Instr.packTelemetryReceived .a (frameBytes 0xA 0 (payload 2))).wellFormed = true ∧
      (Instr.packTelemetryReceived .a (frameBytes 0xC 0 (payload 2))).wellFormed = false := by decide +kernel

theorem test_empty_reply_is_ill_formed :
    (Instr.packReplyReceived .b (frameBytes 0xC 0 [])).wellFormed = false ∧
      (Instr.packReplyReceived .b (frameBytes 0xC 0 [7])).wellFormed = true := by decide +kernel

theorem test_good_frame_is_no_pack_error :
    (Instr.packFrameError .a (.bytes (frameBytes 0xA 0 (payload 3)))).wellFormed = false ∧
      (Instr.packFrameError .a (.bytes (frameBytes 0xA 0 (payload 6)))).wellFormed = true ∧
      (Instr.packFrameError .a (.bytes [1, 2])).wellFormed = false ∧ (Instr.packFrameError .a .gap).wellFormed = true := by
  decide +kernel

theorem test_short_image_is_ill_formed :
    (Instr.scanPass (List.replicate 143 false)).wellFormed = false ∧
      (Instr.scanPass (List.replicate 144 true)).wellFormed = true := by decide +kernel

theorem test_telemetry_is_no_service_request :
    (Instr.serviceFrameReceived (frameBytes 0xA 0 [])).wellFormed = false ∧
      (Instr.serviceFrameReceived (frameBytes 0x8 3 [0x0D])).wellFormed = true ∧
      (Instr.serviceFrameReceived (frameBytes 0x9 3 [0, 0, 0, 1])).wellFormed = true := by decide +kernel

theorem test_good_request_is_no_service_error :
    (Instr.serviceFrameError (frameBytes 0x8 3 [0x0D])).wellFormed = false ∧
      (Instr.serviceFrameError [syncByte, 0x83, 61]).wellFormed = true ∧
      (Instr.serviceFrameError [syncByte, 0x83]).wellFormed = true ∧
      (Instr.serviceFrameError [0x83]).wellFormed = false := by decide +kernel

/-! ## Values the manual works out -/

/-- Section 11.1: the check over the digits 1 to 9. -/
theorem test_check_of_the_digits : crc16 [0x31, 0x32, 0x33, 0x34, 0x35, 0x36, 0x37, 0x38, 0x39] = 0x29B1#16 := by
  decide +kernel

/-- No contact pressed, the lid open, the bay latch closed. -/
def raw : SwitchLevels := ⟨false, false, false, false⟩

/-- The accumulator and the periods after `n` tick expiries. -/
def clockAfter (n : Nat) : Option (Nat × Nat) :=
  (runAll (List.replicate n (.tickExpiry raw)) State.reset).map fun t => (t.tmb.acc, t.tmb.clockPeriods)

/-- Section 1.1's sequence of the first six ticks. -/
theorem test_first_six_ticks :
    [1, 2, 3, 4, 5, 6].map clockAfter =
      [some (768, 32), some (536, 65), some (304, 98), some (72, 131), some (840, 163), some (608, 196)] := by
  decide +kernel

/-- Section 1.5: 8 slots of 8 after reset, so the sweep of counter 3 takes channel 11. -/
theorem test_default_schedule_slot :
    ((List.finRange 8).map fun i => decide ((resetSws.schedule.get i).enable = true ∧
      3 % (resetSws.schedule.get i).rep = (resetSws.schedule.get i).off)) =
      [false, false, false, true, false, false, false, false] := by decide

/-- Section 8.6: 60,000,000 / (10,000 × 2) is 3000. -/
theorem test_rpm :
    fanRpm ⟨2, true⟩ ⟨.running, 500, 500, none, 0, false, none, 0, some 10000, false, none⟩ = 3000 ∧
      fanRpm ⟨2, true⟩ ⟨.running, 500, 500, none, 0, false, none, 0, some 10000, true, none⟩ = 0 := by decide

/-- Section 5.7, cases 1 to 3: I_LIM of 12000 mA is 11625 mA. -/
theorem test_input_limit_steps_down : 12000 * 31 / 32 = 11625 ∧ qDown 3199 = 3168 ∧ qUp 3169 = 3200 ∧ qUp 3168 = 3168 := by
  decide

/-- Section 11.1: a value field is sent high byte first, two's complement; 0x8000 stands for none. -/
theorem test_fields : put2 (-400) = [0xFE, 0x70] ∧ put2Mark none = [0x80, 0] ∧ put4 (-2) = [0xFF, 0xFF, 0xFF, 0xFE] ∧
    arg2s [0xFE, 0x70] 0 = -400 := by decide +kernel

/-! ## States the witnesses start from -/

/-- A state whose request buffer holds one REQUEST. -/
def req (n : Nat) (args : List Byte) (s : State) : State :=
  { s with slc := { s.slc with requests := [⟨.request, 3, BitVec.ofNat 8 n :: args⟩] } }

/-- A state with a sweep in progress of which `k` fast channels are converted. -/
def sweeping (k : Nat) (s : State) : State := { s with sws := { s.sws with sweep := some ⟨0, none, k, false, 0⟩ } }

/-- A state with one latest sample. -/
def sampled (ch : Fin 16) (v : Int) (s : State) : State :=
  { s with sws := { s.sws with latest := s.sws.latest.set ch ⟨true, false, v, 0, 5⟩ } }

def inState (st : SysState) (s : State) : State := { s with ssc := { s.ssc with state := st } }

def withPort (p : Pack) (x : Port) (s : State) : State := { s with ppt := { s.ppt with ports := s.ppt.ports.set p x } }

def withCharge (p : Pack) (c : Charge) (s : State) : State :=
  { s with ppc := { s.ppc with charge := s.ppc.charge.set p c } }

def withAdapter (a : Adapter) (s : State) : State := { s with ppc := { s.ppc with adapter := a } }

def withFan (f : Fan) (x : FanState) (s : State) : State := { s with fnc := { s.fnc with fans := s.fnc.fans.set f x } }

def idlePort : Port := State.reset.ppt.ports.a

def idleFan : FanState := State.reset.fnc.fans.one

def idleCharge : Charge := State.reset.ppc.charge.a

/-- The record of the payload above, for three cells. -/
def rec3 : PackRecord := recordOf (payload 3) 0

/-- An ACTIVE port with a record. -/
def activePort : Port := { idlePort with state := .active, presence := true, record := some rec3, silenceTimer := some 9 }

/-- What a command leaves of a state. -/
def after (c : Instr) (s : State) : State :=
  match exec c s with
  | .next t => t
  | _ => s

/-! ## Witnesses: queue, requests, time -/

theorem witness_StepRunsFrontCommand : State.reset.pending = [] := rfl

theorem witness_RequestsAnsweredInTurn :
    requestNumber .readStatus = some 0x0D ∧ RequestAtHead (req 0x0D [] State.reset) 0x0D [] 3 ∧
      requestNumber .online = some 0x01 ∧ RequestAtHead (req 0x01 [] State.reset) 0x01 [] 3 ∧
      after .online (req 0x01 [] State.reset) = answered 3 .notNow [] (req 0x01 [] State.reset) := by
  decide +kernel

theorem witness_EmptyBuffer_waits : State.reset.slc.requests.head? = none ∧
    exec .readStatus State.reset = .next State.reset := ⟨rfl, rfl⟩

theorem witness_ResetRestoresEveryBlock :
    (after (.reset none true true false) (inState .run State.reset)).ssc.startCause = .resetPin ∧
      (after (.reset (some .supplyDip) false true false) State.reset).ppt.ports.a.state = .identifying ∧
      exec (.reset none false true true) (inState .run State.reset) = .next (inState .run State.reset) := by
  refine ⟨by decide +kernel, by decide +kernel, rfl⟩

theorem witness_TickRunsKeepTheClock : State.reset.tmb.acc < 1000 ∧ State.reset.tmb.acc = 0 ∧
    (List.replicate 1000 raw).length = 1000 * 1 := by decide +kernel

/-- FULL, with both capture channels running. -/
def full : State := { State.reset with
  ssc := { State.reset.ssc with state := .run, sysen := true, mode := .full }
  tmb := { State.reset.tmb with capture := ⟨⟨true, 0, true⟩, ⟨true, 0, false⟩⟩ }
  slc := { State.reset.slc with linkUp := true } }

theorem witness_TachEdgesAreTimedAndHeard :
    (State.reset.tmb.capture.get .one).running = false ∧ (full.tmb.capture.get .one).running = true ∧
      (full.tmb.capture.get .one).reference = true ∧ (full.tmb.capture.get .two).reference = false ∧
      (full.fnc.fans.get .one).state ≠ .stallRetry ∧
      ((withFan .two { idleFan with state := .stallRetry, retries := 3 } full).fnc.fans.get .two).state = .stallRetry := by
  decide +kernel

/-! ## Witnesses: the sweep and the limit monitor -/

/-- Reset with the sweep countdown run out. -/
def dueSweep : State := { State.reset with sws := { State.reset.sws with countdown := 0 } }

theorem witness_SweepStartTakesItsSlot :
    State.reset.sws.countdown ≠ 0 ∧ (sweeping 0 dueSweep).sws.sweep ≠ none ∧ dueSweep.sws.countdown = 0 ∧
      dueSweep.sws.sweep = none ∧ SweepLaw dueSweep ∧ (dueSweep.sws.schedule.get 0).enable = true ∧
      dueSweep.sws.counter % (dueSweep.sws.schedule.get 0).rep = (dueSweep.sws.schedule.get 0).off ∧
      SlotOk ⟨true, 64, 63⟩ ∧ SlotOk ⟨false, 1, 0⟩ := by decide +kernel

/-- No slow channel is enabled. -/
def noSlots : State := { dueSweep with sws := { dueSweep.sws with schedule := Table.replicate 8 ⟨false, 8, 0⟩ } }

theorem witness_SweepStart_without_slot :
    (after .sweepStart noSlots).sws.sweep = some ⟨0, none, 0, false, 0⟩ ∧
      (after .sweepStart dueSweep).sws.sweep = some ⟨0, some 0, 0, false, 0⟩ := by decide +kernel

/-- A sweep whose fast channels are done and whose slot took channel 15. -/
def slowTurn : State := { State.reset with sws := { State.reset.sws with sweep := some ⟨7, some 7, 8, false, 0⟩ } }

/-- The limit entry of the witnesses: every limit present. -/
def entry (a : Action) (d : Nat) : LimitEntry :=
  ⟨true, some 100, some 200, some 50, some 300, 10, d, a, true, true⟩

/-- Channel 0 in turn, with an entry of deglitch 3 and a channel state. -/
def judged (a : Action) (c : LimitChan) : State :=
  { sweeping 0 State.reset with
    lmt := { State.reset.lmt with
      entries := State.reset.lmt.entries.set 0 (entry a 3)
      chans := State.reset.lmt.chans.set 0 c } }

theorem witness_ConversionsAreClampedAndKept :
    (sweeping 0 State.reset).sws.sweep = some ⟨0, none, 0, false, 0⟩ ∧ InTurn ⟨0, none, 0, false, 0⟩ 0 ∧
      InTurn ⟨0, none, 7, false, 0⟩ 7 ∧ InTurn ⟨7, some 7, 8, false, 0⟩ 15 ∧
      slowTurn.sws.sweep = some ⟨7, some 7, 8, false, 0⟩ ∧ (-1 : Int) < (clampRange 0).1 ∧
      (clampRange 0).2 < (30001 : Int) ∧ (clampRange 0).1 ≤ (0 : Int) ∧ (30000 : Int) ≤ (clampRange 0).2 ∧
      ({ entry .none 1 with enable := false } : LimitEntry).enable = false := by decide +kernel

theorem witness_out_of_turn : ∀ w, (sweeping 1 State.reset).sws.sweep = some w → ¬ InTurn w 0 := by
  intro w h; cases h; decide

theorem beyond_above (v : Int) : BeyondFault (entry .none 3) v ↔ v < 50 ∨ 300 < v := by simp [BeyondFault, entry]

theorem outside_above (v : Int) : OutsideWarn (entry .none 3) v ↔ v < 100 ∨ 200 < v := by simp [OutsideWarn, entry]

theorem witness_zones :
    BeyondFault (entry .none 3) 301 ∧ ¬ BeyondFault (entry .none 3) 300 ∧ BeyondFault (entry .none 3) 49 ∧
      OutsideWarn (entry .none 3) 201 ∧ ¬ OutsideWarn (entry .none 3) 200 ∧ ¬ OutsideWarn (entry .none 3) 100 ∧
      InsideWarn (entry .none 3) 190 ∧ ¬ InsideWarn (entry .none 3) 191 ∧ InsideFault (entry .none 3) 290 ∧
      ¬ InsideFault (entry .none 3) 291 := by
  simp only [beyond_above, outside_above]; simp [InsideWarn, InsideFault, entry]

theorem witness_NormalAndWarningChannelsTakeSamples :
    (judged .none ⟨.normal, 2, 2, 0, 0, none, none⟩).sws.sweep = some ⟨0, none, 0, false, 0⟩ ∧
      ((judged .none ⟨.normal, 2, 2, 0, 0, none, none⟩).lmt.entries.get 0).enable = true ∧
      (entry .none 3).deglitch ≤ 2 + 1 ∧ 1 + 1 < (entry .none 3).deglitch ∧ clamped 0 301 = 301 ∧
      ((judged .none ⟨.warning, 0, 1, 2, 0, none, none⟩).lmt.chans.get 0).state = .warning := by decide +kernel

theorem witness_FaultAndHeldChannelsTakeSamples :
    ((judged .none ⟨.fault, 0, 0, 2, 1, some 301, some 4⟩).lmt.chans.get 0).state = .fault ∧
      ((judged .none ⟨.held, 0, 2, 0, 1, some 301, some 4⟩).lmt.chans.get 0).state = .held ∧
      (entry .none 3).deglitch ≤ 2 + 1 ∧ 1 + 1 < (entry .none 3).deglitch := by decide +kernel

/-- A channel in HELD about to enter FAULT again, its action in the set, in RUN. -/
def relapsing (a : Action) : State :=
  let s := judged a ⟨.held, 0, 2, 0, 1, some 301, some 4⟩
  { s with
    lmt := { s.lmt with actionSet := s.lmt.carried }
    ssc := { s.ssc with state := .run, sysen := true }
    ppc := { s.ppc with path := ⟨pathOf s .a, pathOf s .b⟩ } }

theorem witness_HeldToFault :
    ProtectionLaw (relapsing .systemOff) ∧ PolicyLegal (relapsing .systemOff).evr ∧ ProtectionLaw (relapsing .none) ∧
      clamped 0 301 = 301 ∧
      (after (.conversionComplete 0 301) (relapsing .systemOff)).lmt.chans.get 0 =
        ⟨.fault, 0, 0, 0, 2, some 301, some 0⟩ ∧
      (after (.conversionComplete 0 301) (relapsing .systemOff)).lmt.actionSet = [.systemOff] ∧
      (after (.conversionComplete 0 301) (relapsing .systemOff)).ssc.state = .off ∧
      (after (.conversionComplete 0 301) (relapsing .none)).ssc.state = .run := by decide +kernel

/-- A channel about to enter FAULT, for the action of its entry. -/
def tripping (a : Action) : State := judged a ⟨.normal, 0, 2, 0, 0, none, none⟩

theorem witness_FaultEntry_action : ∀ a ∈ allActions,
    ((tripping a).lmt.entries.get 0).enable = true ∧ ((tripping a).lmt.chans.get 0).state ≠ .fault ∧
      ((tripping a).lmt.entries.get 0).deglitch ≤ ((tripping a).lmt.chans.get 0).faultRun + 1 ∧
      ((tripping a).lmt.entries.get 0).action = a ∧ clamped 0 301 = 301 ∧ a ∉ (tripping a).lmt.actionSet := by
  decide +kernel

theorem witness_FaultEntry_laws : ∀ a ∈ allActions, ProtectionLaw (tripping a) ∧ SetpointLaw (tripping a) := by
  decide +kernel

theorem witness_FaultEntry_policy (a : Action) : PolicyLegal (tripping a).evr :=
  show PolicyLegal State.reset.evr from by decide +kernel

theorem witness_FaultEntry_fans (a : Action) : FanLaw (tripping a) :=
  show CurvesOk State.reset.fnc ∧ FanOk .quiet false idleFan ∧ FanOk .quiet false idleFan ∧ false = false ∧
      false = false from
    ⟨by decide +kernel, by decide +kernel, by decide +kernel, rfl, rfl⟩

theorem witness_FaultEntryTakesItsAction (a : Action) :
    exec (.conversionComplete 0 301) (tripping a) = .next (after (.conversionComplete 0 301) (tripping a)) ∧
      BeyondFault ((tripping a).lmt.entries.get 0) 301 := by
  refine ⟨rfl, Or.inr ⟨300, ?_, by decide⟩⟩; exact rfl

theorem witness_FaultLeavesOnlyByRequestOrReset :
    ((req 0x09 [] (judged .none ⟨.held, 0, 0, 0, 1, none, none⟩)).lmt.chans.get 0).state = .held ∧
      ((after .clearFaults (req 0x09 [] (judged .none ⟨.held, 0, 0, 0, 1, none, none⟩))).lmt.chans.get 0).state =
        .normal := by decide +kernel

/-! ## Witnesses: a sweep completion -/

/-- VAD and AID at the completion of a sweep, from an adapter record. -/
def completing (a : Adapter) (vad aid : Int) : State :=
  sampled 13 aid (sampled 0 vad (sweeping 8 (withAdapter a State.reset)))

theorem witness_SweepDone (a : Adapter) (vad aid : Int) :
    SweepDone (completing a vad aid) ⟨0, none, 8, false, 0⟩ ∧
      exec .sweepCompletion (completing a vad aid) = .next (after .sweepCompletion (completing a vad aid)) :=
  ⟨⟨rfl, by decide, Or.inl rfl⟩, rfl⟩

theorem witness_SweepNotDone : ∀ w, ¬ SweepDone (sweeping 7 State.reset) w := by
  rintro w ⟨h, h8, -⟩; cases h; exact absurd h8 (by decide)

theorem witness_CompletionExaminesTheAdapter :
    ((completing ⟨.absent, 2, none, 0xFF, none, 0⟩ 4499 0).sws.latest.get 0).value < 4500 ∧
      4500 ≤ ((completing ⟨.absent, 1, none, 0xFF, none, 0⟩ 4500 0).sws.latest.get 0).value ∧
      (after .sweepCompletion (completing ⟨.absent, 1, none, 0xFF, none, 0⟩ 4500 0)).ppc.adapter.run = 2 ∧
      (after .sweepCompletion (completing ⟨.absent, 2, none, 0xFF, none, 0⟩ 4500 1300)).ppc.adapter.state =
        .pendingId ∧
      (after .sweepCompletion (completing ⟨.unknown, 0, some 1, 0xFF, none, 2000⟩ 3999 0)).ppc.adapter.state = .absent ∧
      (after .sweepCompletion (completing ⟨.unknown, 0, some 1, 0xFF, none, 2000⟩ 4000 0)).ppc.adapter.state = .unknown ∧
      (after .sweepCompletion (completing ⟨.pendingId, 0, some 4, 0xFF, none, 2000⟩ 19000 1500)).ppc.adapter =
        ⟨.identified, 0, some 4, 0, some 1500, 12000⟩ ∧
      (after .sweepCompletion (completing ⟨.pendingId, 0, some 4, 0xFF, none, 2000⟩ 19000 1501)).ppc.adapter.state =
        .unknown ∧
      (after .sweepCompletion (completing ⟨.pendingId, 0, some 5, 0xFF, none, 2000⟩ 19000 1500)).ppc.adapter.state =
        .pendingId := by decide +kernel

/-- An identified adapter of 12 A, and pack A ACTIVE over a FULL path, at 12 V. -/
def powered (vsys isys : Int) : State :=
  sampled 8 250 (sampled 5 100 (sampled 4 11000 (sampled 3 isys (sampled 2 vsys
    { withPort .a activePort (completing ⟨.identified, 0, some 4, 0, some 1300, 12000⟩ 19000 1300) with
      ppc := { (completing ⟨.identified, 0, some 4, 0, some 1300, 12000⟩ 19000 1300).ppc with
        path := ⟨⟨.dischargeOnly, false⟩, ⟨.opened, false⟩⟩ } }))))

/-- The same with no charge-stopping alarm, so that pack A's path is FULL. -/
def charging (vsys isys : Int) : State :=
  let x : Port := { activePort with record := some { rec3 with alarms := Alarms.clear } }
  { withPort .a x (powered vsys isys) with
    ppc := { (powered vsys isys).ppc with path := ⟨⟨.full, false⟩, ⟨.opened, false⟩⟩ } }

theorem witness_ChargeFitsTheHeadroom :
    ProtectionLaw (charging 12000 1000) ∧ 0 ≤ (after .sweepCompletion (charging 12000 1000)).ppc.alloc.h ∧
      (after .sweepCompletion (charging 12000 1000)).ppc.alloc.mode = .adapter ∧
      (after .sweepCompletion (charging 12000 1000)).ppc.setpoints.a.chargeI = 1984 ∧
      0 ≤ (after .sweepCompletion (completing ⟨.absent, 0, none, 0xFF, none, 0⟩ 0 0)).ppc.alloc.h ∧
      (after .sweepCompletion (completing ⟨.absent, 0, none, 0xFF, none, 0⟩ 0 0)).ppc.alloc.mode = .batteryOnly := by
  decide +kernel

theorem witness_BoostCoversTheDeficit :
    ProtectionLaw (charging 20000 12000) ∧ (after .sweepCompletion (charging 20000 12000)).ppc.alloc.h < 0 ∧
      (after .sweepCompletion (charging 20000 12000)).ppc.alloc.mode = .adapter ∧
      128 ≤ (after .sweepCompletion (charging 20000 12000)).ppc.setpoints.a.boost := by decide +kernel

/-- No adapter, no pack, and a load. -/
def bare : State := sampled 3 1000 (sampled 2 12000 (sweeping 8 State.reset))

theorem witness_BoostCoversTheDeficit_battery :
    ProtectionLaw bare ∧ (after .sweepCompletion bare).ppc.alloc.h = -12000 ∧
      (after .sweepCompletion bare).ppc.alloc.mode = .batteryOnly ∧
      (∀ p : Pack, (bare.ppt.ports.get p).state ≠ .active) := by
  refine ⟨by decide +kernel, by decide +kernel, by decide +kernel, by intro p; cases p <;> decide⟩

/-- No adapter, pack A supplying at its cap of 2976 mA over a path that is not OPEN. -/
def supplying : State :=
  let x : Port := { activePort with record := some { rec3 with alarms := Alarms.clear } }
  let s := sampled 4 11000 (withPort .a x (sampled 3 4000 (sampled 2 12000 (sweeping 8 State.reset))))
  { s with ppc := { s.ppc with path := ⟨⟨.dischargeOnly, false⟩, ⟨.opened, false⟩⟩ } }

/-- Section 5.3, stage 3 on either side of H = 0, and U of a supplied deficit: 48,000 mW less 11 V at 2976 mA. -/
theorem witness_eligibility :
    (after .sweepCompletion (charging 12000 1000)).ppc.alloc.packs.a = ⟨true, true, 1984, 2976⟩ ∧
      (after .sweepCompletion (charging 20000 12000)).ppc.alloc.packs.a = ⟨true, true, 1984, 2976⟩ ∧
      (after .sweepCompletion (charging 12000 1000)).ppc.alloc.packs.b = ⟨false, false, 0, 0⟩ ∧
      (after .sweepCompletion (sampled 4 4999 (charging 12000 1000))).ppc.alloc.packs.a = ⟨false, false, 0, 0⟩ ∧
      (after .sweepCompletion supplying).ppc.alloc.h = -48000 ∧
      (after .sweepCompletion supplying).ppc.alloc.u = 48000 - 32736 := by decide +kernel

/-- A completion with a deficit, from a throttle state. -/
def throttled (t : Throttle) : State := { bare with ppc := { bare.ppc with throttle := t } }

theorem witness_ThrottleFollowsTheDeficit :
    0 < (after .sweepCompletion (throttled ⟨.pending, 0⟩)).ppc.alloc.u ∧
      (after .sweepCompletion (throttled ⟨.pending, 0⟩)).ppc.throttle = ⟨.asserted, 0⟩ ∧
      (after .sweepCompletion (throttled ⟨.releasing, 7⟩)).ppc.throttle = ⟨.asserted, 0⟩ ∧
      (after .sweepCompletion { charging 12000 1000 with
        ppc := { (charging 12000 1000).ppc with throttle := ⟨.releasing, 7⟩ } }).ppc.throttle = ⟨.released, 0⟩ ∧
      (after .sweepCompletion { charging 12000 1000 with
        ppc := { (charging 12000 1000).ppc with throttle := ⟨.releasing, 6⟩ } }).ppc.throttle = ⟨.releasing, 7⟩ := by
  decide +kernel

theorem witness_CompletionFormsThePowerFigures :
    (after .sweepCompletion (charging 12000 1000)).ppc.iLim = 11625 ∧
      (after .sweepCompletion (charging 12000 1000)).ppc.alloc.pIn = 220875 ∧
      (after .sweepCompletion (charging 12000 1000)).ppc.alloc.pUse = 207070 ∧
      (after .sweepCompletion (charging 12000 1000)).ppc.alloc.h = 195070 ∧
      ((charging 12000 1000).sws.latest.get 0).value ≤ 30000 ∧ (charging 12000 1000).ppc.eta ≤ 64 := by decide +kernel

/-! ## Witnesses: charge -/

/-- Pack A ACTIVE at a temperature sensed on channel 8, with a charge state. -/
def phased (c : Charge) (temp : Int) : State := withCharge .a c (sampled 8 temp (charging 12000 1000))

theorem witness_BandFollowsTheTemperature :
    (State.reset.ppt.ports.get .a).record = none ∧ ((phased idleCharge 449).ppt.ports.get .a).record.isSome = true ∧
      ((phaseStep .a (phased idleCharge 449)).ppc.charge.get .a).band = some 1 ∧
      ((phaseStep .a (phased idleCharge 450)).ppc.charge.get .a).band = some 2 ∧
      ((phaseStep .a (phased { idleCharge with band := some 2, lastProfile := some 0 } 430)).ppc.charge.get .a).band =
        some 2 ∧
      ((phaseStep .a (phased { idleCharge with band := some 2, lastProfile := some 0 } 429)).ppc.charge.get .a).band =
        some 1 ∧
      ((phaseStep .a (phased { idleCharge with band := some 2, lastProfile := some 1 } 430)).ppc.charge.get .a).band =
        some 1 ∧
      ((phaseStep .a (withPort .a { activePort with state := .stale } State.reset)).ppc.charge.get .a).band = none := by
  decide +kernel

theorem witness_PhaseStepTakesTheFirstCase :
    (State.reset.ppt.ports.get .a).state = .absent ∧
      ((phaseStep .a (withPort .a { activePort with record := none } State.reset)).ppc.charge.get .a).phase = .hold ∧
      ((phaseStep .a (phased idleCharge 250)).ppc.charge.get .a).phase = .bulk ∧
      ((phaseStep .a (phased { idleCharge with inhibit := true } 250)).ppc.charge.get .a).phase = .hold ∧
      ((phaseStep .a (sampled 4 8999 (phased idleCharge 250))).ppc.charge.get .a).phase = .precharge ∧
      ((phaseStep .a (sampled 4 9300 (phased { idleCharge with phase := .precharge } 250))).ppc.charge.get .a).phase =
        .bulk ∧
      ((phaseStep .a (sampled 4 12552 (phased { idleCharge with phase := .bulk, taperCount := 2 } 250))).ppc.charge.get
        .a).phase = .taper := by decide +kernel

theorem witness_PhaseStepTakesTheFirstCase_full :
    ((phaseStep .a (sampled 5 255 { phased { idleCharge with phase := .taper, doneCount := 7 } 250 with
        ppc := { (phased { idleCharge with phase := .taper, doneCount := 7 } 250).ppc with
          setpoints := ⟨⟨512, 12600, 0⟩, noSetpoints⟩ } })).ppc.charge.get .a).phase = .done ∧
      ((phaseStep .a (phased { idleCharge with phase := .done } 250)).ppc.charge.get .a).phase = .bulk := by
  decide +kernel

/-- A sweep completion runs the phase step of each pack. -/
theorem witness_PhaseStepTakesTheFirstCase_completion :
    SweepDone (phased idleCharge 250) ⟨0, none, 8, false, 0⟩ ∧
      (after .sweepCompletion (phased idleCharge 250)).ppc.charge.a.phase = .bulk ∧
      (after .sweepCompletion (phased idleCharge 250)).ppc.charge.b.phase = .none := by
  refine ⟨⟨rfl, by decide, Or.inl rfl⟩, by decide +kernel, by decide +kernel⟩

theorem witness_PhaseStepHandsItsFigures :
    ((phaseStep .a (phased idleCharge 250)).ppc.charge.get .a).vChg = 12600 ∧
      ((phaseStep .a (phased idleCharge 250)).ppc.charge.get .a).cap = 2000 ∧
      ((phaseStep .a (phased idleCharge 250)).ppc.charge.get .a).iDmax = 3000 ∧
      ((phaseStep .a (withPort .a { activePort with state := .stale } State.reset)).ppc.charge.get .a).vChg = 0 := by
  decide +kernel

/-- A loaded limit of 30 min governs pack A from its next phase step on. -/
theorem witness_PhaseStepHandsItsFigures_limit :
    let s := phased { idleCharge with phase := .bulk, fastTimer := 1799999 } 250
    let loaded : State := { s with ppc := { s.ppc with
      profiles := s.ppc.profiles.set 0 { s.ppc.profiles.get 0 with fastLimit := 30 }
      setpoints := ⟨⟨128, 12600, 0⟩, noSetpoints⟩ } }
    (loaded.ppc.charge.get .a).fastLimit = 300 ∧
      ((after (.tickExpiry raw) loaded).ppc.charge.get .a).due = none ∧
      ((phaseStep .a loaded).ppc.charge.get .a).fastLimit = 30 ∧
      ((after (.tickExpiry raw) (phaseStep .a loaded)).ppc.charge.get .a).due = some .fast := by decide +kernel

/-- Charging in a phase, with a charge setpoint in force. -/
def timed (ph : Phase) (pre fast : Nat) (i : Nat) : State :=
  { phased { idleCharge with phase := ph, preTimer := pre, fastTimer := fast } 250 with
    ppc := { (phased { idleCharge with phase := ph, preTimer := pre, fastTimer := fast } 250).ppc with
      setpoints := ⟨⟨i, 12600, 0⟩, noSetpoints⟩ } }

theorem witness_ChargeTimersCountAndFire :
    ((after (.tickExpiry raw) (timed .precharge 1799999 0 0)).ppc.charge.get .a).due = some .precharge ∧
      ((after (.tickExpiry raw) (timed .precharge 1799998 0 0)).ppc.charge.get .a).due = none ∧
      ((after (.tickExpiry raw) (timed .taper 0 17999999 128)).ppc.charge.get .a).due = some .fast ∧
      ((after (.tickExpiry raw) (timed .bulk 0 17999999 0)).ppc.charge.get .a).fastTimer = 17999999 ∧
      ((after (.tickExpiry raw) (timed .hold 0 5 128)).ppc.charge.get .a).fastTimer = 5 ∧
      ((after (.chargeTimeout .a) (withCharge .a { idleCharge with phase := .bulk, due := some .fast }
        State.reset)).ppc.charge.get .a).latch = some .fast ∧
      ((after (.chargeTimeout .a) (withCharge .a { idleCharge with phase := .hold, due := some .precharge }
        State.reset)).ppc.charge.get .a).latch = some .precharge := by decide +kernel

/-! ## Witnesses: the pack ports -/

theorem witness_PortTimersMoveThePort :
    (idlePort.presence = false ∧ idlePort.state = .absent) ∧
      (after (.presenceActive .a) State.reset).ppt.ports.a.presenceTimer = some 100 ∧
      (after (.presenceTimerExpiry .b) (withPort .b { idlePort with presence := true, presenceTimer := some 0 }
        State.reset)).ppt.ports.b.state = .identifying ∧
      (after (.silenceTimerExpiry .a) (withPort .a { activePort with silenceTimer := some 0 }
        State.reset)).ppt.ports.a.state = .stale ∧
      (after (.silenceTimerExpiry .a) (withPort .a { idlePort with state := .identifying, silenceTimer := some 0 }
        State.reset)).ppt.ports.a.state = .unresponsive ∧
      (after (.staleTimerExpiry .b) (withPort .b { activePort with state := .stale, staleTimer := some 0 }
        State.reset)).ppt.ports.b.state = .unresponsive := by decide +kernel

/-- A slot that waits for its reply. -/
def waiting (discard : Bool) (t : Timer) : PassSlot := ⟨.waiting, discard, 5, none, t⟩

/-- A reply queue of `n` replies. -/
def queued (n : Nat) (s : State) : State :=
  { s with slc := { s.slc with replies := List.replicate n ⟨1, .ok, [], false⟩ } }

theorem witness_RemovalClearsThePack :
    (after (.packRemoval .a) (withPort .a { activePort with slot := waiting false (some 9) } State.reset)).slc.replies =
        [⟨5, .noPack, [], false⟩] ∧
      (after (.packRemoval .a) (withPort .a { activePort with slot := waiting true (some 9) } State.reset)).slc.replies =
        [] ∧
      (after (.packRemoval .b) (queued 4 (withPort .b { activePort with slot := waiting false (some 9) }
        State.reset))).ppt.ports.b.slot.state = .resolved ∧
      (after (.packRemoval .b) (withPort .b activePort State.reset)).ppt.ports.b.state = .absent ∧
      (after (.packRemoval .a) (withPort .a { idlePort with presence := true, presenceTimer := some 3 }
        State.reset)).ppt.ports.a.presenceTimer = none := by decide +kernel

theorem witness_RemovalClearsThePack_bay :
    (after (.packRemoval .b) { withPort .b activePort State.reset with
        ppc := { State.reset.ppc with bay := ⟨.released, true, 2, false⟩ }
        swi := { State.reset.swi with baylatch := ⟨20, some false, 0, none, false⟩ } }).ppc.bay.state = .latched ∧
      (after (.packRemoval .b) { withPort .b activePort State.reset with
        ppc := { State.reset.ppc with bay := ⟨.releasing, true, 1, false⟩ } }).ppc.bay.state = .releasing ∧
      SetpointLaw (withPort .b activePort State.reset) := by decide +kernel

theorem witness_TelemetryFillsTheRecord :
    (payload 2).length = 20 ∧ (payload 5).length = 20 ∧
      (after (.packTelemetryReceived .b (frameBytes 0xA 15 (payload 5)))
        (withPort .b { idlePort with state := .identifying, presence := true } State.reset)).ppt.ports.b.state = .active ∧
      (after (.packTelemetryReceived .a (frameBytes 0xA 0 (payload 3)))
        (withPort .a activePort State.reset)).ppt.ports.a.record = some rec3 ∧
      rec3.current = -200 ∧ rec3.alarms = ⟨false, false, false, true, false⟩ := by decide +kernel

theorem witness_PassSlotsResolveOnce :
    (after (.packReplyReceived .a (frameBytes 0xC 0 (List.replicate 31 7)))
        (withPort .a { activePort with slot := waiting false (some 1) } State.reset)).slc.replies.length = 1 ∧
      (after (.packReplyReceived .a (frameBytes 0xC 0 [7]))
        (queued 4 (withPort .a { activePort with slot := waiting false (some 1) } State.reset))).ppt.ports.a.slot.state =
          .resolved ∧
      (after (.packReplyReceived .a (frameBytes 0xC 0 [7]))
        (withPort .a { activePort with slot := waiting true (some 1) } State.reset)).slc.replies = [] ∧
      (after (.passTimerExpiry .b) (withPort .b { activePort with slot := waiting false (some 0) }
        State.reset)).slc.replies = [⟨5, .timeout, [], false⟩] ∧
      (after (.passReplyQueued .b) (queued 3 (withPort .b { activePort with
        slot := ⟨.resolved, false, 5, some ⟨5, .ok, [7], false⟩, none⟩ } State.reset))).slc.replies.length = 4 := by
  decide +kernel

theorem witness_PackLinesCountErrorsAndTransmit :
    (after (.packFrameError .a (.bytes [syncByte, 0xA0, 61])) (withPort .a activePort State.reset)).ppt.ports.a.frameErrors =
        1 ∧
      (after (.packFrameError .a (.bytes (syncByte :: frameBody 0xA 0 [] ++ [0, 0])))
        (withPort .a activePort State.reset)).ppt.ports.a.frameErrors = 1 ∧ (0 : BitVec 16) ≠ crc16 (frameBody 0xA 0 []) ∧
      (after (.packFrameError .a .gap) (withPort .a { activePort with rx := .inFrame [], frameErrors := 255 }
        State.reset)).ppt.ports.a.frameErrors = 255 ∧
      (after (.packRequestTransmit .a) (withPort .a { activePort with requestDue := some [1, 0, 2] }
        State.reset)).ppt.ports.a.tx = some (frameBytes 0xB 0 [1, 0, 2]) ∧
      (after (.packRequestTransmitted .a) (withPort .a { activePort with tx := some [1] } State.reset)).ppt.ports.a.tx =
        none := by decide +kernel

/-- A PASS frame at the head of the buffer, pack A being ACTIVE. -/
def passing (bs : List Byte) : State :=
  let s := withPort .a activePort State.reset
  { s with slc := { s.slc with requests := [⟨.pass, 9, bs⟩] } }

theorem witness_PassIsCheckedInOrder :
    (after .pass (passing [0, 5, 1])).ppt.ports.a.slot.state = .waiting ∧
      (after .pass (passing [0, 5, 0, 30])).ppt.ports.a.slot.state = .waiting ∧
      (after .pass (passing [0, 5])).slc.replies = [⟨9, .badLength, [], false⟩] ∧
      (after .pass (passing [2, 5, 1])).slc.replies = [⟨9, .badArgument, [], false⟩] ∧
      (after .pass (passing [0, 5, 0, 31])).slc.replies = [⟨9, .badArgument, [], false⟩] ∧
      (after .pass (passing [0, 0x80, 0, 1])).slc.replies = [⟨9, .filtered, [], false⟩] ∧
      (after .pass (passing [1, 5, 0, 1])).slc.replies = [⟨9, .noPack, [], false⟩] := by decide +kernel

theorem witness_Pass_busy_or_waiting_for_room :
    (after .pass { passing [0, 5, 1] with
        ppt := { State.reset.ppt with ports := ⟨{ activePort with slot := waiting false (some 3) }, idlePort⟩ } }).slc.replies =
      [⟨9, .busy, [], false⟩] ∧
      replyRoom (queued 4 (passing [0, 5, 1])) = false ∧
      after .pass (queued 4 (passing [0, 5, 1])) = queued 4 (passing [0, 5, 1]) := by decide +kernel

/-- Pack B seated, with a bay. -/
def bayed (b : Bay) : State :=
  { withPort .b activePort (sampled 7 100 (charging 12000 1000)) with
    ppc := { (charging 12000 1000).ppc with bay := b, path := ⟨⟨.full, false⟩, ⟨.dischargeOnly, false⟩⟩ } }

theorem witness_BayReleasesInTwoQuietPasses :
    (after .releaseBay (req 0x2A [] State.reset)).slc.replies = [⟨3, .noPack, [], false⟩] ∧
      (after .releaseBay (req 0x2A [] (bayed ⟨.latched, false, 0, false⟩))).ppc.bay = ⟨.releasing, true, 0, false⟩ ∧
      (after .releaseBay (req 0x2A [] (bayed ⟨.released, false, 2, false⟩))).ppc.bay = ⟨.released, true, 2, false⟩ ∧
      (after .bayCancel (req 0x2B [] (bayed ⟨.releasing, true, 1, false⟩))).ppc.bay.pending = false := by decide +kernel

theorem witness_BayReleasesInTwoQuietPasses_passes :
    (after .sweepCompletion (bayed ⟨.releasing, true, 0, false⟩)).ppc.bay.quiet = 1 ∧
      (after .sweepCompletion (bayed ⟨.releasing, true, 1, false⟩)).ppc.bay.state = .released ∧
      (after .sweepCompletion (sampled 7 200 (bayed ⟨.releasing, true, 1, false⟩))).ppc.bay.quiet = 0 ∧
      (after .sweepCompletion (sampled 7 199 (bayed ⟨.releasing, true, 0, false⟩))).ppc.bay.quiet = 1 ∧
      (after .sweepCompletion { bare with ppc := { bare.ppc with bay := ⟨.releasing, true, 1, false⟩ } }).ppc.bay =
        ⟨.releasing, true, 0, true⟩ ∧
      altSupply (after .sweepCompletion (bayed ⟨.releasing, true, 1, false⟩)) .b = true := by decide +kernel

/-- A bay latch whose completion is due. -/
def latching (level : Bool) (b : Bay) : State :=
  { bayed b with swi := { State.reset.swi with baylatch := ⟨20, some level, 20, none, true⟩ } }

theorem witness_BayReleasesInTwoQuietPasses_latch :
    (after .baylatchDebounceComplete (latching false ⟨.latched, false, 0, false⟩)).ppc.bay.state = .releasing ∧
      (after .baylatchDebounceComplete (latching true ⟨.released, false, 2, false⟩)).ppc.bay.state = .latched ∧
      (after .baylatchDebounceComplete (latching true ⟨.released, true, 2, false⟩)).ppc.bay.state = .released ∧
      (after .baylatchDebounceComplete (latching false ⟨.released, true, 2, false⟩)).ppc.bay.state = .released := by
  decide +kernel

theorem witness_FramesAreReadAsSent :
    endsFrame .hunting (frameBytes 15 15 (List.replicate 60 0xFF)) =
        some (.frame ⟨15, 15, List.replicate 60 0xFF, (frameBytes 15 15 (List.replicate 60 0xFF)).tail⟩) ∧
      (List.replicate 885 (0 : Byte)).length ≤ 885 := by decide +kernel

/-! ## Witnesses: keyboard and switches -/

/-- The scanner due for a pass. -/
def scanning (first : Bool) (st : SysState) (s : State) : State :=
  { inState st s with kms := { s.kms with countdown := some 0, firstPass := first, gated := false } }

/-- One position record. -/
def keyed (p : Fin 144) (r : PosRec) (s : State) : State :=
  { s with kms := { s.kms with positions := s.kms.positions.set p r } }

theorem witness_TickExpiryCountsEveryTimer :
    (after (.tickExpiry raw) (scanning true .run { full with ssc := { full.ssc with graceTimer := some 1 } })).ssc.graceTimer =
        some 0 ∧
      (after (.tickExpiry raw) { full with ssc := { full.ssc with graceTimer := some 0 } }).ssc.graceTimer = some 0 ∧
      (after (.tickExpiry raw) full).ssc.graceTimer = none ∧
      State.reset.kms.countdown = none ∧ (scanning true .run full).kms.countdown = some 0 := by decide +kernel

/-- The first two keys read down. -/
def image : List Bool := [true, true] ++ List.replicate 142 false

theorem witness_ScanPassTakesPositionsInOrder :
    (State.reset.kms.countdown ≠ some 0) ∧
      ((after (.scanPass image) (scanning true .run State.reset)).kms.positions.get 1).state = .blocked ∧
      (after (.scanPass image) (scanning true .standby State.reset)).kms.countdown = some 8 ∧
      ((after (.scanPass image) (scanning false .run State.reset)).kms.positions.get 0).state = .pressDebounce := by
  decide +kernel

def downKey : PosRec := ⟨.down, 0, 7, .base, false, true⟩

/-- Three corners of the rectangle over rows 0 and 1 and columns 0 and 1 are DOWN; the fourth is position 0. -/
def corners (s : State) : State := keyed 1 downKey (keyed 18 downKey (keyed 19 downKey s))

theorem witness_KeysAreDebouncedAndReported_press :
    ((keyStep 0 true State.reset).kms.positions.get 0) = ⟨.pressDebounce, 1, 0, .base, false, false⟩ ∧
      ((keyStep 0 true (keyed 0 ⟨.pressDebounce, 3, 0, .base, false, false⟩ State.reset)).kms.positions.get 0).count = 4 ∧
      ((keyStep 0 true (keyed 0 ⟨.pressDebounce, 4, 0, .base, false, false⟩ State.reset)).kms.positions.get 0).state =
        .down ∧
      ((keyStep 0 true (corners (keyed 0 ⟨.pressDebounce, 4, 0, .base, false, false⟩ State.reset))).kms.positions.get
        0).state = .ghostHeld ∧
      ((keyStep 0 true (keyed 0 ⟨.ghostHeld, 0, 0, .base, false, false⟩ State.reset)).kms.positions.get 0).state =
        .pressDebounce ∧
      ((keyStep 0 true (corners (keyed 0 ⟨.ghostHeld, 0, 0, .base, false, false⟩ State.reset))).kms.positions.get
        0).state = .ghostHeld := by decide +kernel

theorem witness_KeysAreDebouncedAndReported_release :
    ((keyStep 0 false (keyed 0 downKey State.reset)).kms.positions.get 0).count = 1 ∧
      (keyStep 0 false (keyed 0 { downKey with state := .releaseDebounce, count := 4 } State.reset)).evr.normal =
        [.key ⟨0, 7, true, .base, false, 0⟩] ∧
      (keyStep 0 false (keyed 0
        { downKey with state := .releaseDebounce, count := 4, announced := false } State.reset)).evr.normal = [] ∧
      ((keyStep 0 true (keyed 0 { downKey with state := .releaseDebounce, count := 4 } State.reset)).kms.positions.get
        0).state = .down ∧
      ((keyStep 0 false (keyed 0 ⟨.blocked, 0, 0, .base, false, false⟩ State.reset)).kms.positions.get 0).state = .up := by
  decide +kernel

/-- KEY_WAKE: a press confirmed in STANDBY at a position marked WAKE. -/
theorem witness_KeysAreDebouncedAndReported_wake :
    (keyStep 0 true { inState .standby (keyed 0 ⟨.pressDebounce, 4, 0, .base, false, false⟩ State.reset) with
      kms := { (keyed 0 ⟨.pressDebounce, 4, 0, .base, false, false⟩ State.reset).kms with
        translation := State.reset.kms.translation.set 0 ⟨5, 6, false, true, false⟩ } }).ssc.state = .waking := by
  decide +kernel

/-- One switch input replaced. -/
def input (i : SwitchInput) (x : Input) (s : State) : State := { s with swi := s.swi.setInput i x }

theorem witness_SwitchSamplesLeadToALevel :
    ((after (.tickExpiry raw) (input .lid ⟨50, some true, 49, none, false⟩ State.reset)).swi.lid.due = true) ∧
      ((after (.tickExpiry raw) (input .lid ⟨50, some true, 48, none, false⟩ State.reset)).swi.lid.due = false) ∧
      (after (.tickExpiry raw) (input .lid ⟨50, some false, 49, none, false⟩ State.reset)).swi.lid.run = 0 ∧
      (after (.tickExpiry raw) (input .lid ⟨50, none, 49, some false, false⟩ State.reset)).swi.lid.due = true ∧
      (after (.tickExpiry raw) (input .lid ⟨50, none, 49, some true, false⟩ State.reset)).swi.lid.run = 1 ∧
      (after (.tickExpiry raw) (input .lid ⟨50, some true, 50, none, true⟩ State.reset)).swi.lid.run = 50 := by
  decide +kernel

theorem witness_SwitchSamplesLeadToALevel_take :
    (after (.initialTake .baylatch) (input .baylatch ⟨20, none, 20, some false, true⟩ State.reset)).ppc.bay.state =
        .latched ∧
      (after (.initialTake .pwrbtn) (input .pwrbtn ⟨30, none, 30, some true, true⟩ State.reset)).swi.pwrbtn.level =
        some true ∧
      (after (.initialTake .hinge) (input .lid ⟨50, some false, 0, none, false⟩
        (input .hinge ⟨200, none, 200, some false, true⟩ (inState .run State.reset)))).kms.countdown = some 1 ∧
      (after (.initialTake .lid) (input .lid ⟨50, none, 50, some true, true⟩ State.reset)).kms.gated = true := by
  decide +kernel

/-- LID and HINGE taken, LID's completion due. -/
def lidDue (closed gated : Bool) : State :=
  let s := input .lid ⟨50, some closed, 50, none, true⟩
    (input .hinge ⟨200, some false, 0, none, false⟩ (keyed 0 downKey full))
  { s with kms := { s.kms with gated := gated } }

theorem witness_DebouncedLevelsAreHandedOn :
    (after (.lidHingeDebounceComplete .lid) (lidDue false false)).kms.gated = true ∧
      ((after (.lidHingeDebounceComplete .lid) (lidDue false false)).kms.positions.get 0).state = .up ∧
      (after (.lidHingeDebounceComplete .lid) (lidDue true true)).kms.countdown = some 1 ∧
      (after (.lidHingeDebounceComplete .hinge) (input .hinge ⟨200, some true, 200, none, true⟩
        (lidDue true true))).kms.gated = true ∧
      (after .pwrbtnDebounceComplete (input .pwrbtn ⟨30, some false, 30, none, true⟩ full)).swi.holdStage = .counting ∧
      (after .pwrbtnDebounceComplete (input .pwrbtn ⟨30, some true, 30, none, true⟩ full)).swi.holdStage = .idle := by
  decide +kernel

/-- The gate entry's RELEASE comes before LID with value 1, and the new curve set marks the references as fresh. -/
theorem witness_DebouncedLevelsAreHandedOn_events :
    (after (.lidHingeDebounceComplete .lid) (lidDue false false)).evr.normal =
        [.key ⟨0, 7, true, .base, true, 0⟩, .event ⟨.lid, 0, 1, true, false, false, 0, 1⟩] ∧
      (after (.lidHingeDebounceComplete .lid) (lidDue false false)).fnc.set = .closed ∧
      (after (.lidHingeDebounceComplete .lid) (lidDue false false)).fnc.fans.one.fresh = true ∧
      (after (.lidHingeDebounceComplete .lid) (lidDue true true)).evr.normal =
        [.event ⟨.lid, 0, 1, true, false, false, 0, 0⟩] := by decide +kernel

/-- Section 6.1: a pass taken after the gate exit in its tick is made, as the first; after the next tick expiry it is due. -/
theorem witness_ScanPassTakesPositionsInOrder_exit :
    let opened := after (.lidHingeDebounceComplete .lid) (lidDue true true)
    opened.kms.exited = true ∧ opened.kms.countdown = some 1 ∧
      ((after (.scanPass image) opened).kms.positions.get 1).state = .blocked ∧
      (after (.scanPass image) opened).kms.firstPass = false ∧
      (after (.tickExpiry raw) opened).kms.exited = false ∧ (after (.tickExpiry raw) opened).kms.countdown = some 0 := by
  decide +kernel

/-- A hold of the power button. -/
def held (g : HoldStage) (n : Nat) (s : State) : State :=
  { s with swi := { s.swi with holdStage := g, holdCount := n, holdRunning := true } }

theorem witness_PowerButtonHoldsAreReportedAndForceOff :
    (after .powerButtonHold (held .counting 4000 full)).swi.holdStage = .reported ∧
      after .powerButtonHold (held .counting 3999 full) = held .counting 3999 full ∧
      (after .hold10sExpiry (held .reported 10000 full)).ssc.state = .off ∧
      after .hold10sExpiry (held .reported 9999 full) = held .reported 9999 full ∧
      (after .hold10sExpiry (held .reported 10000 State.reset)).swi.holdStage = .spent ∧ PolicyLegal full.evr := by
  decide +kernel

/-- The two records of a forced OFF with cause BUTTON, in order, under the default policy. -/
theorem witness_PowerButtonHoldsAreReportedAndForceOff_events :
    (full.evr.policy.get EventCode.forcedOff.idx).cls = .urgent ∧
      (full.evr.policy.get EventCode.stateChange.idx).cls = .urgent ∧
      (after .hold10sExpiry (held .reported 10000 (keyed 0 downKey full))).evr.urgent =
        [⟨.forcedOff, 0, 1, false, false, false, 0, 1⟩, ⟨.stateChange, 0, 1, false, false, false, 0, 0⟩] ∧
      (after .hold10sExpiry (held .reported 10000 (keyed 0 downKey full))).evr.normal =
        [.key ⟨0, 7, true, .base, true, 0⟩] := by decide +kernel

/-! ## Witnesses: the fans -/

/-- An evaluation due, with the skin temperature sampled. -/
def evaluating (m : PartMode) (v : Int) : State :=
  let s := sampled 11 v { full with ssc := { full.ssc with mode := m } }
  { s with fnc := { s.fnc with evalCountdown := 0 } }

theorem witness_EvaluationFormsEachDemand :
    (after .fanEvaluation (evaluating .full 612)).fnc.fans.one.curveDuty = 494 ∧
      (after .fanEvaluation (evaluating .full 612)).fnc.fans.two.state = .kick ∧
      (after .fanEvaluation (evaluating .quiet 612)).fnc.fans.one.demand = 0 ∧
      (after .fanEvaluation { full with fnc := { full.fnc with evalCountdown := 0 } }).fnc.fans.one.demand = 600 ∧
      full.fnc.evalCountdown ≠ 0 := by decide +kernel

theorem witness_EvaluationFormsEachDemand_curves : CurvesOk State.reset.fnc := by decide +kernel

theorem witness_CurveIsReadBetweenItsPoints :
    ascending [(400, 0), (550, 350), (700, 700), (850, 1000)] = true ∧
      moveReference false 600 569 30 = 599 ∧ moveReference false 600 570 30 = 600 ∧ moveReference true 600 1 30 = 1 := by
  decide

theorem witness_DemandActsByTheFanState :
    (idleFan.setDemand 1).state = .kick ∧ idleFan.setDemand 0 = idleFan ∧
      (after (.kickEnd .one) (withFan .one { idleFan with state := .kick, demand := 400, kickTimer := some 0 }
        full)).fnc.fans.one.silenceTimer = some 1000 ∧
      (after (.kickEnd .one) (withFan .one { idleFan with state := .kick, kickTimer := some 0 } full)).fnc.fans.one.state =
        .off ∧
      ({ idleFan with state := .stallRetry, retries := 2 }.setDemand 0).retries = 0 := by decide +kernel

theorem witness_FanAndHostTimersExpire :
    (after (.tachSilenceTimeout .two) (withFan .two
        { idleFan with state := .running, demand := 300, silenceTimer := some 0 } full)).fnc.fans.two.state = .stallRetry ∧
      (after (.tachSilenceTimeout .two) (withFan .two
        { idleFan with state := .kick, silenceTimer := some 0 } full)).fnc.fans.two.silent = true ∧
      (after (.retryKickEnd .one) (withFan .one { idleFan with state := .stallRetry, retries := 2, kickTimer := some 0 }
        full)).fnc.fans.one.retries = 3 ∧
      (after (.retryKickEnd .one) (withFan .one { idleFan with state := .stallRetry, retries := 3, kickTimer := some 0 }
        full)).fnc.fans.one.state = .stallLockout ∧
      ((after (.hostTempStale 2) { full with fnc := { full.fnc with
        slots := full.fnc.slots.set 2 ⟨500, true, some 0⟩ } }).fnc.slots.get 2).refreshed = false ∧
      (after .overrideExpiry { full with fnc := { full.fnc with
        overrideDuty := 500, overrideTimer := some 0 } }).fnc.overrideDuty = 0 := by decide +kernel

/-! ## Witnesses: events and the system state -/

/-- The normal queue with `n` records, in a queue state. -/
def filled (n : Nat) (q : NormalState) (s : State) : State :=
  { s with evr := { s.evr with
    normal := List.replicate n (.event ⟨.lid, 0, 1, false, false, false, 0, 1⟩)
    normalState := q
    discarded := if q = .opened then 0 else 1 } }

theorem witness_EventsAreTalliedAndPlaced :
    (route .adapterAttach 0 0 (filled 31 .opened full)).evr.normal.length = 32 ∧
      (route .adapterAttach 0 0 (filled 32 .opened full)).evr.normalState = .overflowed ∧
      (route .adapterAttach 0 0 (filled 20 .overflowed full)).evr.discarded = 2 ∧
      (route .keyWake 0 0 full).evr.normal = [] ∧
      (route .throttleOn 0 7 (route .throttleOn 0 5 full)).evr.urgent =
        [⟨.throttleOn, 0, 2, false, false, false, 0, 7⟩] ∧
      (route .limitFault 3 9 (inState .standby full)).ssc.state = .waking := by decide +kernel

/-- A record on which the system starts carries ACTED, in the normal queue and in the urgent one; the start's STATE_CHANGE
follows it. -/
theorem witness_EventsAreTalliedAndPlaced_acts :
    (route .powerButton 0 1 State.reset).evr.normal = [.event ⟨.powerButton, 0, 1, true, true, true, 0, 1⟩] ∧
      (route .powerButton 0 1 State.reset).evr.urgent = [⟨.stateChange, 0, 1, false, false, false, 0, 1⟩] ∧
      (route .powerButton 0 1 (filled 32 .opened State.reset)).evr.normalState = .overflowed ∧
      (route .powerButton 0 1 (filled 20 .overflowed State.reset)).ssc.state = .booting ∧
      ((route .limitFault 3 9 (inState .standby full)).evr.urgent.map fun r => r.acted) = [true, false] ∧
      (State.reset.evr.placeNormal (.key ⟨3, 7, true, .fn, false, 0⟩)).normal = [.key ⟨3, 7, true, .fn, false, 0⟩] ∧
      ((filled 32 .opened full).evr.placeNormal (.key ⟨3, 7, true, .fn, false, 0⟩)).keyMark = true := by decide +kernel

theorem witness_EventsStartAndWakeTheSystem :
    (route .powerButton 0 1 State.reset).ssc.state = .booting ∧ (route .powerButton 0 0 State.reset).ssc.state = .off ∧
      (route .lid 0 0 (inState .standby full)).ssc.state = .waking ∧
      (route .lid 0 1 (inState .standby full)).ssc.state = .standby ∧
      (route .powerButton 0 1 { State.reset with ssc := { State.reset.ssc with critical := true } }).ssc.state = .off := by
  decide +kernel

theorem witness_NoStartWhileBatteryIsCritical :
    QueueLaw { State.reset with ssc := { State.reset.ssc with critical := true } } :=
  ⟨by decide +kernel, by decide +kernel, by decide +kernel, by decide +kernel, by decide +kernel, by decide +kernel,
    by decide +kernel⟩

/-- A system state with one of its timers run out. -/
def timedOut (st : SysState) : State :=
  { full with ssc := { full.ssc with
    state := st
    bootTimer := if st = .booting then some 0 else none
    wakeTimer := if st = .waking then some 0 else none
    haltTimer := if st = .halting then some 0 else none } }

theorem witness_SystemTimersMoveTheState :
    (after .bootTimeout (timedOut .booting)).ssc.state = .off ∧ (after .haltTimerExpiry (timedOut .halting)).ssc.state = .off ∧
      (after .wakeTimeout (timedOut .waking)).ssc.state = .standby ∧
      (after .criticalGraceExpiry { full with ssc := { full.ssc with graceTimer := some 0 } }).ssc.state = .off ∧
      (after .criticalGraceExpiry { State.reset with ssc := { State.reset.ssc with graceTimer := some 0 } }).ssc.graceTimer =
        none ∧
      (full.evr.policy.get EventCode.wakeTimeout.idx).wake = false ∧
      (full.evr.policy.get EventCode.stateChange.idx).wake = false := by decide +kernel

theorem witness_HostMovesTheSystemState :
    (after .online (req 0x01 [] (timedOut .booting))).ssc.state = .run ∧
      (after .online (req 0x01 [] (timedOut .waking))).slc.linkUp = true ∧
      (after .sleep (req 0x02 [] full)).ssc.state = .standby ∧
      (after .sleep (req 0x02 [] full)).slc.replies = [⟨3, .ok, [4], true⟩] ∧
      (after .powerOff (req 0x03 [] full)).ssc.haltTimer = some 200 ∧
      (after .powerOff (req 0x03 [] State.reset)).slc.replies = [⟨3, .notNow, [], false⟩] := by decide +kernel

/-! ## Witnesses: the service link -/

theorem witness_ServiceFramesAreBufferedOrCounted :
    (after (.serviceFrameReceived (frameBytes 8 15 (List.replicate 60 1))) full).slc.requests.length = 1 ∧
      (after (.serviceFrameReceived (frameBytes 9 0 [])) { full with
        slc := { full.slc with requests := List.replicate 4 ⟨.pass, 0, []⟩ } }).slc.overrun = true ∧
      (after (.serviceFrameError (frameBytes 7 0 [])) full).slc.framingErrors = 1 ∧
      (after (.serviceFrameError [syncByte, 0, 61]) full).slc.framingErrors = 1 ∧
      (after (.serviceFrameError (syncByte :: frameBody 8 0 [] ++ [0, 0])) full).slc.checkErrors = 1 ∧
      (0 : BitVec 16) ≠ crc16 (frameBody 8 0 []) ∧
      (after .serviceGapTimeout { full with slc := { full.slc with
        rx := .inFrame [], gapTimer := some 0 } }).slc.framingErrors = 1 := by decide +kernel

/-- Section 11.2's record layouts, byte for byte. -/
theorem test_record_bytes :
    eventBytes ⟨.limitFault, 9, 3, true, false, true, 0x01020304, -2⟩ =
        [0x0F, 9, 3, 0x05, 1, 2, 3, 4, 0xFF, 0xFF, 0xFF, 0xFE] ∧
      keyBytes ⟨143, 0x3A, true, .fn, false, 0x0A0B0C0D⟩ = [143, 0x3A, 0x03, 10, 11, 12, 13] := by decide +kernel

theorem witness_TransmitterTakesInOrder :
    (after .transmitStart (filled 17 .overflowed full)).evr.normal.length = 17 ∧
      (after .transmitStart (filled 18 .overflowed full)).evr.normal.length = 17 ∧
      (after .transmitStart (filled 18 .overflowed full)).evr.normalState = .overflowed ∧
      ((after .transmitStart (filled 1 .opened (route .throttleOn 0 1 full))).slc.tx.map fun x => x.source) =
        some .urgent ∧
      ((after .transmitStart (queued 1 full)).slc.tx.map fun x => x.source) = some .reply ∧
      (after .transmitStart { full with evr := { full.evr with telemetry := some [1], rotation := .relayB } }).evr.rotation =
        .relayA ∧
      after .transmitStart (filled 1 .opened State.reset) = filled 1 .opened State.reset := by decide +kernel

theorem witness_TransmitterTakesInOrder_end :
    (after .transmitEnd { full with slc := { full.slc with
        tx := some ⟨.reply, [[1]]⟩, replies := [⟨3, .ok, [4], true⟩] } }).slc.linkUp = false ∧
      (after .transmitEnd { full with slc := { full.slc with
        tx := some ⟨.reply, [[1], [2]]⟩, replies := [⟨3, .ok, [4], true⟩] } }).slc.replies.length = 1 ∧
      (after .transmitEnd { full with slc := { full.slc with tx := some ⟨.bulk, [[1]]⟩ } }).slc.tx = none := by
  decide +kernel

theorem witness_UnknownIsAnsweredAndRestartClears :
    (after .unknownRequest { full with slc := { full.slc with requests := [⟨.request, 2, []⟩] } }).slc.replies =
        [⟨2, .badLength, [], false⟩] ∧
      (after .unknownRequest (req 0x0E [] full)).slc.replies = [⟨3, .unknownRequest, [], false⟩] ∧
      after .unknownRequest (req 0x0D [] full) = req 0x0D [] full ∧
      (after .restartLink (req 0x04 [] (queued 3 full))).slc.replies = [⟨3, .ok, [], false⟩] ∧
      (after .restartLink { req 0x04 [] (queued 3 full) with slc := { (req 0x04 [] (queued 3 full)).slc with
        tx := some ⟨.reply, [[1]]⟩ } }).slc.replies.length = 2 := by decide +kernel

/-! ## Witnesses: the requests -/

theorem witness_RequestAtHead (n : Nat) (args : List Byte) : RequestAtHead (req n args State.reset) n args 3 :=
  ⟨rfl, rfl⟩

/-- Code and data of the reply that a request of number `n` leaves last in the queue. -/
def replied (c : Instr) (n : Nat) (args : List Byte) (s : State) : Option (ResultCode × List Byte) :=
  (after c (req n args s)).slc.replies.getLast?.map fun r => (r.code, r.data)

/-- The code of that reply. -/
def code (c : Instr) (n : Nat) (args : List Byte) (s : State) : Option ResultCode := (replied c n args s).map fun x => x.1

theorem witness_ReadsAnswerWithoutChange :
    ([0, 1, 2].map fun h => code .readChannels 5 [h] State.reset) = [some .ok, some .ok, some .badArgument] ∧
      ([0, 1, 2].map fun x => code .readPack 6 [x] State.reset) = [some .ok, some .ok, some .badArgument] ∧
      ([0, 15, 16, 0xFE, 0xFF].map fun x => code .readFaults 8 [x] State.reset) =
        [some .ok, some .ok, some .badArgument, some .badArgument, some .ok] ∧
      code .readAllocation 7 [0] State.reset = some .badLength ∧ code .readKeymap 0x0A [] State.reset = some .ok ∧
      code .readFans 0x0C [] State.reset = some .ok ∧
      replied .readStatus 0x0D [] State.reset = some (.ok, [1, 0, 0, 0, 0, 0, 0, 0, 1]) := by decide +kernel

theorem witness_ReadsAnswerWithoutChange_lengths :
    ([[], [0, 0]].map fun args => code .readChannels 5 args State.reset) = [some .badLength, some .badLength] ∧
      ([[], [0, 0]].map fun args => code .readPack 6 args State.reset) = [some .badLength, some .badLength] ∧
      ([[], [0, 0]].map fun args => code .readFaults 8 args State.reset) = [some .badLength, some .badLength] ∧
      ([[2], [3, 4], [5, 1], [5, 1, 4], [5, 0, 3], [7, 8]].map fun args => code .readTable 0x18 args State.reset) =
        [some .badLength, some .badArgument, some .badLength, some .badArgument, some .badArgument, some .badArgument] := by
  decide +kernel

/-- Section 3.7's reply: an empty port A sends zeros, and a record is sent as the telemetry laid it out, then its age. -/
theorem witness_ReadsAnswerWithoutChange_pack :
    replied .readPack 6 [0] State.reset = some (.ok, List.replicate 28 0) ∧
      replied .readPack 6 [0] (withPort .a { activePort with frameErrors := 2 } State.reset) =
        some (.ok, [2, 1, 2, 0, 0, 2] ++ payload 3 ++ [0, 0]) := by decide +kernel

/-- The keymap's mask: a key listed first whose PRESS the host never saw is marked in bit 0. -/
theorem witness_ReadsAnswerWithoutChange_mask :
    ((replied .readKeymap 0x0A [] (keyed 5 { downKey with announced := false } State.reset)).map fun x =>
      x.2.drop 19) = some [7, 0, 0, 0, 1] := by decide +kernel

theorem witness_ReadsAnswerWithoutChange_tables :
    ([[], [0], [9], [1], [1, 0], [2, 15], [2, 16], [3, 3], [4], [5, 1, 2], [5, 2, 3], [5, 0, 0], [6], [7, 7], [8]].map
      fun args => code .readTable 0x18 args State.reset) =
      [some .badLength, some .badArgument, some .badArgument, some .ok, some .badLength, some .ok, some .badArgument,
        some .ok, some .ok, some .ok, some .ok, some .badArgument, some .ok, some .ok, some .ok] := by decide +kernel

/-- A profile of `n` bands at the edges of its ranges. -/
def edgeProfile (n : Nat) : Profile where
  bounds := ([-200, -199, 0, 799, 800] : List Int).take (n - 1)
  bands := List.replicate n ⟨8064, 4500, 8064⟩
  hyst := 100
  preThreshold := 3300
  preCurrent := 1024
  taperCurrent := 2048
  rechargeDelta := 300
  rechargeSoc := 99
  fastLimit := 600

theorem witness_LoadsReplaceOneEntry_schedule :
    ([[7, 1, 8, 0], [16, 1, 8, 0], [8, 1, 3, 0], [8, 1, 8, 8], [8, 1, 8, 1], [8, 1, 8, 0], [15, 1, 64, 63], [15, 0, 1, 0]].map
      fun args => code .loadSchedule 0x13 args State.reset) =
      [some .badArgument, some .badArgument, some .invalidTable, some .invalidTable, some .invalidTable, some .ok, some .ok,
        some .ok] ∧
      ((after .loadSchedule (req 0x13 [15, 0, 1, 0] (sampled 15 70 slowTurn))).sws.latest.get 15).valid = false ∧
      ((after .loadSchedule (req 0x13 [15, 0, 1, 0] slowTurn)).sws.sweep.map fun w => w.slot) = some none := by
  decide +kernel

theorem witness_LoadsReplaceOneEntry_profile :
    ([[0x40], [0x30], [0x37], [0x31], profileBytes 3 (edgeProfile 1), profileBytes 0 (edgeProfile 6),
      profileBytes 3 { edgeProfile 6 with hyst := 101 }, profileBytes 3 { edgeProfile 2 with bounds := [801] }].map
      fun args => code .loadProfile 0x10 args State.reset) =
      [some .badArgument, some .invalidTable, some .invalidTable, some .badLength, some .ok, some .ok, some .invalidTable,
        some .invalidTable] ∧
      (after .loadProfile (req 0x10 (profileBytes 0 (edgeProfile 6)) State.reset)).ppc.profiles.get 0 = edgeProfile 6 := by
  decide +kernel

theorem witness_LoadsReplaceOneEntry_entries :
    ([[8, 0, 0, 0, 0, 0, 3, 232], [7, 1, 0, 0, 0, 0, 0, 0], [0, 0, 12, 228, 12, 228, 62, 128], [0, 0, 0, 2, 0, 1, 3, 232],
      [0, 0, 0, 0, 0, 0, 3, 231]].map fun args => code .loadAdapter 0x11 args State.reset) =
      [some .badArgument, some .ok, some .ok, some .invalidTable, some .invalidTable] ∧
      ([[8, 0, 0, 0, 0], [7, 1, 9, 0, 9], [0, 0, 5, 4, 0], [0, 0, 5, 5, 3], [0, 0, 5, 5, 2]].map
        fun args => code .loadPassFilter 0x17 args State.reset) =
        [some .badArgument, some .ok, some .invalidTable, some .invalidTable, some .ok] ∧
      ([[0x20, 0, 0], [0, 0, 0], [0x24, 0, 0], [0x23, 3, 0], [0x23, 0, 2], [0x23, 1, 1]].map
        fun args => code .loadPolicy 0x15 args State.reset) =
        [some .badArgument, some .badArgument, some .badArgument, some .invalidTable, some .invalidTable, some .ok] ∧
      (allCodes.filter fun c => decide (c.num = 0x23)) ≠ [.gap] := by decide +kernel

/-- A curve of `n` points at the edges of its ranges. -/
def edgeCurve (n : Nat) : Curve where
  sources := ⟨true, false, false, true, false, false, true⟩
  hyst := 100
  minDuty := 1000
  failsafe := 1000
  points := ([(-400, 0), (-399, 5), (0, 5), (1, 4), (2, 3), (3, 2), (1499, 1), (1500, 1000)] : List (Int × Nat)).take n

theorem witness_LoadsReplaceOneEntry_curve :
    ([[0, 0], [3, 0], [1, 4], [1, 0, 1, 1], [1, 0, 1, 9], [1, 0, 1, 2], 1 :: 0 :: curveBytes (edgeCurve 2),
      2 :: 2 :: curveBytes (edgeCurve 8), 2 :: 2 :: curveBytes { edgeCurve 8 with hyst := 101 }, [1, 3, 0, 1], [1, 3, 4, 2],
      [1, 3, 4, 0]].map fun args => code .loadFanCurve 0x14 args State.reset) =
      [some .badArgument, some .badArgument, some .badArgument, some .invalidTable, some .invalidTable, some .badLength,
        some .ok, some .ok, some .invalidTable, some .invalidTable, some .invalidTable, some .ok] ∧
      (after .loadFanCurve (req 0x14 [1, 3, 4, 0] (withFan .one
        { idleFan with state := .stallRetry, retries := 2, kickTimer := some 7 } full))).fnc.fans.one.silenceTimer =
        some 1000 := by decide +kernel

theorem witness_LoadsReplaceOneEntry_keyrow :
    ([[8], [7], 7 :: List.replicate 54 7, 0 :: List.replicate 54 8].map
      fun args => code .loadKeyrow 0x16 args State.reset) =
      [some .badArgument, some .badLength, some .ok, some .invalidTable] := by decide +kernel

/-- A LOAD_LIMIT of channel 2 (clamp range 0 to 25000) with an enable byte, a hysteresis, an action and its limits. -/
def limitLoad (on hyst action : Byte) (limits : List Int) : List Byte :=
  [2, 15, on] ++ limits.flatMap put2 ++ [0, hyst, 15, action, 3]

theorem witness_LimitLoadsAndDefaultsAct_limit :
    ([16 :: List.replicate 15 0, limitLoad 1 10 10 [20, 5, 1, 30], limitLoad 1 8 9 [5, 21, 1, 30], limitLoad 1 8 9 [5, 20, 1, 30],
      limitLoad 1 8 0 [5, 21, 6, 30], limitLoad 1 8 0 [5, 21, 1, 20], limitLoad 1 8 0 [5, 21, -1, 30]].map
      fun args => code .loadLimit 0x12 args State.reset) =
      [some .badArgument, some .invalidTable, some .ok, some .invalidTable, some .invalidTable, some .invalidTable,
        some .invalidTable] := by decide +kernel

/-- Channel 0 in FAULT without an action; a load gives it one. -/
def faulted : State := judged .none ⟨.fault, 0, 0, 0, 1, some 301, some 4⟩

theorem witness_LimitLoadsAndDefaultsAct_effect :
    (after .loadLimit (req 0x12 (0 :: (limitLoad 1 8 9 [5, 21, 1, 30]).tail) (inState .run faulted))).ssc.state = .off ∧
      ((after .loadLimit (req 0x12 (0 :: (limitLoad 0 8 9 [5, 21, 1, 30]).tail) faulted)).lmt.chans.get 0).state =
        .normal ∧ faulted.evr = State.reset.evr := by decide +kernel

theorem witness_LimitLoadsAndDefaultsAct_defaults :
    ([[], [0], [9], [8, 0], [1], [2], [3], [4], [5], [6], [7], [8]].map
      fun args => code .restoreDefaults 0x19 args State.reset) =
      [some .badLength, some .badArgument, some .badArgument, some .badLength, some .ok, some .ok, some .ok, some .ok,
        some .ok, some .ok, some .ok, some .ok] := by decide +kernel

/-- Eight records of codes that the default policy does not call urgent. -/
def crowded : State :=
  { State.reset with evr := { State.reset.evr with
    urgent := ((allCodes.filter fun c => decide (c ≠ .gap) && decide ((defaultPolicy.get c.idx).cls ≠ .urgent)).take 8).map
      fun c => ⟨c, 0, 1, false, false, false, 0, 0⟩ } }

theorem witness_LimitLoadsAndDefaultsAct_crowded : code .restoreDefaults 0x19 [6] crowded = some .notNow := by
  decide +kernel

theorem witness_ClearFaultsAndTalliesAnswer :
    code .clearFaults 9 [0] State.reset = some .badLength ∧ code .readTally 0x0B [0] State.reset = some .badLength ∧
      replied .clearFaults 9 [] (withFan .two { idleFan with state := .stallLockout, retries := 3 } (withCharge .b
        { idleCharge with latch := some .fast } (judged .none ⟨.held, 0, 0, 0, 1, none, none⟩))) =
        some (.ok, [0, 1, 0, 0, 2, 2]) ∧
      (after .clearFaults (req 9 [] (withFan .two { idleFan with state := .stallLockout, retries := 3 } { State.reset with
        lmt := { (judged .fanFull ⟨.fault, 0, 0, 0, 1, none, none⟩).lmt with
          actionSet := [.fanFull] } }))).fnc.fans.two.state = .kick ∧
      replied .readTally 0x0B [] (route .keyWake 0 0 full) = some (.ok, tallyBytes (route .keyWake 0 0 full).evr) := by
  decide +kernel

theorem witness_InputLimitAndEfficiencyAreUsed :
    ([[0, 0], [0, 1], [1, 243], [1, 244], [78, 32], [78, 33]].map fun args => replied .setInputLimit 0x20 args State.reset) =
      [some (.ok, [0, 0]), some (.okClamped, [1, 244]), some (.okClamped, [1, 244]), some (.ok, [1, 244]),
        some (.ok, [78, 32]), some (.okClamped, [78, 32])] ∧
      ([47, 48, 64, 65].map fun x => replied .setEfficiency 0x21 [x] State.reset) =
        [some (.okClamped, [48]), some (.ok, [48]), some (.ok, [64]), some (.okClamped, [64])] := by decide +kernel

/-- Section 11.3: a length that a request's rule does not list. -/
theorem witness_wrong_lengths :
    ([(.loadSchedule, 0x13, 3), (.loadProfile, 0x10, 0), (.loadAdapter, 0x11, 9), (.loadPassFilter, 0x17, 4),
        (.loadFanCurve, 0x14, 1), (.loadPolicy, 0x15, 2), (.loadKeyrow, 0x16, 0), (.loadLimit, 0x12, 17),
        (.setInputLimit, 0x20, 1), (.setEfficiency, 0x21, 2), (.setBoost, 0x22, 3), (.setChargeInhibit, 0x23, 0),
        (.setBatteryThresholds, 0x24, 1), (.setHostTemps, 0x25, 0), (.setFanOverride, 0x26, 2), (.setKeyDebounce, 0x27, 1),
        (.setSwitchDebounce, 0x28, 0), (.setSwitchDebounce, 0x28, 2), (.setSwitchDebounce, 0x28, 4),
        (.setTelemetry, 0x29, 3), (.online, 0x01, 1), (.sleep, 0x02, 1), (.powerOff, 0x03, 1), (.restartLink, 0x04, 1),
        (.releaseBay, 0x2A, 1), (.bayCancel, 0x2B, 1)] : List (Instr × Nat × Nat)).all
      (fun x => decide (code x.1 x.2.1 (List.replicate x.2.2 0) full = some .badLength)) = true ∧
      code .loadFanCurve 0x14 [1, 2, 5] full = some .badLength ∧ code .loadFanCurve 0x14 [2, 3, 5] full = some .badLength ∧
      code .setSwitchDebounce 0x28 [0xFF, 0] full = some .badLength := by decide +kernel

theorem witness_SettingsAreClampedAndKept :
    ([[2, 5], [1, 4], [0, 90], [0, 91]].map fun args => replied .setBoost 0x22 args State.reset) =
      [some (.badArgument, []), some (.okClamped, [1, 5]), some (.ok, [0, 90]), some (.okClamped, [0, 90])] ∧
      ([[3, 0], [0, 2], [2, 1], [1, 1], [0, 0]].map fun args => replied .setChargeInhibit 0x23 args State.reset) =
        [some (.badArgument, []), some (.badArgument, []), some (.ok, [3]), some (.ok, [2]), some (.ok, [0])] ∧
      ([[5, 4], [4, 5], [50, 1], [51, 50]].map fun args => code .setBatteryThresholds 0x24 args State.reset) =
        [some .ok, some .okClamped, some .okClamped, some .okClamped] ∧
      ([[0], [16], [1], [15, 0, 0, 0, 0, 0, 0, 0, 0], [8, 5, 220], [8, 5, 221]].map
        fun args => code .setHostTemps 0x25 args State.reset) =
        [some .badArgument, some .badArgument, some .badLength, some .ok, some .ok, some .okClamped] := by decide +kernel

theorem witness_SettingsAreClampedAndKept_more :
    ([[0, 0, 9], [3, 232, 1], [3, 233, 60], [0, 1, 61]].map fun args => code .setFanOverride 0x26 args State.reset) =
      [some .ok, some .ok, some .okClamped, some .okClamped] ∧
      ([[1, 15], [0, 15], [1, 16]].map fun args => code .setKeyDebounce 0x27 args State.reset) =
        [some .ok, some .okClamped, some .okClamped] ∧
      ([[0xFF], [0xFF, 0, 5], [4, 0, 5], [3, 0, 5], [0, 1, 244], [0, 1, 245]].map
        fun args => code .setSwitchDebounce 0x28 args State.reset) =
        [some .ok, some .badLength, some .badArgument, some .ok, some .ok, some .okClamped] ∧
      ([[0, 0], [0, 49], [0, 50], [19, 136], [19, 137]].map fun args => code .setTelemetry 0x29 args State.reset) =
        [some .ok, some .okClamped, some .ok, some .ok, some .okClamped] ∧
      (after .telemetryPeriodExpiry { full with evr := { full.evr with period := 50, periodTimer := some 0 } }).evr.periodTimer =
        some 50 ∧
      (after .sweepCompletion (sweeping 8 { full with evr := { full.evr with due := true } })).evr.telemetry ≠ none := by
  decide +kernel

/-! ## Witnesses: the laws -/

theorem witness_SetpointLawIsKept : SetpointLaw State.reset ∧ SetpointLaw (charging 12000 1000) :=
  ⟨by decide +kernel, by decide +kernel⟩

theorem witness_ProtectionAndBatteryLawsAreKept :
    ProtectionLaw State.reset ∧ BatteryLaw State.reset ∧ ProtectionLaw (charging 12000 1000) := by decide +kernel

theorem witness_QueueLaw : QueueLaw State.reset :=
  ⟨by decide +kernel, by decide +kernel, by decide +kernel, by decide +kernel, by decide +kernel, by decide +kernel,
    by decide +kernel⟩

theorem witness_StateLawIsKept : StateLaw State.reset :=
  ⟨rfl, rfl, rfl, rfl, rfl, by decide, by decide, by decide, by decide, by decide, by decide, by decide⟩

theorem witness_KeyLawsAreKept : KeyLaw State.reset ∧ ∀ p : Fin 144, (State.reset.kms.positions.get p).announced = false :=
  ⟨⟨by decide +kernel, by decide +kernel, by decide +kernel, by decide +kernel, by decide +kernel⟩, by decide +kernel⟩

theorem witness_KeyLawsAreKept_records : KeyRecordLaw State.reset := by
  refine fun p => ⟨rfl, fun _ x h => ?_, fun h => ?_⟩
  · exact absurd (show x ∈ (none : Option Bool) from h) (by simp)
  · rw [witness_KeyLawsAreKept.2 p] at h; cases h

theorem witness_FanAndPackLawsAreKept : FanLaw State.reset ∧ PackLaw State.reset :=
  ⟨⟨by decide +kernel, by decide +kernel, by decide +kernel, rfl, rfl⟩, by
    refine ⟨⟨?_, ?_, ?_, ?_, ?_, ?_, ?_, ?_, ?_, ?_, ?_, ?_, ?_⟩, ?_, ?_, ?_, ?_, ?_, ?_, ?_, ?_, ?_, ?_, ?_, ?_, ?_⟩ <;>
      decide⟩

theorem witness_QueueAndSweepLawsAreKept : SweepLaw State.reset := by decide +kernel

end Sys2Proof.Tests
end

namespace Sys2Proof.Machine

/-! ## A conversion in its turn (R5, R8) -/

/-- The channel in its turn is the one whose conversion the sweep takes next. -/
theorem Sweep.next_of_inTurn {w : Sweep} {ch : Fin 16} (h : InTurn w ch) : w.next = some ch := by
  obtain ⟨hf, hc⟩ | ⟨hf, hd, i, hi, hc⟩ := h
  · exact (dif_pos hf).trans (congrArg some (Fin.ext hc.symm))
  · simp [Sweep.next, Nat.not_lt.2 hf, hd, hi, slowChannel, ← hc]

/-- Every clamp range of R5 is an interval that holds a value. -/
theorem clampRange_le : ∀ ch : Fin 16, (clampRange ch).1 ≤ (clampRange ch).2 := by decide

/-- The clamp of a setting, brought into one formula, where the range is not empty. -/
theorem clampInt_eq {lo hi : Int} (v : Int) (h : lo ≤ hi) :
    clampInt lo hi v = (max lo (min hi v), decide (max lo (min hi v) ≠ v)) := by
  unfold clampInt
  split
  · rw [Prod.mk.injEq]; exact ⟨by omega, (decide_eq_true (by omega)).symm⟩
  · split
    · rw [Prod.mk.injEq]; exact ⟨by omega, (decide_eq_true (by omega)).symm⟩
    · rw [Prod.mk.injEq]; exact ⟨by omega, (decide_eq_false (by omega)).symm⟩

theorem sampleOf_eq (ch : Fin 16) (v : Int) (n : Nat) (now : Stamp) :
    sampleOf ch v n now = ⟨true, decide (clamped ch v ≠ v), clamped ch v, n, now⟩ := by
  rw [sampleOf, clampInt_eq v (clampRange_le ch)]; rfl

/-- A conversion in its turn stores its sample and hands it to LMT (R8). -/
theorem exec_conversion_inTurn {s : State} {w : Sweep} {ch : Fin 16} (v : Int) (hw : s.sws.sweep = some w)
    (ht : InTurn w ch) :
    exec (.conversionComplete ch v) s = .next (judgeSample ch (clamped ch v) (stored ch v w s)) := by
  simp only [exec, execConversionComplete, hw, Sweep.next_of_inTurn ht, if_true, convert, sampleOf_eq]
  rfl

/-! ## Zones (R17, R20) -/

theorem outside_iff {low high : Option Int} {v : Int} :
    outside low high v = true ↔ (∃ l ∈ low, v < l) ∨ ∃ h ∈ high, h < v := by
  cases low <;> cases high <;> simp [outside]

theorem insideNarrowed_iff {low high : Option Int} {hyst v : Int} :
    insideNarrowed low high hyst v = true ↔ (∀ l ∈ low, l + hyst ≤ v) ∧ ∀ h ∈ high, v ≤ h - hyst := by
  cases low <;> cases high <;> simp [insideNarrowed]

variable {e : LimitEntry} {v : Int}

/-- The zone of a value beyond a fault limit is F. -/
theorem zoneOf_beyond (h : BeyondFault e v) : zoneOf e v = .f := if_pos (outside_iff.2 h)

/-- The zone of a value outside the warn limits alone is W. -/
theorem zoneOf_outside (hf : ¬ BeyondFault e v) (hw : OutsideWarn e v) : zoneOf e v = .w := by
  rw [zoneOf, if_neg (mt outside_iff.1 hf), if_pos (outside_iff.2 hw)]

/-- The zone of a value within both pairs of limits is N. -/
theorem zoneOf_within (hf : ¬ BeyondFault e v) (hw : ¬ OutsideWarn e v) : zoneOf e v = .n := by
  rw [zoneOf, if_neg (mt outside_iff.1 hf), if_neg (mt outside_iff.1 hw)]

/-- Zone F is the values beyond a fault limit. -/
theorem zoneOf_eq_f_iff : zoneOf e v = .f ↔ BeyondFault e v := by
  refine ⟨fun h => ?_, zoneOf_beyond⟩
  by_contra hf
  by_cases hw : OutsideWarn e v
  · rw [zoneOf_outside hf hw] at h; cases h
  · rw [zoneOf_within hf hw] at h; cases h

/-- Zone N is the values within both pairs of limits. -/
theorem zoneOf_eq_n_iff : zoneOf e v = .n ↔ ¬ BeyondFault e v ∧ ¬ OutsideWarn e v := by
  refine ⟨fun h => ⟨fun hf => ?_, fun hw => ?_⟩, fun h => zoneOf_within h.1 h.2⟩
  · rw [zoneOf_beyond hf] at h; cases h
  · by_cases hf : BeyondFault e v
    · rw [zoneOf_beyond hf] at h; cases h
    · rw [zoneOf_outside hf hw] at h; cases h

theorem settledWarn_iff :
    settledWarn e v = true ↔ (¬ BeyondFault e v ∧ ¬ OutsideWarn e v) ∧ InsideWarn e v := by
  rw [settledWarn, Bool.and_eq_true, decide_eq_true_iff, zoneOf_eq_n_iff, insideNarrowed_iff]

theorem settledFault_iff : settledFault e v = true ↔ ¬ BeyondFault e v ∧ InsideFault e v := by
  rw [settledFault, Bool.and_eq_true, decide_eq_true_iff, insideNarrowed_iff, ne_eq, zoneOf_eq_f_iff]


/-! ## One sample at one channel, by limit state and zone (R21 to R24) -/

variable {c : LimitChan}

theorem judgeChan_normal_beyond (hs : c.state = .normal) (h : BeyondFault e v) :
    judgeChan e c v = if e.deglitch ≤ c.faultRun + 1 then c.enter .fault
      else c.runs 0 (c.faultRun + 1) c.returnRun := by
  simp only [judgeChan, hs, zoneOf_beyond h]

theorem judgeChan_normal_outside (hs : c.state = .normal) (hf : ¬ BeyondFault e v) (hw : OutsideWarn e v) :
    judgeChan e c v = if e.deglitch ≤ c.warnRun + 1 then c.enter .warning
      else c.runs (c.warnRun + 1) 0 c.returnRun := by
  simp only [judgeChan, hs, zoneOf_outside hf hw]

theorem judgeChan_normal_within (hs : c.state = .normal) (hf : ¬ BeyondFault e v) (hw : ¬ OutsideWarn e v) :
    judgeChan e c v = c.runs 0 0 c.returnRun := by
  simp only [judgeChan, hs, zoneOf_within hf hw]

theorem judgeChan_warning_beyond (hs : c.state = .warning) (h : BeyondFault e v) :
    judgeChan e c v = if e.deglitch ≤ c.faultRun + 1 then c.enter .fault
      else c.runs c.warnRun (c.faultRun + 1) 0 := by
  simp only [judgeChan, hs, if_pos (zoneOf_beyond h)]

theorem judgeChan_warning_settled (hs : c.state = .warning) (hf : ¬ BeyondFault e v) (hw : ¬ OutsideWarn e v)
    (hi : InsideWarn e v) :
    judgeChan e c v = if e.deglitch ≤ c.returnRun + 1 then c.enter .normal
      else c.runs c.warnRun 0 (c.returnRun + 1) := by
  simp only [judgeChan, hs, if_neg (mt zoneOf_eq_f_iff.1 hf), if_pos (settledWarn_iff.2 ⟨⟨hf, hw⟩, hi⟩)]

theorem judgeChan_warning_unsettled (hs : c.state = .warning) (hf : ¬ BeyondFault e v)
    (h : OutsideWarn e v ∨ ¬ InsideWarn e v) :
    judgeChan e c v = c.runs c.warnRun 0 0 := by
  have hn : ¬ settledWarn e v = true := fun hset => by
    obtain ⟨⟨-, hw⟩, hi⟩ := settledWarn_iff.1 hset
    exact h.elim hw fun hni => hni hi
  simp only [judgeChan, hs, if_neg (mt zoneOf_eq_f_iff.1 hf), if_neg hn]

theorem judgeChan_fault_settled (hs : c.state = .fault) (hf : ¬ BeyondFault e v) (hi : InsideFault e v) :
    judgeChan e c v = if e.deglitch ≤ c.returnRun + 1 then c.enter .held
      else c.runs c.warnRun c.faultRun (c.returnRun + 1) := by
  simp only [judgeChan, hs, if_pos (settledFault_iff.2 ⟨hf, hi⟩)]

theorem judgeChan_fault_unsettled (hs : c.state = .fault) (h : BeyondFault e v ∨ ¬ InsideFault e v) :
    judgeChan e c v = c.runs c.warnRun c.faultRun 0 := by
  have hn : ¬ settledFault e v = true := fun hset => by
    obtain ⟨hf, hi⟩ := settledFault_iff.1 hset
    exact h.elim hf fun hni => hni hi
  simp only [judgeChan, hs, if_neg hn]

theorem judgeChan_held_beyond (hs : c.state = .held) (h : BeyondFault e v) :
    judgeChan e c v = if e.deglitch ≤ c.faultRun + 1 then c.enter .fault
      else c.runs c.warnRun (c.faultRun + 1) c.returnRun := by
  simp only [judgeChan, hs, if_pos (zoneOf_beyond h)]

theorem judgeChan_held_within (hs : c.state = .held) (h : ¬ BeyondFault e v) :
    judgeChan e c v = c.runs c.warnRun 0 c.returnRun := by
  simp only [judgeChan, hs, if_neg (mt zoneOf_eq_f_iff.1 h)]

/-- A channel that carries its action: in FAULT or in HELD (R27). -/
abbrev LimitChan.Tripped (c : LimitChan) : Prop := c.state = .fault ∨ c.state = .held

/-- A sample leaves a channel in FAULT or HELD in one of the two (R23, R24). -/
theorem judgeChan_tripped (h : c.Tripped) : (judgeChan e c v).Tripped := by
  obtain hs | hs := h
  · by_cases hi : ¬ BeyondFault e v ∧ InsideFault e v
    · rw [judgeChan_fault_settled hs hi.1 hi.2]
      split
      · exact .inr rfl
      · exact .inl hs
    · rw [judgeChan_fault_unsettled hs (not_and_or.1 hi |>.imp_left not_not.1)]
      exact .inl hs
  · by_cases hf : BeyondFault e v
    · rw [judgeChan_held_beyond hs hf]
      split
      · exact .inl rfl
      · exact .inr hs
    · rw [judgeChan_held_within hs hf]
      exact .inr hs

/-! ## What LMT's operations leave of LMT (R27) -/

variable {s : State}

/-- A fold of operations that leave LMT alone leaves it alone. -/
theorem foldl_lmt {α : Type} {f : State → α → State} (h : ∀ s a, (f s a).lmt = s.lmt) (as : List α) (s : State) :
    (as.foldl f s).lmt = s.lmt := by
  induction as generalizing s with
  | nil => rfl
  | cons a as ih => exact (ih _).trans (h s a)

@[simp] theorem decideLow_lmt : (decideLow s).lmt = s.lmt := by
  unfold decideLow; repeat' split
  all_goals simp

@[simp] theorem decideCritical_lmt : (decideCritical s).lmt = s.lmt := by
  unfold decideCritical; repeat' split
  all_goals simp

@[simp] theorem decideBattery_lmt : (decideBattery s).lmt = s.lmt := by simp [decideBattery]

@[simp] theorem refreshSoc_lmt : (refreshSoc s).lmt = s.lmt := by simp [refreshSoc]

@[simp] theorem repath_lmt : (repath s).lmt = s.lmt := by simp [repath]

@[simp] theorem joinEffect_lmt (a : Action) : (joinEffect a s).lmt = s.lmt := by cases a <;> rfl

@[simp] theorem leaveEffect_lmt (a : Action) : (leaveEffect a s).lmt = s.lmt := by cases a <;> rfl

@[simp] theorem handAction_lmt (old new : List Action) (a : Action) : (handAction old new s a).lmt = s.lmt := by
  unfold handAction; repeat' split
  all_goals simp

/-- A recomputation sets the action set to the carried actions and leaves the rest of LMT (R27). -/
@[simp] theorem recomputeActions_lmt :
    (recomputeActions s).lmt = { s.lmt with actionSet := s.lmt.carried } :=
  foldl_lmt (fun _ _ => handAction_lmt _ _ _) _ _

/-- An action that neither joins nor leaves is not handed on. -/
theorem handAction_same (acts : List Action) (a : Action) : handAction acts acts s a = s := by
  simp [handAction]

/-- A recomputation that finds the action set as it should be changes nothing (R27). -/
theorem recomputeActions_of_carried (h : s.lmt.actionSet = s.lmt.carried) : recomputeActions s = s := by
  have hs : ∀ acts : List Action, acts.foldl (handAction s.lmt.carried s.lmt.carried) s = s := by
    intro acts
    induction acts with
    | nil => rfl
    | cons a acts ih => rwa [List.foldl_cons, handAction_same]
  simp only [recomputeActions, h]
  rw [← h]; rw [← h] at hs; exact hs _

/-- LMT after an entry to FAULT: the channel with its new trip record, and the action set recomputed (R26, R27). -/
theorem enterFault_lmt (ch : Fin 16) (c : LimitChan) (v : Int) :
    (enterFault ch c v s).lmt =
      { s.lmt.setChan ch (c.trip v s.tmb.ms) with
        actionSet := (s.lmt.setChan ch (c.trip v s.tmb.ms)).carried } := by
  simp only [enterFault]
  split <;> split <;> simp


/-! ## A sample at an enabled channel (R20, R25) -/

section

variable {ch : Fin 16} {w : Sweep} {d : LimitChan}

/-- A sample that leaves the limit state writes the channel alone. -/
theorem judgeSample_keeps (he : (s.lmt.entries.get ch).enable = true)
    (hd : judgeChan (s.lmt.entries.get ch) (s.lmt.chans.get ch) v = d) (hs : d.state = (s.lmt.chans.get ch).state) :
    judgeSample ch v s = withChan ch d s := by
  simp only [judgeSample, he, hd, hs, if_true]; rfl

/-- A sample on which the channel enters FAULT. -/
theorem judgeSample_fault (he : (s.lmt.entries.get ch).enable = true) (hs : (s.lmt.chans.get ch).state ≠ .fault)
    (hd : judgeChan (s.lmt.entries.get ch) (s.lmt.chans.get ch) v = (s.lmt.chans.get ch).enter .fault) :
    judgeSample ch v s = enterFault ch ((s.lmt.chans.get ch).enter .fault) v s := by
  simp only [judgeSample, he, hd, if_true]
  exact if_neg hs.symm

/-- A sample on which the channel enters WARNING. -/
theorem judgeSample_warning (he : (s.lmt.entries.get ch).enable = true) (hs : (s.lmt.chans.get ch).state ≠ .warning)
    (hd : judgeChan (s.lmt.entries.get ch) (s.lmt.chans.get ch) v = (s.lmt.chans.get ch).enter .warning) :
    judgeSample ch v s =
      if (s.lmt.entries.get ch).reportWarning
      then route .limitWarning ch.val v (withChan ch ((s.lmt.chans.get ch).enter .warning) s)
      else withChan ch ((s.lmt.chans.get ch).enter .warning) s := by
  simp only [judgeSample, he, hd, if_true]
  exact if_neg hs.symm

/-- A sample on which the channel enters HELD. -/
theorem judgeSample_held (he : (s.lmt.entries.get ch).enable = true) (hs : (s.lmt.chans.get ch).state ≠ .held)
    (hd : judgeChan (s.lmt.entries.get ch) (s.lmt.chans.get ch) v = (s.lmt.chans.get ch).enter .held) :
    judgeSample ch v s = route .limitHeld ch.val 0 (withChan ch ((s.lmt.chans.get ch).enter .held) s) := by
  simp only [judgeSample, he, hd, if_true]
  exact if_neg hs.symm

/-- A sample on which the channel returns to NORMAL: no event (R22). -/
theorem judgeSample_normal (he : (s.lmt.entries.get ch).enable = true) (hs : (s.lmt.chans.get ch).state ≠ .normal)
    (hd : judgeChan (s.lmt.entries.get ch) (s.lmt.chans.get ch) v = (s.lmt.chans.get ch).enter .normal) :
    judgeSample ch v s = withChan ch ((s.lmt.chans.get ch).enter .normal) s := by
  simp only [judgeSample, he, hd, if_true]
  exact if_neg hs.symm

end


/-! ## What a conversion in its turn makes of an enabled channel -/

section

variable {ch : Fin 16} {w : Sweep} {d : LimitChan}

/-- A conversion that leaves the limit state stores the sample and writes the channel. -/
theorem exec_conversion_keeps (hw : s.sws.sweep = some w) (ht : InTurn w ch)
    (he : (s.lmt.entries.get ch).enable = true)
    (hd : judgeChan (s.lmt.entries.get ch) (s.lmt.chans.get ch) (clamped ch v) = d)
    (hs : d.state = (s.lmt.chans.get ch).state) :
    exec (.conversionComplete ch v) s = .next (withChan ch d (stored ch v w s)) :=
  (exec_conversion_inTurn v hw ht).trans (congrArg _ (judgeSample_keeps (s := stored ch v w s) he hd hs))

/-- A conversion on which the channel enters FAULT. -/
theorem exec_conversion_fault (hw : s.sws.sweep = some w) (ht : InTurn w ch)
    (he : (s.lmt.entries.get ch).enable = true) (hs : (s.lmt.chans.get ch).state ≠ .fault)
    (hd : judgeChan (s.lmt.entries.get ch) (s.lmt.chans.get ch) (clamped ch v) = (s.lmt.chans.get ch).enter .fault) :
    exec (.conversionComplete ch v) s =
      .next (enterFault ch ((s.lmt.chans.get ch).enter .fault) (clamped ch v) (stored ch v w s)) :=
  (exec_conversion_inTurn v hw ht).trans (congrArg _ (judgeSample_fault (s := stored ch v w s) he hs hd))

/-- The channel after its entry to FAULT: the runs at 0 and a new trip record (R20, R26). -/
theorem enterFault_chan : (enterFault ch d v s).lmt.chans.get ch = d.trip v s.tmb.ms := by
  simp [enterFault_lmt, Lmt.setChan]

/-- A beyond-limit sample that completes the fault run takes a channel in NORMAL, WARNING or HELD to FAULT. -/
theorem judgeChan_enters_fault (hs : c.state ≠ .fault) (hf : BeyondFault e v) (hn : e.deglitch ≤ c.faultRun + 1) :
    judgeChan e c v = c.enter .fault := by
  cases hc : c.state with
  | normal => rw [judgeChan_normal_beyond hc hf, if_pos hn]
  | warning => rw [judgeChan_warning_beyond hc hf, if_pos hn]
  | fault => exact absurd hc hs
  | held => rw [judgeChan_held_beyond hc hf, if_pos hn]

end

/-- Settles O11: one equation of `judgeChan` for each limit state and zone, and what `judgeSample` makes of its result. -/
theorem normalAndWarningChannelsTakeSamples : Obligations.NormalAndWarningChannelsTakeSamples := by
  intro ch v s w hw ht he e c x u run
  have keeps {d : LimitChan} (hd : judgeChan e c x = d) (hs : d.state = c.state) : run d :=
    exec_conversion_keeps hw ht he hd hs
  have taken : exec (.conversionComplete ch v) s = .next (judgeSample ch x u) := exec_conversion_inTurn v hw ht
  refine ⟨fun hs hf hn => ?_, fun hs => ⟨fun hf hn => ?_, fun hf ho hn => ?_, fun hf ho hn => ?_, fun hf ho => ?_⟩,
    fun hs => ⟨fun a => ?_, fun hf hn => ?_, fun hf ho => ?_, fun hf ho hi hn => ?_, fun hf ho hi hn => ?_⟩⟩
  · have hne : c.state ≠ .fault := by obtain h | h := hs <;> rw [h] <;> decide
    refine ⟨_, exec_conversion_fault hw ht he hne (judgeChan_enters_fault hne hf hn), ?_⟩
    rw [enterFault_chan]
    exact ⟨rfl, rfl, rfl, rfl⟩
  · exact keeps ((judgeChan_normal_beyond hs hf).trans (if_neg hn.not_ge)) rfl
  · exact keeps ((judgeChan_normal_outside hs hf ho).trans (if_neg hn.not_ge)) rfl
  · exact taken.trans (congrArg _ (judgeSample_warning (s := u) he (hs.trans_ne (by decide))
      ((judgeChan_normal_outside hs hf ho).trans (if_pos hn))))
  · exact keeps (judgeChan_normal_within hs hf ho) rfl
  · have hcs : (s.lmt.chans.get ch).state = .warning := hs
    simp [Lmt.carries, hcs]
  · exact keeps ((judgeChan_warning_beyond hs hf).trans (if_neg hn.not_ge)) rfl
  · exact keeps (judgeChan_warning_unsettled hs hf ho) rfl
  · exact keeps ((judgeChan_warning_settled hs hf ho hi).trans (if_neg hn.not_ge)) rfl
  · exact taken.trans (congrArg _ (judgeSample_normal (s := u) he (hs.trans_ne (by decide))
      ((judgeChan_warning_settled hs hf ho hi).trans (if_pos hn))))

end Sys2Proof.Machine

namespace Sys2Proof.Machine

variable {s : State}

/-! ## Events in OFF (R154, R168, R170) -/

theorem sat255_eq_min (n : Nat) : sat255 n = min 255 (n + 1) := by
  unfold sat255; split <;> omega

@[simp] theorem Evr.placeNormal_tally (e : Evr) (r : NormalRecord) : (e.placeNormal r).tally = e.tally := by
  unfold Evr.placeNormal
  cases e.normalState
  · exact apply_ite Evr.tally _ _ _ |>.trans (ite_self _)
  · rfl

/-- An event taken is tallied once, whatever its class (R172). -/
theorem Evr.take_tally (e : Evr) (c : EventCode) (n : Nat) (v : Int) (a : Bool) (now : Stamp) :
    (e.take c n v a now).tally = e.tally.set c.idx (sat255 (e.tally.get c.idx)) := by
  unfold Evr.take Evr.place
  cases (e.policyOf c).cls <;> simp [Evr.addTally]

@[simp] theorem placeKeys_tally (rs : List KeyRecord) (e : Evr) : (placeKeys rs e).tally = e.tally := by
  induction rs generalizing e with
  | nil => rfl
  | cons r rs ih => exact (ih _).trans (Evr.placeNormal_tally e _)

theorem mem_allCodes (c : EventCode) : c ∈ allCodes := by cases c <;> decide

/-- Under a legal policy an event that may not carry START does not carry it (R170). -/
theorem PolicyLegal.policyOf_start {e : Evr} (h : PolicyLegal e) {c : EventCode} (hc : c.mayStart = false) :
    (e.policyOf c).start = false := by
  unfold Evr.policyOf
  split
  · rfl
  · exact Bool.eq_false_iff.2 fun hs => Bool.false_ne_true (hc.symm.trans (h c (mem_allCodes c) hs))

/-- In OFF an event without START is tallied and placed, and nothing moves (R154). -/
theorem route_in_off {c : EventCode} (n : Nat) (v : Int) (hs : s.ssc.state = .off)
    (hc : (s.evr.policyOf c).start = false) : route c n v s = record c n v false s := by
  simp [route, sscActs, hs, hc]

/-! ## Entry to OFF (R152, R153, R160, R165) -/

theorem setMode_ssc (m : PartMode) : (setMode m s).ssc = { s.ssc with mode := m } := by
  unfold setMode
  split
  · next h => rw [h]
  · cases m <;> rfl

/-- The part mode after a move into OFF: QUIET where the adapter is absent (R165). -/
theorem moveMode_off_ssc (old : SysState) :
    (moveMode old .off s).ssc = { s.ssc with mode := if s.ppc.adapter.present then s.ssc.mode else .quiet } := by
  simp only [moveMode, if_true]
  split
  · rfl
  · exact setMode_ssc .quiet

/-- A forcing outside OFF records FORCED_OFF and STATE_CHANGE in OFF and hands the move on; neither event can start
the system again (R160, R170). -/
theorem forceOff_eq (cause : ForceCause) (hs : s.ssc.state ≠ .off) (hp : PolicyLegal s.evr) :
    forceOff cause s =
      moveMode s.ssc.state .off (offEntry (stopKeys
        (record .stateChange 0 0 false (record .forcedOff 0 cause.num false (driveState .off s))))) := by
  have hf : route .forcedOff 0 cause.num (driveState .off s) =
      record .forcedOff 0 cause.num false (driveState .off s) :=
    route_in_off _ _ rfl (hp.policyOf_start rfl)
  have hp' : PolicyLegal (record .forcedOff 0 cause.num false (driveState .off s)).evr := by
    simpa only [PolicyLegal, record, driveState_evr, Evr.take_policy] using hp
  simp only [forceOff, if_neg hs, moveState, hf, handMove, if_true]
  rw [route_in_off 0 _ rfl (hp'.policyOf_start rfl)]
  rfl

/-- One occurrence recorded is tallied once (R172). -/
theorem record_tally (c : EventCode) (n : Nat) (v : Int) (a : Bool) :
    (record c n v a s).evr.tally = s.evr.tally.set c.idx (sat255 (s.evr.tally.get c.idx)) := Evr.take_tally _ _ _ _ _ _

/-- The tallies after a forcing outside OFF: one FORCED_OFF and one STATE_CHANGE more. -/
theorem forceOff_tally (cause : ForceCause) (hs : s.ssc.state ≠ .off) (hp : PolicyLegal s.evr) :
    (forceOff cause s).evr.tally =
      (s.evr.tally.set EventCode.forcedOff.idx (sat255 (s.evr.tally.get EventCode.forcedOff.idx))).set
        EventCode.stateChange.idx (sat255 (s.evr.tally.get EventCode.stateChange.idx)) := by
  rw [forceOff_eq cause hs hp, moveMode_evr, offEntry_evr, stopKeys, placeKeys_tally, record_tally, record_tally,
    driveState_evr, Table.get_set_ne _ _ (show EventCode.stateChange.idx ≠ EventCode.forcedOff.idx by decide)]

/-- A forcing outside OFF enters OFF and tallies FORCED_OFF (R152, R153, R160). -/
theorem forceOff_enters (cause : ForceCause) (hs : s.ssc.state ≠ .off) (hp : PolicyLegal s.evr) :
    OffEntered s (forceOff cause s) ∧ Tallied .forcedOff s (forceOff cause s) := by
  have stateChange : Tallied .stateChange s (forceOff cause s) := by
    rw [Tallied, forceOff_tally cause hs hp, Table.get_set_self, sat255_eq_min]
  have forcedOff : Tallied .forcedOff s (forceOff cause s) := by
    rw [Tallied, forceOff_tally cause hs hp, Table.get_set_ne _ _ (by decide), Table.get_set_self, sat255_eq_min]
  refine ⟨?_, forcedOff⟩
  rw [forceOff_eq cause hs hp] at stateChange ⊢
  refine ⟨?_, ?_, ?_, ?_, ?_, ?_, ?_, ?_, ?_, stateChange⟩
  · rw [moveMode_off_ssc, offEntry_ppc, stopKeys_ppc, record_ppc, record_ppc, driveState_ppc]
    rfl
  · rw [moveMode_kms, offEntry_kms, stopKeys, record_kms, record_kms, driveState_kms]
  · rw [moveMode_slc, offEntry, stopKeys_slc, record_slc, record_slc, driveState_slc]
  all_goals simp

/-! ## A channel that enters FAULT again from HELD (R24, R27, R31) -/

/-- The channels that carry an action (R27). -/
theorem Lmt.carries_iff {l : Lmt} {a : Action} {ch : Fin 16} :
    l.carries a ch = true ↔ (l.chans.get ch).Tripped ∧ (l.entries.get ch).action = a := by
  simp [Lmt.carries]

/-- A channel that stays in FAULT or HELD goes on carrying the action of its entry. -/
theorem Lmt.carried_setChan {l : Lmt} {ch : Fin 16} {c : LimitChan} (hl : (l.chans.get ch).Tripped) (hc : c.Tripped) :
    (l.setChan ch c).carried = l.carried := by
  have same (a : Action) (i : Fin 16) : (l.setChan ch c).carries a i = l.carries a i := by
    rw [Bool.eq_iff_iff, Lmt.carries_iff, Lmt.carries_iff, Lmt.setChan, Table.get_set]
    refine and_congr_left fun _ => ?_
    split
    · next h => exact iff_of_true hc (h ▸ hl)
    · rfl
  simp only [Lmt.carried, funext (same _)]

/-- What an entry to FAULT does before SYSTEM_OFF is asserted, where the action set stays as it is: the channel with its
trip record, and LIMIT_FAULT where the entry reports it (R25, R26). -/
def reported (ch : Fin 16) (d : LimitChan) (v : Int) (s : State) : State :=
  if (s.lmt.entries.get ch).reportFault then route .limitFault ch.val v (withChan ch d s) else withChan ch d s

theorem reported_lmt (ch : Fin 16) (d : LimitChan) (v : Int) :
    (reported ch d v s).lmt = s.lmt.setChan ch d := by
  unfold reported; split
  · exact route_lmt _ _ _ _
  · rfl

theorem reported_policy (ch : Fin 16) (d : LimitChan) (v : Int) :
    (reported ch d v s).evr.policy = s.evr.policy := by
  unfold reported; split
  · exact route_evr_policy _ _ _ _
  · rfl

/-- With the action set as R27 has it, an entry to FAULT from HELD hands no action on: after the report there is only the
assertion of SYSTEM_OFF (R24, R31). -/
theorem enterFault_of_held {ch : Fin 16} {c : LimitChan} (v : Int) (hl : s.lmt.actionSet = s.lmt.carried)
    (hs : (s.lmt.chans.get ch).Tripped) (hc : c.Tripped) :
    enterFault ch c v s =
      if (s.lmt.entries.get ch).action = .systemOff
      then forceOff .fault (reported ch (c.trip v s.tmb.ms) v s)
      else reported ch (c.trip v s.tmb.ms) v s := by
  have hr : recomputeActions (reported ch (c.trip v s.tmb.ms) v s) = reported ch (c.trip v s.tmb.ms) v s := by
    have hct : (c.trip v s.tmb.ms).Tripped := hc
    refine recomputeActions_of_carried ?_
    rw [reported_lmt, Lmt.carried_setChan hs hct]
    exact hl
  conv_rhs => rw [← hr]
  rfl

end Sys2Proof.Machine

namespace Sys2Proof.Machine

variable {s : State} {p : Pack}

/-! ## What the blocks' operations leave of LMT

LMT is written by samples, by LOAD_LIMIT, CLEAR_FAULTS and RESTORE_DEFAULTS, and by a reset; everything else leaves it
as it is. -/

/-! Paths and the bay (R51 to R57, R79) -/

@[simp] theorem enterReleasing_lmt : (enterReleasing s).lmt = s.lmt := by simp [enterReleasing]

@[simp] theorem bayLatched_lmt : (bayLatched s).lmt = s.lmt := by simp [bayLatched]

@[simp] theorem bayReturn_lmt : (bayReturn s).lmt = s.lmt := by
  unfold bayReturn; split <;> simp

@[simp] theorem bayLatchReported_lmt (o : Bool) : (bayLatchReported o s).lmt = s.lmt := by
  unfold bayLatchReported; split <;> [(split <;> simp); simp]

@[simp] theorem bayQuiet_lmt : (bayQuiet s).lmt = s.lmt := by
  unfold bayQuiet; split <;> simp

@[simp] theorem bayRefuse_lmt : (bayRefuse s).lmt = s.lmt := by
  simp only [bayRefuse]; split <;> simp

@[simp] theorem examineBay_lmt : (examineBay s).lmt = s.lmt := by
  unfold examineBay; repeat' split
  all_goals simp

@[simp] theorem adapterChanged_lmt : (adapterChanged s).lmt = s.lmt := by
  simp only [adapterChanged, decideBattery_lmt]; repeat' split
  all_goals simp

/-! Charge (R65 to R77) -/

@[simp] theorem setPhase_lmt (ph : Phase) : (setPhase p ph s).lmt = s.lmt := by
  unfold setPhase; split <;> simp

@[simp] theorem stepBand_lmt : (stepBand p s).lmt = s.lmt := by
  simp only [stepBand]; split <;> simp

@[simp] theorem decidePhase_lmt (lim : Band) (x : Option StepView) : (decidePhase p lim x s).lmt = s.lmt := by
  simp only [decidePhase]; repeat' split
  all_goals simp

@[simp] theorem handFigures_lmt (lim : Band) (prof : Profile) : (handFigures p lim prof s).lmt = s.lmt := by
  simp only [handFigures]; split <;> simp

@[simp] theorem phaseStep_lmt : (phaseStep p s).lmt = s.lmt := by simp [phaseStep]

@[simp] theorem fireTimeout_lmt : (fireTimeout p s).lmt = s.lmt := by
  simp only [fireTimeout]; split <;> simp

@[simp] theorem chargeRemoval_lmt : (chargeRemoval p s).lmt = s.lmt := by simp [chargeRemoval]

/-! A sweep completion (R79 to R97, R178) -/

@[simp] theorem examineVad_lmt : (examineVad s).lmt = s.lmt := by
  simp only [examineVad]; repeat' split
  all_goals simp [attachAdapter, detachAdapter]

@[simp] theorem examineAid_lmt : (examineAid s).lmt = s.lmt := by
  simp only [examineAid]; split <;> simp

@[simp] theorem throttleStage_lmt (u : Nat) : (throttleStage u s).lmt = s.lmt := by
  simp only [throttleStage, redriveLtr_lmt]; repeat' split
  all_goals simp

@[simp] theorem allocationPass_lmt (w : Sweep) : (allocationPass w s).lmt = s.lmt := by simp [allocationPass]

@[simp] theorem endOfPass_lmt : (endOfPass s).lmt = s.lmt := by
  unfold endOfPass; split <;> simp

@[simp] theorem completeAtPpc_lmt (w : Sweep) : (completeAtPpc w s).lmt = s.lmt := by simp [completeAtPpc]

/-! Fans (R139 to R147) -/

@[simp] theorem fanEdge_lmt (f : Fan) (i : Option Nat) : (fanEdge f i s).lmt = s.lmt := by
  simp only [fanEdge]; split <;> simp

@[simp] theorem evaluateFan_lmt (f : Fan) : (evaluateFan f s).lmt = s.lmt := by simp [evaluateFan]

@[simp] theorem loadConfig_lmt (f : Fan) (c : FanConfig) : (loadConfig f c s).lmt = s.lmt := by
  simp only [loadConfig]; split <;> simp

/-! The keyboard (R101 to R118) -/

@[simp] theorem confirmPress_lmt (k : Fin 144) : (confirmPress k s).lmt = s.lmt := by
  simp only [confirmPress, keyWake, pressRecord]; repeat' split
  all_goals simp

@[simp] theorem pressDebounce_lmt (k : Fin 144) (n : Nat) : (pressDebounce k n s).lmt = s.lmt := by
  simp only [pressDebounce, completePress]; repeat' split
  all_goals simp

@[simp] theorem releaseDebounce_lmt (k : Fin 144) (n : Nat) : (releaseDebounce k n s).lmt = s.lmt := by
  simp only [releaseDebounce, completeRelease]; repeat' split
  all_goals simp

@[simp] theorem setKeyState_lmt (k : Fin 144) (x : KeyState) : (setKeyState k x s).lmt = s.lmt := rfl

@[simp] theorem keyStep_lmt (k : Fin 144) (raw : Bool) : (keyStep k raw s).lmt = s.lmt := by
  unfold keyStep
  dsimp only
  split
  exacts [rfl, pressDebounce_lmt _ _, rfl, pressDebounce_lmt _ _, rfl, releaseDebounce_lmt _ _, rfl,
    releaseDebounce_lmt _ _, rfl, by split <;> rfl, rfl, rfl]

@[simp] theorem scanMatrix_lmt (image : List Bool) : (scanMatrix image s).lmt = s.lmt := by
  simp only [scanMatrix]; split
  · rfl
  · exact foldl_lmt (fun _ _ => keyStep_lmt _ _) _ _

/-! The service link (R182 to R187) -/

@[simp] theorem framingError_lmt (k : Nat) : (framingError k s).lmt = s.lmt := by simp [framingError, linkError]

@[simp] theorem bufferRequest_lmt (r : Request) : (bufferRequest r s).lmt = s.lmt := by
  unfold bufferRequest; split <;> simp [linkError]

@[simp] theorem serviceByte_lmt (b : Byte) : (serviceByte s b).lmt = s.lmt := by
  simp only [serviceByte, serviceEvent]; repeat' split
  all_goals simp [linkError]

@[simp] theorem receiveService_lmt (bs : List Byte) : (receiveService bs s).lmt = s.lmt :=
  foldl_lmt (fun _ _ => serviceByte_lmt _) _ _

@[simp] theorem startTransmit_lmt : (startTransmit s).lmt = s.lmt := by
  unfold startTransmit; repeat' split
  all_goals simp

@[simp] theorem endTransmit_lmt : (endTransmit s).lmt = s.lmt := by
  unfold endTransmit; repeat' split
  all_goals simp

@[simp] theorem answerWith_lmt (tag : Nat) (a : Answer) : (answerWith tag a).lmt = a.state.lmt := rfl

@[simp] theorem answerUnknown_lmt : (answerUnknown s).lmt = s.lmt := by
  unfold answerUnknown; repeat' split
  all_goals simp [refuse]

/-! The pack ports (R36 to R50) -/

@[simp] theorem portChanged_lmt : (portChanged s).lmt = s.lmt := by simp [portChanged]

@[simp] theorem resolveSlot_lmt (c : ResultCode) (d : List Byte) : (resolveSlot p c d s).lmt = s.lmt := by
  simp only [resolveSlot]; repeat' split
  all_goals simp

@[simp] theorem resolveRemoved_lmt : (resolveRemoved p s).lmt = s.lmt := by
  unfold resolveRemoved; split <;> simp

@[simp] theorem removalAtPpc_lmt : (removalAtPpc p s).lmt = s.lmt := by
  cases p
  · simp [removalAtPpc]
  · simp only [removalAtPpc, bayRemoval]; split <;> simp

@[simp] theorem removePack_lmt : (removePack p s).lmt = s.lmt := by simp [removePack]

@[simp] theorem alarmEvent_lmt (old new : Alarms) : (alarmEvent p old new s).lmt = s.lmt := by
  simp only [alarmEvent]; split <;> simp

@[simp] theorem takeTelemetry_lmt (f : Frame) : (takeTelemetry p f s).lmt = s.lmt := by
  simp only [takeTelemetry, portChanged_lmt, placeRelay_lmt, alarmEvent_lmt]; split <;> simp

@[simp] theorem takeReply_lmt (d : List Byte) : (takeReply p d s).lmt = s.lmt := by
  unfold takeReply; split <;> simp

@[simp] theorem packFrame_lmt (f : Frame) : (packFrame p f s).lmt = s.lmt := by
  simp only [packFrame]; repeat' split
  all_goals simp

@[simp] theorem packByte_lmt (b : Byte) : (packByte p s b).lmt = s.lmt := by
  simp only [packByte]; repeat' split
  all_goals simp

@[simp] theorem receivePack_lmt (bs : List Byte) : (receivePack p bs s).lmt = s.lmt :=
  foldl_lmt (fun _ _ => packByte_lmt _) _ _

@[simp] theorem lineGap_lmt : (lineGap p s).lmt = s.lmt := by
  simp only [lineGap]; split <;> simp

@[simp] theorem passHead_lmt (r : Request) : (passHead r s).lmt = s.lmt := by
  simp only [passHead]; split <;> simp [refuse]

@[simp] theorem setPending_lmt : (setPending s).lmt = s.lmt := by
  simp only [setPending]; split <;> simp

@[simp] theorem clearPending_lmt : (clearPending s).lmt = s.lmt := by simp [clearPending]

/-! The switch inputs (R103, R104, R126 to R129) -/

@[simp] theorem regate_lmt : (regate s).lmt = s.lmt := by
  simp only [regate, gateExit]; repeat' split
  all_goals simp

@[simp] theorem firstGate_lmt : (firstGate s).lmt = s.lmt := by
  simp only [firstGate, gateLifted]; repeat' split
  all_goals simp

@[simp] theorem firstLatch_lmt : (firstLatch s).lmt = s.lmt := by
  unfold firstLatch; split <;> simp

@[simp] theorem handInitial_lmt (i : SwitchInput) : (handInitial i s).lmt = s.lmt := by
  cases i <;> simp [handInitial]

@[simp] theorem handLidHinge_lmt (i : LidHinge) (x : Bool) : (handLidHinge i x s).lmt = s.lmt := by
  simp [handLidHinge]

/-! The system state (R156, R158) -/

@[simp] theorem goOnline_lmt : (goOnline s).lmt = s.lmt := by simp [goOnline]

@[simp] theorem goHalting_lmt : (goHalting s).lmt = s.lmt := by simp [goHalting]

/-! ## The owners of requests (R184) -/

@[simp] theorem refuse_state (c : ResultCode) : (refuse c s).state = s := rfl
@[simp] theorem accept_state (d : List Byte) : (accept s d).state = s := rfl
@[simp] theorem acceptClamped_state (b : Bool) (d : List Byte) : (acceptClamped b s d).state = s := rfl

/-- An owner of a request that leaves LMT alone, whatever it answers. -/
def OwnerKeepsLmt (owner : List Byte → State → Answer) : Prop := ∀ args s, (owner args s).state.lmt = s.lmt

theorem onlineRequest_lmt : OwnerKeepsLmt onlineRequest := fun args s => by
  unfold onlineRequest; repeat' split
  all_goals simp

theorem sleepRequest_lmt : OwnerKeepsLmt sleepRequest := fun args s => by
  unfold sleepRequest; repeat' split
  all_goals simp

theorem powerOffRequest_lmt : OwnerKeepsLmt powerOffRequest := fun args s => by
  unfold powerOffRequest; repeat' split
  all_goals simp

theorem restartRequest_lmt : OwnerKeepsLmt restartRequest := fun args s => by
  unfold restartRequest; split <;> simp

theorem readChannels_lmt : OwnerKeepsLmt readChannels := fun args s => by
  unfold readChannels; repeat' split
  all_goals simp

theorem readPack_lmt : OwnerKeepsLmt readPack := fun args s => by
  unfold readPack; repeat' split
  all_goals simp

theorem readAllocation_lmt : OwnerKeepsLmt readAllocation := fun args s => by
  unfold readAllocation; split <;> simp

theorem readFaults_lmt : OwnerKeepsLmt readFaults := fun args s => by
  unfold readFaults; repeat' split
  all_goals simp

theorem readKeymap_lmt : OwnerKeepsLmt readKeymap := fun args s => by
  unfold readKeymap; split <;> simp

theorem readTally_lmt : OwnerKeepsLmt readTally := fun args s => by
  unfold readTally; split <;> simp

theorem readFans_lmt : OwnerKeepsLmt readFans := fun args s => by
  unfold readFans; split <;> simp

theorem readStatus_lmt : OwnerKeepsLmt readStatus := fun args s => by
  unfold readStatus; split <;> simp

theorem loadProfile_lmt : OwnerKeepsLmt loadProfile := fun args s => by
  simp only [loadProfile]; repeat' split
  all_goals simp

theorem loadAdapter_lmt : OwnerKeepsLmt loadAdapter := fun args s => by
  unfold loadAdapter; repeat' split
  all_goals simp

theorem loadSchedule_lmt : OwnerKeepsLmt loadSchedule := fun args s => by
  simp only [loadSchedule]; repeat' split
  all_goals simp

theorem loadFanCurve_lmt : OwnerKeepsLmt loadFanCurve := fun args s => by
  simp only [loadFanCurve, loadFanSet, loadFanConfig]; repeat' split
  all_goals simp

theorem loadPolicy_lmt : OwnerKeepsLmt loadPolicy := fun args s => by
  simp only [loadPolicy]; repeat' split
  all_goals simp

theorem loadKeyrow_lmt : OwnerKeepsLmt loadKeyrow := fun args s => by
  unfold loadKeyrow; repeat' split
  all_goals simp

theorem loadPassFilter_lmt : OwnerKeepsLmt loadPassFilter := fun args s => by
  unfold loadPassFilter; repeat' split
  all_goals simp

theorem readWhole_lmt (args data : List Byte) : (readWhole args data s).state.lmt = s.lmt := by
  unfold readWhole; split <;> rfl

theorem readLimits_lmt : OwnerKeepsLmt readLimits := fun args s => by
  unfold readLimits; repeat' split
  all_goals rfl

theorem readProfiles_lmt : OwnerKeepsLmt readProfiles := fun args s => by
  unfold readProfiles; repeat' split
  all_goals rfl

theorem readCurves_lmt : OwnerKeepsLmt readCurves := fun args s => by
  unfold readCurves; repeat' split
  all_goals rfl

theorem readTranslation_lmt : OwnerKeepsLmt readTranslation := fun args s => by
  unfold readTranslation; repeat' split
  all_goals rfl

theorem readTable_lmt : OwnerKeepsLmt readTable := fun args s => by
  unfold readTable
  repeat' split
  exacts [rfl, readWhole_lmt _ _, readLimits_lmt _ _, readProfiles_lmt _ _, readWhole_lmt _ _, readCurves_lmt _ _,
    readWhole_lmt _ _, readTranslation_lmt _ _, readWhole_lmt _ _, rfl]

theorem setInputLimit_lmt : OwnerKeepsLmt setInputLimit := fun args s => by
  simp only [setInputLimit]; repeat' split
  all_goals simp

theorem setEfficiency_lmt : OwnerKeepsLmt setEfficiency := fun args s => by
  simp only [setEfficiency]; split <;> simp

theorem setBoost_lmt : OwnerKeepsLmt setBoost := fun args s => by
  simp only [setBoost]; repeat' split
  all_goals simp

theorem setChargeInhibit_lmt : OwnerKeepsLmt setChargeInhibit := fun args s => by
  simp only [setChargeInhibit]; repeat' split
  all_goals simp

theorem setBatteryThresholds_lmt : OwnerKeepsLmt setBatteryThresholds := fun args s => by
  simp only [setBatteryThresholds]; split <;> simp

theorem setHostTemps_lmt : OwnerKeepsLmt setHostTemps := fun args s => by
  simp only [setHostTemps]; repeat' split
  all_goals simp [foldl_lmt (f := refreshSlot) fun _ _ => rfl]

theorem setFanOverride_lmt : OwnerKeepsLmt setFanOverride := fun args s => by
  simp only [setFanOverride]; repeat' split
  all_goals simp

theorem setKeyDebounce_lmt : OwnerKeepsLmt setKeyDebounce := fun args s => by
  simp only [setKeyDebounce]; split <;> simp

theorem setSwitchDebounce_lmt : OwnerKeepsLmt setSwitchDebounce := fun args s => by
  simp only [setSwitchDebounce]; repeat' split
  all_goals simp

theorem setTelemetry_lmt : OwnerKeepsLmt setTelemetry := fun args s => by
  simp only [setTelemetry]; repeat' split
  all_goals simp

theorem releaseBay_lmt : OwnerKeepsLmt releaseBay := fun args s => by
  unfold releaseBay; repeat' split
  all_goals simp

theorem bayCancel_lmt : OwnerKeepsLmt bayCancel := fun args s => by
  unfold bayCancel; split <;> simp

/-! ## The commands that leave LMT alone -/

/-- A request waits and changes nothing, or its owner answers it in its turn (R184, R185). -/
theorem runRequest_cases (n : Nat) (owner : List Byte → State → Answer) (s : State) :
    runRequest n owner s = s ∨
      ∃ args tag, RequestAtHead s n args tag ∧ runRequest n owner s = answerWith tag (owner args (popRequest s)) := by
  by_cases h : ∃ args tag, RequestAtHead s n args tag
  · obtain ⟨args, tag, h⟩ := h
    exact .inr ⟨args, tag, h, runRequest_at_head h⟩
  · exact .inl (runRequest_waits fun args tag hr => h ⟨args, tag, hr⟩)

/-- An outcome that leaves LMT as it stands in `s`. -/
def KeepsLmt (s : State) (r : Result) : Prop := ∀ t, r = .next t → t.lmt = s.lmt

@[simp] theorem keepsLmt_next {t : State} : KeepsLmt s (.next t) ↔ t.lmt = s.lmt :=
  ⟨fun h => h t rfl, fun h _ ht => by cases ht; exact h⟩

theorem keepsLmt_request {n : Nat} {owner : List Byte → State → Answer} (h : OwnerKeepsLmt owner) :
    KeepsLmt s (.next (runRequest n owner s)) := by
  rw [keepsLmt_next]
  obtain hw | ⟨args, tag, -, ha⟩ := runRequest_cases n owner s
  · rw [hw]
  · rw [ha, answerWith_lmt, h, popRequest_lmt]

/-- A command that acts only where a condition of its own holds, and then leaves LMT alone, keeps LMT. -/
theorem keepsLmt_ite {c : Prop} [Decidable c] {t : State} (h : t.lmt = s.lmt) :
    KeepsLmt s (if c then .next t else .next s) := by
  split <;> simp [h]

theorem execTachEdge_keepsLmt (f : Fan) (us : Nat) : KeepsLmt s (execTachEdge f us s) :=
  keepsLmt_ite (fanEdge_lmt _ _)

theorem execSweepCompletion_keepsLmt : KeepsLmt s (execSweepCompletion s) := by
  unfold execSweepCompletion
  repeat' split
  all_goals simp

theorem execPresenceActive_keepsLmt : KeepsLmt s (execPresenceActive p s) := by
  simp only [execPresenceActive]; repeat' split
  all_goals simp

theorem execPackRemoval_keepsLmt : KeepsLmt s (execPackRemoval p s) := by
  simp only [execPackRemoval]; repeat' split
  all_goals simp

theorem execPackFrameError_keepsLmt (x : LineFault) : KeepsLmt s (execPackFrameError p x s) := by
  cases x <;> simp [execPackFrameError]

theorem execPackRequestTransmit_keepsLmt : KeepsLmt s (execPackRequestTransmit p s) := by
  simp only [execPackRequestTransmit]; repeat' split
  all_goals simp

theorem execPackRequestTransmitted_keepsLmt : KeepsLmt s (execPackRequestTransmitted p s) := by
  simp only [execPackRequestTransmitted]; split <;> simp

theorem execPassReplyQueued_keepsLmt : KeepsLmt s (execPassReplyQueued p s) := by
  simp only [execPassReplyQueued]; repeat' split
  all_goals simp

theorem execLidHinge_keepsLmt (i : LidHinge) : KeepsLmt s (execLidHingeDebounceComplete i s) := by
  simp only [execLidHingeDebounceComplete]; split <;> simp

theorem execPwrbtn_keepsLmt : KeepsLmt s (execPwrbtnDebounceComplete s) := by
  unfold execPwrbtnDebounceComplete; split <;> simp

theorem execBaylatch_keepsLmt : KeepsLmt s (execBaylatchDebounceComplete s) := by
  unfold execBaylatchDebounceComplete; split <;> simp

theorem execRetryKickEnd_keepsLmt (f : Fan) : KeepsLmt s (execRetryKickEnd f s) := by
  simp only [execRetryKickEnd]; repeat' split
  all_goals simp

theorem execTachSilence_keepsLmt (f : Fan) : KeepsLmt s (execTachSilenceTimeout f s) := by
  simp only [execTachSilenceTimeout]; repeat' split
  all_goals simp

theorem execServiceGap_keepsLmt : KeepsLmt s (execServiceGapTimeout s) := by
  unfold execServiceGapTimeout; repeat' split
  all_goals simp

theorem execPass_keepsLmt : KeepsLmt s (execPass s) := by
  unfold execPass; repeat' split
  all_goals simp

/-- The commands that may write LMT: a reset, a sample, and three requests. -/
def writesLmt : Instr → Bool
  | .reset _ _ _ _ | .conversionComplete _ _ | .clearFaults | .loadLimit | .restoreDefaults => true
  | _ => false

/-- Every other command leaves LMT alone. -/
theorem exec_keepsLmt {c : Instr} (hc : writesLmt c = false) : KeepsLmt s (exec c s) := by
  cases c with
  | reset | conversionComplete | clearFaults | loadLimit | restoreDefaults => cases hc
  | tickExpiry raw => exact keepsLmt_next.2 (tickState_lmt s raw)
  | tachEdge f us => exact execTachEdge_keepsLmt f us
  | sweepStart => exact keepsLmt_ite rfl
  | sweepCompletion => exact execSweepCompletion_keepsLmt
  | presenceActive p => exact execPresenceActive_keepsLmt
  | presenceTimerExpiry p => exact keepsLmt_ite (by simp)
  | packRemoval p => exact execPackRemoval_keepsLmt
  | silenceTimerExpiry p => exact keepsLmt_ite (by simp)
  | staleTimerExpiry p => exact keepsLmt_ite (by simp)
  | packTelemetryReceived p bs => exact keepsLmt_next.2 (receivePack_lmt bs)
  | packReplyReceived p bs => exact keepsLmt_next.2 (receivePack_lmt bs)
  | packFrameError p x => exact execPackFrameError_keepsLmt x
  | packRequestTransmit p => exact execPackRequestTransmit_keepsLmt
  | passTimerExpiry p => exact keepsLmt_ite (resolveSlot_lmt _ _)
  | passReplyQueued p => exact execPassReplyQueued_keepsLmt
  | chargeTimeout p => exact keepsLmt_next.2 fireTimeout_lmt
  | scanPass image => exact keepsLmt_ite (scanMatrix_lmt image)
  | initialTake i => exact keepsLmt_ite (handInitial_lmt i)
  | lidHingeDebounceComplete i => exact execLidHinge_keepsLmt i
  | pwrbtnDebounceComplete => exact execPwrbtn_keepsLmt
  | baylatchDebounceComplete => exact execBaylatch_keepsLmt
  | powerButtonHold => exact keepsLmt_ite (route_lmt _ _ _ _)
  | hold10sExpiry => exact keepsLmt_ite (forceOff_lmt _)
  | fanEvaluation => exact keepsLmt_ite (by simp)
  | kickEnd f => exact keepsLmt_ite rfl
  | retryKickEnd f => exact execRetryKickEnd_keepsLmt f
  | tachSilenceTimeout f => exact execTachSilence_keepsLmt f
  | hostTempStale i => exact keepsLmt_ite (route_lmt _ _ _ _)
  | overrideExpiry => exact keepsLmt_ite rfl
  | bootTimeout => exact keepsLmt_ite (moveState_lmt _ _)
  | wakeTimeout => exact keepsLmt_ite (moveState_lmt _ _)
  | haltTimerExpiry => exact keepsLmt_ite (moveState_lmt _ _)
  | criticalGraceExpiry => exact keepsLmt_ite (forceOff_lmt _)
  | telemetryPeriodExpiry => exact keepsLmt_ite rfl
  | serviceFrameReceived bs => exact keepsLmt_next.2 (receiveService_lmt bs)
  | serviceFrameError bs => exact keepsLmt_next.2 (receiveService_lmt bs)
  | serviceGapTimeout => exact execServiceGap_keepsLmt
  | transmitStart => exact keepsLmt_next.2 startTransmit_lmt
  | transmitEnd => exact keepsLmt_next.2 endTransmit_lmt
  | unknownRequest => exact keepsLmt_next.2 answerUnknown_lmt
  | online => exact keepsLmt_request onlineRequest_lmt
  | sleep => exact keepsLmt_request sleepRequest_lmt
  | powerOff => exact keepsLmt_request powerOffRequest_lmt
  | restartLink => exact keepsLmt_request restartRequest_lmt
  | readChannels => exact keepsLmt_request readChannels_lmt
  | readPack => exact keepsLmt_request readPack_lmt
  | readAllocation => exact keepsLmt_request readAllocation_lmt
  | readFaults => exact keepsLmt_request readFaults_lmt
  | readKeymap => exact keepsLmt_request readKeymap_lmt
  | readTally => exact keepsLmt_request readTally_lmt
  | readFans => exact keepsLmt_request readFans_lmt
  | readStatus => exact keepsLmt_request readStatus_lmt
  | loadProfile => exact keepsLmt_request loadProfile_lmt
  | loadAdapter => exact keepsLmt_request loadAdapter_lmt
  | loadSchedule => exact keepsLmt_request loadSchedule_lmt
  | loadFanCurve => exact keepsLmt_request loadFanCurve_lmt
  | loadPolicy => exact keepsLmt_request loadPolicy_lmt
  | loadKeyrow => exact keepsLmt_request loadKeyrow_lmt
  | loadPassFilter => exact keepsLmt_request loadPassFilter_lmt
  | readTable => exact keepsLmt_request readTable_lmt
  | setInputLimit => exact keepsLmt_request setInputLimit_lmt
  | setEfficiency => exact keepsLmt_request setEfficiency_lmt
  | setBoost => exact keepsLmt_request setBoost_lmt
  | setChargeInhibit => exact keepsLmt_request setChargeInhibit_lmt
  | setBatteryThresholds => exact keepsLmt_request setBatteryThresholds_lmt
  | setHostTemps => exact keepsLmt_request setHostTemps_lmt
  | setFanOverride => exact keepsLmt_request setFanOverride_lmt
  | setKeyDebounce => exact keepsLmt_request setKeyDebounce_lmt
  | setSwitchDebounce => exact keepsLmt_request setSwitchDebounce_lmt
  | setTelemetry => exact keepsLmt_request setTelemetry_lmt
  | releaseBay => exact keepsLmt_request releaseBay_lmt
  | bayCancel => exact keepsLmt_request bayCancel_lmt
  | pass => exact execPass_keepsLmt
  | packRequestTransmitted p => exact execPackRequestTransmitted_keepsLmt

end Sys2Proof.Machine

namespace Sys2Proof.Machine

variable {s : State}

/-! ## The commands that write LMT, at the channels in FAULT or HELD (R19, R24, R32, R34, R35) -/

/-- A channel that stays in FAULT or HELD returns nowhere. -/
theorem faultReturn_of_tripped {c : Instr} {t : State} {ch : Fin 16}
    (h : (s.lmt.chans.get ch).Tripped → (t.lmt.chans.get ch).Tripped) : FaultReturn c s t ch := by
  intro hs ht
  obtain h | h := h hs <;> obtain ht | ht := ht <;> rw [h] at ht <;> cases ht

/-- A command that leaves the channels alone returns none of them. -/
theorem faultReturn_of_chans {c : Instr} {t : State} {ch : Fin 16} (h : t.lmt.chans = s.lmt.chans) :
    FaultReturn c s t ch :=
  faultReturn_of_tripped fun hs => h ▸ hs

/-- A sample writes its channel alone, with the limit state that R21 to R24 give it. -/
theorem judgeSample_chans {ch : Fin 16} (v : Int) (he : (s.lmt.entries.get ch).enable = true) :
    ∃ d : LimitChan, d.state = (judgeChan (s.lmt.entries.get ch) (s.lmt.chans.get ch) v).state ∧
      (judgeSample ch v s).lmt.chans = s.lmt.chans.set ch d := by
  generalize hd : judgeChan (s.lmt.entries.get ch) (s.lmt.chans.get ch) v = d
  simp only [judgeSample, he, hd, if_true]
  split
  · exact ⟨d, rfl, rfl⟩
  · cases hs : d.state with
    | normal => exact ⟨d, hs, rfl⟩
    | warning =>
      refine ⟨d, hs, ?_⟩
      dsimp only
      split
      · exact congrArg Lmt.chans (route_lmt _ _ _ _)
      · rfl
    | fault => exact ⟨d.trip v s.tmb.ms, hs, congrArg Lmt.chans (enterFault_lmt ch d v)⟩
    | held => exact ⟨d, hs, congrArg Lmt.chans (route_lmt _ _ _ _)⟩

/-- A sample leaves every channel in FAULT or HELD in one of the two (R23, R24). -/
theorem judgeSample_tripped {ch i : Fin 16} (v : Int) (h : (s.lmt.chans.get i).Tripped) :
    ((judgeSample ch v s).lmt.chans.get i).Tripped := by
  by_cases he : (s.lmt.entries.get ch).enable = true
  · obtain ⟨d, hd, hc⟩ := judgeSample_chans v he
    rw [hc, Table.get_set]
    split
    · next hi =>
      subst hi
      rw [LimitChan.Tripped, hd]
      exact judgeChan_tripped h
    · exact h
  · simpa [judgeSample, he] using h

theorem execConversion_faultReturn (ch i : Fin 16) (v : Int) {t : State}
    (h : exec (.conversionComplete ch v) s = .next t) : FaultReturn (.conversionComplete ch v) s t i := by
  refine faultReturn_of_tripped fun hs => ?_
  change execConversionComplete ch v s = .next t at h
  unfold execConversionComplete at h
  repeat' split at h
  all_goals cases h
  · exact judgeSample_tripped (s := { s with sws := _ }) _ hs
  · exact hs
  · exact hs

/-- A reset that happens was caused by the rail or by RSTIN (R166). -/
theorem startCauseOf_some {rail : Option RailCause} {rstin : Bool} {c : StartCause}
    (h : startCauseOf rail rstin = some c) : rail ≠ none ∨ rstin = true := by
  cases rail with
  | some r => exact .inl (by simp)
  | none => cases rstin <;> simp [startCauseOf] at h ⊢

theorem execReset_faultReturn (rail : Option RailCause) (rstin prsA prsB : Bool) (i : Fin 16) {t : State}
    (h : exec (.reset rail rstin prsA prsB) s = .next t) : FaultReturn (.reset rail rstin prsA prsB) s t i := by
  change execReset rail rstin prsA prsB s = .next t at h
  unfold execReset at h
  split at h <;> cases h
  · next cause hc =>
    have normal : ((State.afterReset cause prsA prsB s.pending).lmt.chans.get i).state = .normal :=
      congrArg LimitChan.state (Table.get_replicate resetChan i)
    exact fun _ _ => ⟨normal, .inr (.inr ⟨rail, rstin, prsA, prsB, rfl, startCauseOf_some hc⟩)⟩
  · exact faultReturn_of_chans rfl

/-! CLEAR_FAULTS (R32) -/

theorem clearChan_lmt (ch : Fin 16) :
    (clearChan ch s).lmt = s.lmt.setChan ch ((s.lmt.chans.get ch).enter .normal) := route_lmt _ _ _ _

/-- What a clear may do to one channel: nothing, or its return from HELD to NORMAL. -/
def Cleared (old new : LimitChan) : Prop := new = old ∨ (old.state = .held ∧ new = old.enter .normal)

theorem foldl_clear_chan (i : Fin 16) (chs : List (Fin 16)) (s : State) :
    Cleared (s.lmt.chans.get i)
      ((chs.foldl (fun t ch => if (t.lmt.chans.get ch).state = .held then clearChan ch t else t) s).lmt.chans.get i) := by
  induction chs generalizing s with
  | nil => exact .inl rfl
  | cons ch chs ih =>
    rw [List.foldl_cons]
    by_cases hh : (s.lmt.chans.get ch).state = .held
    · rw [if_pos hh]
      have step := ih (clearChan ch s)
      rw [clearChan_lmt, Lmt.setChan, Table.get_set] at step
      by_cases hi : i = ch
      · subst hi
        rw [if_pos rfl] at step
        exact .inr ⟨hh, step.resolve_right fun hn => by cases hn.1⟩
      · rwa [if_neg hi] at step
    · rw [if_neg hh]
      exact ih s

/-- CLEAR_FAULTS leaves a channel as it is, or returns it from HELD to NORMAL (R32). -/
theorem clearAll_chan (i : Fin 16) : Cleared (s.lmt.chans.get i) ((clearAll s).lmt.chans.get i) := by
  simp only [clearAll, clearHeld, unlockFans_lmt, clearLatches_lmt, recomputeActions_lmt]
  exact foldl_clear_chan i _ s

theorem execClearFaults_faultReturn (i : Fin 16) {t : State} (h : exec .clearFaults s = .next t) :
    FaultReturn .clearFaults s t i := by
  cases h
  obtain hw | ⟨args, tag, hr, ha⟩ := runRequest_cases 0x09 clearFaults s
  · exact faultReturn_of_chans (by rw [hw])
  · rw [ha]
    unfold clearFaults
    split
    · exact faultReturn_of_chans rfl
    · next hl =>
      obtain rfl : args = [] := List.eq_nil_of_length_eq_zero (not_not.1 hl)
      obtain same | ⟨held, normal⟩ := clearAll_chan (s := popRequest s) i
      · exact faultReturn_of_tripped fun hs => by rw [answerWith_lmt, accept_state, same]; exact hs
      · refine fun _ _ => ⟨?_, .inl ⟨rfl, held, tag, hr⟩⟩
        rw [answerWith_lmt, accept_state, normal]
        rfl

/-! LOAD_LIMIT (R19) -/

/-- A load with enable on leaves every channel as it is. -/
theorem loadLimitEntry_chans_on {ch : Fin 16} {e : LimitEntry} (he : e.enable = true) :
    (loadLimitEntry ch e s).lmt.chans = s.lmt.chans := by
  simp only [loadLimitEntry, he, if_true]
  split <;> simp

/-- A load with enable off puts its channel in NORMAL and leaves the others. -/
theorem loadLimitEntry_lmt_off {ch : Fin 16} {e : LimitEntry} (he : e.enable = false) :
    (loadLimitEntry ch e s).lmt.chans = s.lmt.chans.set ch ((s.lmt.chans.get ch).enter .normal) ∧
      (loadLimitEntry ch e s).lmt.entries = s.lmt.entries.set ch e := by
  simp only [loadLimitEntry, he, Bool.false_eq_true, if_false, recomputeActions_lmt]
  split
  · simp only [clearChan_lmt]; exact ⟨rfl, rfl⟩
  · exact ⟨rfl, rfl⟩

/-- LOAD_LIMIT is refused and changes nothing, or loads the entry of the channel its first argument names. -/
theorem loadLimit_cases (args : List Byte) (s : State) :
    (loadLimit args s).state = s ∨
      ∃ (h : arg1 args 0 < 16) (e : LimitEntry), args.length = 16 ∧
        (loadLimit args s).state = loadLimitEntry ⟨arg1 args 0, h⟩ e s := by
  unfold loadLimit
  split
  · exact .inl rfl
  next hl =>
  split
  · next hc =>
    cases ha : allActions[arg1 args 14]? with
    | none => exact .inl rfl
    | some a =>
      dsimp only
      split
      · exact .inr ⟨hc, _, not_not.1 hl, rfl⟩
      · exact .inl rfl
  · exact .inl rfl

theorem execLoadLimit_faultReturn (i : Fin 16) {t : State} (h : exec .loadLimit s = .next t) :
    FaultReturn .loadLimit s t i := by
  cases h
  obtain hw | ⟨args, tag, hr, ha⟩ := runRequest_cases 0x12 loadLimit s
  · exact faultReturn_of_chans (by rw [hw])
  rw [ha]
  obtain same | ⟨hc, e, hl, he⟩ := loadLimit_cases args (popRequest s)
  · exact faultReturn_of_chans (by rw [answerWith_lmt, same, popRequest_lmt])
  cases hen : e.enable with
  | true => exact faultReturn_of_chans (by rw [answerWith_lmt, he, loadLimitEntry_chans_on hen, popRequest_lmt])
  | false =>
    obtain ⟨chans, entries⟩ := loadLimitEntry_lmt_off (s := popRequest s) (ch := ⟨arg1 args 0, hc⟩) hen
    by_cases hi : i = ⟨arg1 args 0, hc⟩
    · refine fun _ _ => ⟨?_, .inr (.inl ⟨rfl, ⟨args, tag, hr, hl, (congrArg Fin.val hi).symm⟩, ?_⟩)⟩
      · rw [answerWith_lmt, he, chans, hi, Table.get_set_self]; rfl
      · rw [answerWith_lmt, he, entries, hi, Table.get_set_self]; exact hen
    · refine faultReturn_of_tripped fun hs => ?_
      rwa [answerWith_lmt, he, chans, Table.get_set_ne _ _ hi]

/-! RESTORE_DEFAULTS (R34) -/

theorem restoreLimits_chans : (restoreLimits s).lmt.chans = s.lmt.chans := by
  simp only [restoreLimits]
  split <;> simp

theorem restorePolicy_lmt : (restorePolicy s).state.lmt = s.lmt := by
  unfold restorePolicy; split <;> rfl

/-- RESTORE_DEFAULTS leaves every limit channel as it is, whichever table it restores. -/
theorem restoreDefaults_chans (args : List Byte) : (restoreDefaults args s).state.lmt.chans = s.lmt.chans := by
  unfold restoreDefaults
  repeat' split
  exacts [rfl, rfl, rfl, rfl, restoreLimits_chans, rfl, rfl, rfl, congrArg Lmt.chans restorePolicy_lmt, rfl, rfl]

theorem execRestoreDefaults_faultReturn (i : Fin 16) {t : State} (h : exec .restoreDefaults s = .next t) :
    FaultReturn .restoreDefaults s t i := by
  cases h
  refine faultReturn_of_chans ?_
  obtain hw | ⟨args, tag, -, ha⟩ := runRequest_cases 0x19 restoreDefaults s
  · rw [hw]
  · rw [ha, answerWith_lmt, restoreDefaults_chans, popRequest_lmt]

/-- The last sentence of R24: which commands return a channel in FAULT or HELD to NORMAL. -/
theorem exec_faultReturn (c : Instr) (s t : State) (ch : Fin 16) (h : exec c s = .next t) : FaultReturn c s t ch := by
  cases hc : writesLmt c with
  | false => exact faultReturn_of_chans (congrArg Lmt.chans (exec_keepsLmt hc t h))
  | true =>
    cases c with
    | reset rail rstin prsA prsB => exact execReset_faultReturn rail rstin prsA prsB ch h
    | conversionComplete i v => exact execConversion_faultReturn i ch v h
    | clearFaults => exact execClearFaults_faultReturn ch h
    | loadLimit => exact execLoadLimit_faultReturn ch h
    | restoreDefaults => exact execRestoreDefaults_faultReturn ch h
    | _ => cases hc

end Sys2Proof.Machine

namespace Sys2Proof.Machine

variable {s : State} {ch : Fin 16} {w : Sweep} {v : Int}

/-- A conversion on which a channel in HELD enters FAULT again, with the action set as R27 has it: the report, and the
assertion of SYSTEM_OFF where the entry carries it (R24). -/
theorem exec_conversion_relapse (hw : s.sws.sweep = some w) (ht : InTurn w ch)
    (he : (s.lmt.entries.get ch).enable = true) (hs : (s.lmt.chans.get ch).state = .held)
    (hl : s.lmt.actionSet = s.lmt.carried)
    (hd : judgeChan (s.lmt.entries.get ch) (s.lmt.chans.get ch) (clamped ch v) = (s.lmt.chans.get ch).enter .fault) :
    exec (.conversionComplete ch v) s =
      let again := reported ch (((s.lmt.chans.get ch).enter .fault).trip (clamped ch v) s.tmb.ms) (clamped ch v)
        (stored ch v w s)
      .next (if (s.lmt.entries.get ch).action = .systemOff then forceOff .fault again else again) :=
  (exec_conversion_fault hw ht he (hs.trans_ne (by decide)) hd).trans
    (congrArg _ (enterFault_of_held (s := stored ch v w s) _ hl (.inr hs) (.inl rfl)))

/-- Settles O12: the equations of `judgeChan` in FAULT and HELD, the entry to FAULT from HELD, and for the last clause
the five commands that write LMT. -/
theorem faultAndHeldChannelsTakeSamples : Obligations.FaultAndHeldChannelsTakeSamples := by
  refine ⟨?_, exec_faultReturn⟩
  intro ch v s w hw ht he e c x u run
  have keeps {d : LimitChan} (hd : judgeChan e c x = d) (hs : d.state = c.state) : run d :=
    exec_conversion_keeps hw ht he hd hs
  refine ⟨fun hs => ⟨fun h => ?_, fun hf hi hn => ?_, fun hf hi hn => ?_⟩,
    fun hs => ⟨fun hf hn => ?_, ?_, fun hf => ?_⟩⟩
  · exact keeps (judgeChan_fault_unsettled hs h) rfl
  · exact keeps ((judgeChan_fault_settled hs hf hi).trans (if_neg hn.not_ge)) rfl
  · have held : judgeSample ch x u = route .limitHeld ch.val 0 (withChan ch (c.enter .held) u) :=
      judgeSample_held (s := u) he (hs.trans_ne (by decide))
        ((judgeChan_fault_settled hs hf hi).trans (if_pos hn))
    refine ⟨_, (exec_conversion_inTurn v hw ht).trans (congrArg _ held), rfl, ?_⟩
    simp only [route_lmt, withChan, Table.get_set_self]
    exact ⟨rfl, rfl, rfl, rfl⟩
  · exact keeps ((judgeChan_held_beyond hs hf).trans (if_neg hn.not_ge)) rfl
  · intro hf hn d again
    have hne : c.state ≠ .fault := hs.trans_ne (by decide)
    have enters : judgeChan e c x = c.enter .fault := judgeChan_enters_fault hne hf hn
    have hd : (c.enter .fault).trip x s.tmb.ms = d := by
      simp only [LimitChan.trip, LimitChan.enter, sat255_eq_min]; rfl
    refine ⟨⟨_, exec_conversion_fault hw ht he hne enters, enterFault_chan.trans hd⟩, fun hlaw => ?_⟩
    have relapse : exec (.conversionComplete ch v) s =
        .next (if e.action = .systemOff then forceOff .fault again else again) :=
      (exec_conversion_relapse hw ht he hs hlaw.1 enters).trans (hd ▸ rfl)
    refine ⟨fun h => ?_, fun ha hon hp => ?_⟩
    · rw [relapse]
      split
      · next ha => rw [forceOff, if_pos (h.resolve_left (not_not.2 ha))]
      · rfl
    · have policy : again.evr.policy = s.evr.policy := reported_policy (s := u) ch d x
      exact ⟨_, relapse.trans (by rw [if_pos ha]), forceOff_enters _ hon (by rwa [PolicyLegal, policy])⟩
  · exact keeps (judgeChan_held_within hs hf) rfl

end Sys2Proof.Machine

namespace Sys2Proof.Machine

/-! ## Lowering: what happens to the setpoints between passes (R53, R74, R86, R98) -/

/-- A pack's setpoints lowered: the charge pair as it stands or 0, and the boost setpoint as it stands or 0. -/
def Setpoints.Lowered (x y : Setpoints) : Prop :=
  ((y.chargeI = x.chargeI ∧ y.chargeV = x.chargeV) ∨ (y.chargeI = 0 ∧ y.chargeV = 0)) ∧
    (y.boost = x.boost ∨ y.boost = 0)

theorem eq_noSetpoints {x : Setpoints} (hi : x.chargeI = 0) (hv : x.chargeV = 0) (hb : x.boost = 0) :
    x = noSetpoints := by
  cases x; cases hi; cases hv; cases hb; rfl

namespace Setpoints.Lowered

variable {x y z : Setpoints}

theorem refl (x : Setpoints) : x.Lowered x := ⟨.inl ⟨rfl, rfl⟩, .inl rfl⟩

theorem noCharge (x : Setpoints) : x.Lowered x.noCharge := ⟨.inr ⟨rfl, rfl⟩, .inl rfl⟩

theorem noBoost (x : Setpoints) : x.Lowered x.noBoost := ⟨.inl ⟨rfl, rfl⟩, .inr rfl⟩

theorem none (x : Setpoints) : x.Lowered noSetpoints := ⟨.inr ⟨rfl, rfl⟩, .inr rfl⟩

theorem trans (h : x.Lowered y) (k : y.Lowered z) : x.Lowered z := by
  unfold Setpoints.Lowered at *; omega

/-- Setpoints that are all 0 stay so. -/
theorem eq_none (h : noSetpoints.Lowered y) : y = noSetpoints := by
  obtain ⟨hI, hB⟩ := h
  obtain ⟨i, v⟩ := hI.elim id id
  exact eq_noSetpoints i v (hB.elim id id)

/-- Lowering keeps the grid, and the voltage that goes with the charge current (R91, R94). -/
theorem ok (h : x.Lowered y) (hx : SetpointsOk x) : SetpointsOk y := by
  obtain ⟨hI, hB⟩ := h
  obtain ⟨gridI, gridB, volt⟩ := hx
  refine ⟨?_, by obtain e | e := hB <;> simp [OnGrid, e, gridB], ?_⟩
  · obtain ⟨e, -⟩ | ⟨e, -⟩ := hI <;> simp [OnGrid, e, gridI]
  · obtain ⟨e, ev⟩ | ⟨e, ev⟩ := hI
    · rwa [e, ev]
    · rw [if_pos e, ev]

/-- Lowering keeps to what the path mode allows (R53). -/
theorem pathOk {m : PathMode} (h : x.Lowered y) (hx : PathSetpointsOk m x) : PathSetpointsOk m y := by
  obtain ⟨opened, notFull⟩ := hx
  refine ⟨fun hm => eq_none (opened hm ▸ h), fun hm => ?_⟩
  obtain ⟨e, -⟩ | ⟨e, -⟩ := h.1
  · rw [e, notFull hm]
  · exact e

end Setpoints.Lowered

/-- What every event but a pass does to PPC: setpoints are lowered, and the law's conditions on figures, paths and the
bay hold after where they held before. -/
structure Ppc.Lowers (c d : Ppc) : Prop where
  setpoints : ∀ p, (c.setpoints.get p).Lowered (d.setpoints.get p)
  figures : ∀ p, FiguresOk (c.charge.get p) → FiguresOk (d.charge.get p)
  path : ∀ p, PathSetpointsOk (c.path.get p).mode (c.setpoints.get p) →
    PathSetpointsOk (d.path.get p).mode (d.setpoints.get p)
  bay : (c.bay.state ≠ .latched → c.setpoints.b = noSetpoints) → d.bay.state ≠ .latched → d.setpoints.b = noSetpoints

namespace Ppc.Lowers

variable {c d e : Ppc}

theorem refl (c : Ppc) : c.Lowers c := ⟨fun _ => .refl _, fun _ => id, fun _ => id, id⟩

theorem of_eq (h : d = c) : c.Lowers d := h ▸ refl c

theorem trans (h : c.Lowers d) (k : d.Lowers e) : c.Lowers e where
  setpoints p := (h.setpoints p).trans (k.setpoints p)
  figures p := k.figures p ∘ h.figures p
  path p := k.path p ∘ h.path p
  bay := k.bay ∘ h.bay

/-- Lowered setpoints under the same paths and the same bay. -/
theorem of_setpoints (hs : ∀ p, (c.setpoints.get p).Lowered (d.setpoints.get p))
    (hf : ∀ p, FiguresOk (c.charge.get p) → FiguresOk (d.charge.get p)) (hp : d.path = c.path) (hb : d.bay = c.bay) :
    c.Lowers d where
  setpoints := hs
  figures := hf
  path p := by rw [hp]; exact (hs p).pathOk
  bay h hd := by
    rw [hb] at hd
    exact Setpoints.Lowered.eq_none (h hd ▸ hs .b)

/-- Charge states changed, with figures as good as before. -/
theorem of_charge (hf : ∀ p, FiguresOk (c.charge.get p) → FiguresOk (d.charge.get p))
    (hs : d.setpoints = c.setpoints) (hp : d.path = c.path) (hb : d.bay = c.bay) : c.Lowers d :=
  of_setpoints (fun _ => hs ▸ .refl _) hf hp hb

/-- The bay changed, in LATCHED or with pack B's setpoints at 0 if they had to be. -/
theorem of_bay (hs : d.setpoints = c.setpoints) (hc : d.charge = c.charge) (hp : d.path = c.path)
    (hb : d.bay.state ≠ .latched → c.bay.state ≠ .latched) : c.Lowers d where
  setpoints _ := hs ▸ .refl _
  figures _ := hc ▸ id
  path p := by rw [hs, hp]; exact id
  bay h hd := hs ▸ h (hb hd)

/-- Lowering keeps the law of the setpoints. -/
theorem law {s t : State} (h : s.ppc.Lowers t.ppc) (hs : SetpointLaw s) : SetpointLaw t := by
  obtain ⟨okA, okB, excl, bay, pathA, pathB, figA, figB⟩ := hs
  refine ⟨(h.setpoints .a).ok okA, (h.setpoints .b).ok okB, ?_, h.bay bay, h.path .a pathA, h.path .b pathB,
    h.figures .a figA, h.figures .b figB⟩
  obtain ⟨chargeA, boostA⟩ := h.setpoints .a
  obtain ⟨chargeB, boostB⟩ := h.setpoints .b
  simp only [PerPack.get] at chargeA boostA chargeB boostB
  omega

end Ppc.Lowers

/-! ## PPC's own lowerings (R53, R98) -/

variable {s : State} {p : Pack}

theorem PerPack.get_set {α : Type} (x : PerPack α) (p q : Pack) (v : α) :
    (x.set p v).get q = if q = p then v else x.get q := by
  cases p <;> cases q <;> rfl

theorem Ppc.zeroCharge_lowers (c : Ppc) (p : Pack) : c.Lowers (c.zeroCharge p) := by
  refine .of_setpoints (fun q => ?_) (fun _ => id) rfl rfl
  simp only [Ppc.zeroCharge, PerPack.get_set]
  split
  · next h => exact h ▸ .noCharge _
  · exact .refl _

theorem Ppc.zeroAll_lowers (c : Ppc) (p : Pack) : c.Lowers (c.zeroAll p) := by
  refine .of_setpoints (fun q => ?_) (fun _ => id) rfl rfl
  simp only [Ppc.zeroAll, PerPack.get_set]
  split
  · exact .none _
  · exact .refl _

theorem Ppc.zeroBoth_lowers (c : Ppc) : c.Lowers c.zeroBoth :=
  .of_setpoints (fun q => by cases q <;> exact .none _) (fun _ => id) rfl rfl

/-- A change into OPEN or DISCHARGE_ONLY lowers a pack's setpoints (R53). -/
theorem pathSetpoints_lowered (old new : PathMode) (x : Setpoints) : x.Lowered (pathSetpoints old new x) := by
  unfold pathSetpoints
  split
  · exact .refl _
  · cases new with
    | opened => exact .none _
    | dischargeOnly => exact .noCharge _
    | full => exact .refl _

/-- The setpoints after a path decision are what the new mode allows (R53). -/
theorem pathSetpoints_ok {old new : PathMode} {x : Setpoints} (h : PathSetpointsOk old x) :
    PathSetpointsOk new (pathSetpoints old new x) := by
  unfold pathSetpoints
  split
  · next e => rwa [e]
  · cases new with
    | opened => exact ⟨fun _ => rfl, fun _ => rfl⟩
    | dischargeOnly => exact ⟨nofun, fun _ => rfl⟩
    | full => exact ⟨nofun, fun h => absurd rfl h⟩

theorem redecidePaths_lowers : s.ppc.Lowers (redecidePaths s).ppc where
  setpoints p := by cases p <;> exact pathSetpoints_lowered _ _ _
  figures _ := id
  path p := by cases p <;> exact pathSetpoints_ok
  bay h hb := Setpoints.Lowered.eq_none (h hb ▸ pathSetpoints_lowered _ _ _)

/-! ## What SSC's decisions leave of PPC (R161 to R163) -/

@[simp] theorem decideLow_ppc : (decideLow s).ppc = s.ppc := by
  unfold decideLow; repeat' split
  all_goals simp

@[simp] theorem decideCritical_ppc : (decideCritical s).ppc = s.ppc := by
  unfold decideCritical; repeat' split
  all_goals simp

@[simp] theorem decideBattery_ppc : (decideBattery s).ppc = s.ppc := by simp [decideBattery]

@[simp] theorem refreshSoc_ppc : (refreshSoc s).ppc = s.ppc := by simp [refreshSoc]

@[simp] theorem repath_ppc : (repath s).ppc = (redecidePaths s).ppc := by simp [repath]

@[simp] theorem portChanged_ppc : (portChanged s).ppc = (redecidePaths s).ppc := by simp [portChanged]

@[simp] theorem adapterChanged_ppc : (adapterChanged s).ppc = (redecidePaths s).ppc := by
  simp only [adapterChanged, decideBattery_ppc]; repeat' split
  all_goals simp

/-- A path decision made on a state lowers what that state's PPC was lowered from. -/
theorem Ppc.Lowers.redecided {c : Ppc} (h : c.Lowers s.ppc) : c.Lowers (redecidePaths s).ppc :=
  h.trans redecidePaths_lowers

/-! ## The bay (R54 to R57) -/

theorem enterReleasing_lowers : s.ppc.Lowers (enterReleasing s).ppc := by
  simp only [enterReleasing, repath_ppc]
  refine .redecided ?_
  rw [route_ppc]
  refine (s.ppc.zeroAll_lowers .b).trans ⟨fun _ => .refl _, fun _ => id, fun _ => id, fun _ _ => rfl⟩

theorem bayLatched_lowers : s.ppc.Lowers (bayLatched s).ppc := by
  refine .redecided ?_
  rw [route_ppc]
  exact .of_bay rfl rfl rfl (absurd rfl)

theorem bayReturn_lowers : s.ppc.Lowers (bayReturn s).ppc := by
  unfold bayReturn
  split
  · rw [decideBattery_ppc]; exact bayLatched_lowers
  · exact .refl _

theorem bayLatchReported_lowers (o : Bool) : s.ppc.Lowers (bayLatchReported o s).ppc := by
  unfold bayLatchReported
  split
  · split
    · exact enterReleasing_lowers
    · exact .refl _
  · exact bayReturn_lowers

theorem bayQuiet_lowers (h : s.ppc.bay.state = .releasing) : s.ppc.Lowers (bayQuiet s).ppc := by
  unfold bayQuiet
  split
  · exact .of_bay rfl rfl rfl id
  · rw [repath_ppc]
    refine .redecided ?_
    rw [route_ppc]
    exact .of_bay rfl rfl rfl fun _ => by rw [h]; decide

theorem bayRefuse_lowers : s.ppc.Lowers (bayRefuse s).ppc := by
  simp only [bayRefuse]
  split
  · exact .of_bay rfl rfl rfl id
  · rw [route_ppc]; exact .of_bay rfl rfl rfl id

theorem examineBay_lowers : s.ppc.Lowers (examineBay s).ppc := by
  unfold examineBay
  split
  · exact .refl _
  · next h =>
    split
    · split
      · exact bayQuiet_lowers (not_not.1 h)
      · exact .of_bay rfl rfl rfl id
    · exact bayRefuse_lowers

theorem bayRemoval_lowers : s.ppc.Lowers (bayRemoval s).ppc := by
  simp only [bayRemoval]
  split
  · refine .trans ?_ bayLatched_lowers
    exact .of_bay rfl rfl rfl id
  · exact .of_bay rfl rfl rfl id

theorem setPending_lowers : s.ppc.Lowers (setPending s).ppc := by
  simp only [setPending]
  split
  · refine .trans ?_ enterReleasing_lowers
    exact .of_bay rfl rfl rfl id
  · exact .of_bay rfl rfl rfl id

theorem clearPending_lowers : s.ppc.Lowers (clearPending s).ppc := by
  refine .trans ?_ bayReturn_lowers
  exact .of_bay rfl rfl rfl id

theorem firstLatch_lowers : s.ppc.Lowers (firstLatch s).ppc := by
  unfold firstLatch
  split
  · rw [repath_ppc]; exact .redecided (.of_bay rfl rfl rfl (absurd rfl))
  · rw [repath_ppc]; exact redecidePaths_lowers

end Sys2Proof.Machine

namespace Sys2Proof.Machine

variable {s : State} {p : Pack}

/-! ## The action set (R27 to R32) -/

/-- A fold of operations that lower PPC lowers it. -/
theorem foldl_lowers {α : Type} {f : State → α → State} (h : ∀ (s : State) a, s.ppc.Lowers (f s a).ppc) (as : List α)
    (s : State) : s.ppc.Lowers (as.foldl f s).ppc := by
  induction as generalizing s with
  | nil => exact .refl _
  | cons a as ih => exact (h s a).trans (ih _)

theorem redriveLtr_lowers : s.ppc.Lowers (redriveLtr s).ppc := .of_charge (fun _ => id) rfl rfl rfl

theorem joinEffect_lowers (a : Action) : s.ppc.Lowers (joinEffect a s).ppc := by
  cases a with
  | chargeStopA | chargeStopB => exact s.ppc.zeroCharge_lowers _
  | chargeStopAll => exact (s.ppc.zeroCharge_lowers .a).trans (Ppc.zeroCharge_lowers _ .b)
  | isolateA | isolateB => exact s.ppc.zeroAll_lowers _
  | inputOpen => exact s.ppc.zeroBoth_lowers.trans (.of_charge (fun _ => id) rfl rfl rfl)
  | throttle => exact redriveLtr_lowers
  | fanFull | none | systemOff => exact .refl _

theorem leaveEffect_lowers (a : Action) : s.ppc.Lowers (leaveEffect a s).ppc := by
  cases a with
  | inputOpen => exact .of_charge (fun _ => id) rfl rfl rfl
  | throttle => exact redriveLtr_lowers
  | _ => exact .refl _

theorem handAction_lowers (old new : List Action) (s : State) (a : Action) :
    s.ppc.Lowers (handAction old new s a).ppc := by
  unfold handAction
  split
  · rw [repath_ppc]; exact (joinEffect_lowers a).redecided
  · split
    · rw [repath_ppc]; exact (leaveEffect_lowers a).redecided
    · exact .refl _

theorem recomputeActions_lowers : s.ppc.Lowers (recomputeActions s).ppc :=
  foldl_lowers (handAction_lowers _ _) allActions { s with lmt := { s.lmt with actionSet := s.lmt.carried } }

/-- An assertion of SYSTEM_OFF leaves PPC alone, whether it is made or not (R31). -/
theorem ite_forceOff_ppc (q : Prop) [Decidable q] (cause : ForceCause) :
    (if q then forceOff cause s else s).ppc = s.ppc := by
  split <;> simp

theorem enterFault_lowers (ch : Fin 16) (c : LimitChan) (v : Int) : s.ppc.Lowers (enterFault ch c v s).ppc := by
  simp only [enterFault, ite_forceOff_ppc]
  refine .trans (.of_eq ?_) recomputeActions_lowers
  split <;> simp

theorem judgeSample_lowers (ch : Fin 16) (v : Int) : s.ppc.Lowers (judgeSample ch v s).ppc := by
  simp only [judgeSample]
  split
  · split
    · exact .refl _
    · cases (judgeChan (s.lmt.entries.get ch) (s.lmt.chans.get ch) v).state with
      | normal => exact .refl _
      | warning => exact .of_eq (by dsimp only; split <;> simp)
      | fault => exact enterFault_lowers _ _ _
      | held => exact .of_eq (route_ppc _ _ _ _)
  · exact .refl _

theorem clearChan_ppc (ch : Fin 16) : (clearChan ch s).ppc = s.ppc := route_ppc _ _ _ _

theorem clearHeld_lowers : s.ppc.Lowers (clearHeld s).ppc := by
  refine .trans (foldl_lowers (fun t ch => ?_) _ s) recomputeActions_lowers
  split
  · exact .of_eq (clearChan_ppc ch)
  · exact .refl _

theorem loadLimitEntry_lowers (ch : Fin 16) (e : LimitEntry) : s.ppc.Lowers (loadLimitEntry ch e s).ppc := by
  simp only [loadLimitEntry]
  split
  · rw [ite_forceOff_ppc]
    exact recomputeActions_lowers (s := { s with lmt := { s.lmt with entries := s.lmt.entries.set ch e } })
  · refine .trans (.of_eq ?_) recomputeActions_lowers
    split
    · exact clearChan_ppc ch
    · rfl

theorem restoreLimits_lowers : s.ppc.Lowers (restoreLimits s).ppc := by
  simp only [restoreLimits, ite_forceOff_ppc]
  exact recomputeActions_lowers (s := { s with lmt := { s.lmt with entries := defaultLimits } })

/-! ## Charge (R60, R65 to R77) -/

theorem setCharge_lowers {c : Charge} (h : FiguresOk (s.ppc.charge.get p) → FiguresOk c) :
    s.ppc.Lowers (setCharge p c s).ppc := by
  refine .of_charge (fun q => ?_) rfl rfl rfl
  simp only [setCharge, PerPack.get_set]
  split
  · next e => exact e ▸ h
  · exact id

/-- A change of phase leaves the figures as they are (R65). -/
theorem Charge.enter_figures {c : Charge} (ph : Phase) (h : FiguresOk c) : FiguresOk (c.enter ph) := by
  cases ph <;> exact h

theorem setPhase_lowers (ph : Phase) : s.ppc.Lowers (setPhase p ph s).ppc := by
  unfold setPhase
  split
  · exact .refl _
  · rw [route_ppc]; exact setCharge_lowers (Charge.enter_figures ph)

theorem stepCounts_figures {c : Charge} (x : StepView) (h : FiguresOk c) : FiguresOk (stepCounts c x) := by
  unfold stepCounts
  split <;> exact h

theorem decidePhase_lowers (lim : Band) (x : Option StepView) : s.ppc.Lowers (decidePhase p lim x s).ppc := by
  simp only [decidePhase]
  repeat' split
  exacts [setPhase_lowers _, setPhase_lowers _, setPhase_lowers _, setPhase_lowers _, .refl _,
    setCharge_lowers (stepCounts_figures _), setPhase_lowers _]

theorem stepBand_lowers : s.ppc.Lowers (stepBand p s).ppc := by
  simp only [stepBand]
  split <;> exact setCharge_lowers id

/-- V_CHG is a multiple of 8 up to 20000 (R76). -/
theorem chargeVoltage_grid (r : PackRecord) (band : Option Nat) (lim : Band) :
    chargeVoltage r band lim % 8 = 0 ∧ chargeVoltage r band lim ≤ 20000 := by
  cases band with
  | none => simp [chargeVoltage]
  | some i => simp only [chargeVoltage]; omega

/-- The figures a phase step hands on are within their bounds, whatever stood there (R75, R76). -/
theorem handFigures_lowers (lim : Band) (prof : Profile) : s.ppc.Lowers (handFigures p lim prof s).ppc := by
  simp only [handFigures]
  split
  · exact setCharge_lowers fun _ => ⟨rfl, by simp, fun _ => rfl⟩
  · next r _ =>
    obtain ⟨grid, top⟩ := chargeVoltage_grid r (s.ppc.charge.get p).band lim
    exact setCharge_lowers fun _ => ⟨grid, top, fun low => if_pos low⟩

theorem phaseStep_lowers : s.ppc.Lowers (phaseStep p s).ppc :=
  stepBand_lowers.trans ((decidePhase_lowers _ _).trans (handFigures_lowers _ _))

theorem fireTimeout_lowers : s.ppc.Lowers (fireTimeout p s).ppc := by
  simp only [fireTimeout]
  split
  · exact .refl _
  · refine .trans ?_ (setPhase_lowers _)
    rw [route_ppc]
    refine .trans (setCharge_lowers ?_) (Ppc.zeroCharge_lowers _ p)
    exact id

theorem chargeRemoval_lowers : s.ppc.Lowers (chargeRemoval p s).ppc := by
  refine .trans (setCharge_lowers ?_) (setPhase_lowers _)
  exact id

theorem removalAtPpc_lowers : s.ppc.Lowers (removalAtPpc p s).ppc := by
  cases p with
  | a => exact redecidePaths_lowers.trans chargeRemoval_lowers
  | b => exact redecidePaths_lowers.trans (chargeRemoval_lowers.trans bayRemoval_lowers)

theorem tickState_lowers (raw : SwitchLevels) : s.ppc.Lowers (tickState raw s).ppc := by
  refine .of_charge (fun q => ?_) rfl rfl rfl
  have figures : FiguresOk (s.ppc.charge.get q) → FiguresOk (packTick s q) := by
    obtain h | ⟨-, h⟩ | ⟨-, -, h⟩ := packTick_cases s q <;> rw [h] <;> exact id
  cases q <;> exact figures

end Sys2Proof.Machine

namespace Sys2Proof.Machine

variable {s : State} {p : Pack}

/-! ## Before the pass (R79 to R82) -/

theorem examineVad_lowers : s.ppc.Lowers (examineVad s).ppc := by
  have detach : s.ppc.Lowers (detachAdapter s).ppc := by
    rw [detachAdapter, adapterChanged_ppc]
    refine .redecided ?_
    rw [route_ppc]
    exact s.ppc.zeroBoth_lowers.trans (.of_charge (fun _ => id) rfl rfl rfl)
  have attach : s.ppc.Lowers (attachAdapter s).ppc := by
    rw [attachAdapter, adapterChanged_ppc]
    refine .redecided ?_
    rw [route_ppc]
    exact .of_charge (fun _ => id) rfl rfl rfl
  simp only [examineVad]
  repeat' split
  exacts [detach, .refl _, .of_charge (fun _ => id) rfl rfl rfl, attach, .of_charge (fun _ => id) rfl rfl rfl]

theorem examineAid_lowers : s.ppc.Lowers (examineAid s).ppc := by
  simp only [examineAid]
  split
  · rw [route_ppc]; exact .of_charge (fun _ => id) rfl rfl rfl
  · exact .refl _

/-! ## The caps of a pass (R89) -/

theorem qDown_mod (x : Nat) : qDown x % 32 = 0 := Nat.mul_mod_left _ _

theorem qDown_le (x : Nat) : qDown x ≤ x := Nat.div_mul_le_self _ _

theorem chargeCap_le : chargeCap s p ≤ 8064 := by
  unfold chargeCap; split <;> omega

theorem chargeCap_le_cap : chargeCap s p ≤ (s.ppc.charge.get p).cap := by
  have := qDown_le (s.ppc.charge.get p).cap
  unfold chargeCap; split <;> omega

/-- A pack with a charge cap is eligible: its path is FULL and its bay allows it. -/
theorem eligible_of_chargeCap (h : chargeCap s p ≠ 0) : (s.ppc.path.get p).mode = .full ∧ bayAllows s p = true := by
  have e : chargeEligible s p = true := by
    by_contra hn
    exact h (if_neg hn)
  simp only [chargeEligible, Bool.and_eq_true, decide_eq_true_iff] at e
  obtain ⟨⟨⟨-, full⟩, -⟩, bay⟩ := e
  exact ⟨full, bay⟩

/-- A boost cap is 0, or a multiple of 32 between 128 and 8064. -/
theorem boostCap_grid : OnGrid (boostCap s p) := by
  unfold boostCap
  split
  · next h =>
    simp only [boostEligible, Bool.and_eq_true, decide_eq_true_iff] at h
    obtain ⟨⟨-, low⟩, -⟩ := h
    have := qDown_mod (s.ppc.charge.get p).iDmax
    unfold OnGrid
    omega
  · exact .inl rfl

/-- A pack with a boost cap is eligible: its path is not OPEN and its bay allows it. -/
theorem eligible_of_boostCap (h : boostCap s p ≠ 0) : (s.ppc.path.get p).mode ≠ .opened ∧ bayAllows s p = true := by
  have e : boostEligible s p = true := by
    by_contra hn
    exact h (if_neg hn)
  simp only [boostEligible, canGive, Bool.and_eq_true, decide_eq_true_iff] at e
  obtain ⟨⟨⟨⟨⟨-, path, -⟩, -⟩, -⟩, -⟩, bay⟩ := e
  exact ⟨path, bay⟩

/-! ## What a pass writes (R90 to R93) -/

theorem share_le (bFirst : Bool) (total : Nat) (cap : Pack → Nat) (p : Pack) :
    (share bFirst (cap .a) (cap .b) total).get p ≤ cap p := by
  cases bFirst <;> cases p <;> exact Nat.min_le_left _ _

/-- A pass writes no setpoint, or charge setpoints out of a surplus, or a boost setpoint against a deficit, each from a
power within the power of the pack's cap (R90, R92, R93). -/
theorem passSetpoints_cases (s : State) (p : Pack) :
    (passSetpoints s).get p = noSetpoints ∨
      (0 ≤ headroom s ∧ ∃ power ≤ capPower s p (chargeCap s p),
        (passSetpoints s).get p = chargeSetpoint s p power) ∨
      (headroom s < 0 ∧ ∃ power ≤ capPower s p (boostCap s p),
        (passSetpoints s).get p = ⟨0, 0, boostCurrent power (packVolt s p) (boostCap s p)⟩) := by
  unfold passSetpoints
  split
  · exact .inl (by cases p <;> rfl)
  · split
    · next h =>
      exact .inr (.inl ⟨h, _, share_le (chargeBFirst s) _ (fun q => capPower s q (chargeCap s q)) p, by cases p <;> rfl⟩)
    · next h =>
      exact .inr (.inr ⟨not_le.1 h, _, share_le (boostBFirst s) _ (fun q => capPower s q (boostCap s q)) p,
        by cases p <;> rfl⟩)

/-- A current worked back from a power within a cap's power is within the cap. -/
theorem current_le_cap {power cap : Nat} (h : power ≤ capPower s p cap) : power * 1000 / packVolt s p ≤ cap := by
  refine Nat.div_le_of_le_mul ?_
  unfold capPower at h
  omega

/-- What R90 and R92 say of the setpoints a pass writes, under the caps C_k and B_k at a headroom: the charge current
is rounded down from a figure within C_k, the boost current rounded up to at most B_k. -/
structure PassBounds (c b : Nat) (h : Int) (x : Setpoints) : Prop where
  charge : ∃ i, i ≤ c ∧ x.chargeI = if i / 32 * 32 < 128 then 0 else i / 32 * 32
  boost : ∃ i, x.boost = if i = 0 then 0 else max 128 (min b ((i + 31) / 32 * 32))
  boost_le : x.boost ≤ b
  surplus : 0 ≤ h → x.boost = 0
  deficit : h < 0 → x.chargeI = 0

/-- Lowered setpoints stay within the bounds of the pass. -/
theorem PassBounds.lowered {c b : Nat} {h : Int} {x y : Setpoints} (w : PassBounds c b h x) (l : x.Lowered y) :
    PassBounds c b h y := by
  obtain ⟨hI, hB⟩ := l
  have chargeI : y.chargeI = x.chargeI ∨ y.chargeI = 0 := hI.imp And.left And.left
  refine ⟨?_, ?_, ?_, fun e => ?_, fun e => ?_⟩
  · obtain e | e := chargeI
    · exact e ▸ w.charge
    · exact ⟨0, Nat.zero_le _, e⟩
  · obtain e | e := hB
    · exact e ▸ w.boost
    · exact ⟨0, e⟩
  · obtain e | e := hB
    · exact e ▸ w.boost_le
    · exact e ▸ Nat.zero_le _
  · exact hB.elim (fun k => k.trans (w.surplus e)) id
  · exact chargeI.elim (fun k => k.trans (w.deficit e)) id

/-- Within the bounds of a pass, the charge current is at most C_k. -/
theorem PassBounds.charge_le {c b : Nat} {h : Int} {x : Setpoints} (w : PassBounds c b h x) : x.chargeI ≤ c := by
  obtain ⟨i, le, e⟩ := w.charge
  split at e <;> omega

/-- Within the bounds of a pass, both currents are on the grid (R94). -/
theorem PassBounds.grid {c b : Nat} {h : Int} {x : Setpoints} (w : PassBounds c b h x) (hc : c ≤ 8064)
    (hb : OnGrid b) : OnGrid x.chargeI ∧ OnGrid x.boost := by
  obtain ⟨i, le, e⟩ := w.charge
  obtain ⟨j, e'⟩ := w.boost
  have := w.boost_le
  unfold OnGrid at *
  constructor
  · split at e <;> omega
  · split at e' <;> omega

/-- A current rounded up is 0 for no power alone, where the power is within a cap's power (R92). -/
theorem ceilDiv_eq_zero_iff {power cap : Nat} (h : power ≤ capPower s p cap) :
    ceilDiv (power * 1000) (packVolt s p) = 0 ↔ power = 0 := by
  unfold capPower at h
  unfold ceilDiv
  obtain hv | hv := Nat.eq_zero_or_pos (packVolt s p)
  · rw [hv] at h ⊢
    simp only [Nat.zero_mul] at h
    omega
  · rw [Nat.div_eq_zero_iff]
    omega

/-- A boost current written under a cap on the grid is 0, or rounded up, bounded by the cap and raised to 128 (R92). -/
theorem boostCurrent_eq {power cap : Nat} (h : power ≤ capPower s p cap) (hc : OnGrid cap) :
    let i := ceilDiv (power * 1000) (packVolt s p)
    boostCurrent power (packVolt s p) cap = if i = 0 then 0 else max 128 (min cap ((i + 31) / 32 * 32)) := by
  intro i
  have hi : i = 0 ↔ power = 0 := ceilDiv_eq_zero_iff h
  have hcap : cap = 0 → power = 0 := fun e => by
    rw [e, capPower, Nat.mul_zero] at h; omega
  change (if power > 0 ∧ min ((i + 31) / 32 * 32) cap < 128 then min 128 cap else min ((i + 31) / 32 * 32) cap) = _
  unfold OnGrid at hc
  split <;> split <;> omega

theorem boostCurrent_le (power volt cap : Nat) : boostCurrent power volt cap ≤ cap := by
  simp only [boostCurrent]
  split <;> exact Nat.min_le_right _ _

/-- Every pass writes within its bounds (R90, R92, R93). -/
theorem passSetpoints_bounds (s : State) (p : Pack) :
    PassBounds (chargeCap s p) (boostCap s p) (headroom s) ((passSetpoints s).get p) := by
  obtain e | ⟨hs, power, le, e⟩ | ⟨hd, power, le, e⟩ := passSetpoints_cases s p
  · rw [e]
    exact ⟨⟨0, Nat.zero_le _, rfl⟩, ⟨0, rfl⟩, Nat.zero_le _, fun _ => rfl, fun _ => rfl⟩
  · rw [e]
    exact ⟨⟨_, current_le_cap le, rfl⟩, ⟨0, rfl⟩, Nat.zero_le _, fun _ => rfl, fun h => absurd hs (not_le.2 h)⟩
  · rw [e]
    exact ⟨⟨0, Nat.zero_le _, rfl⟩, ⟨_, boostCurrent_eq le boostCap_grid⟩, boostCurrent_le _ _ _,
      fun h => absurd h (not_le.2 hd), fun _ => rfl⟩

/-- The voltage setpoint a pass writes goes with the charge current (R91). -/
theorem passSetpoints_chargeV (s : State) (p : Pack) :
    ((passSetpoints s).get p).chargeV =
      if ((passSetpoints s).get p).chargeI = 0 then 0 else (s.ppc.charge.get p).vChg := by
  obtain e | ⟨-, power, -, e⟩ | ⟨-, power, -, e⟩ := passSetpoints_cases s p <;> rw [e] <;> rfl

/-- A pack with no cap is given nothing. -/
theorem passSetpoints_none (hc : chargeCap s p = 0) (hb : boostCap s p = 0) :
    (passSetpoints s).get p = noSetpoints := by
  have chargeI : ((passSetpoints s).get p).chargeI = 0 := Nat.le_zero.1 ((passSetpoints_bounds s p).charge_le.trans_eq hc)
  have boost : ((passSetpoints s).get p).boost = 0 := Nat.le_zero.1 ((passSetpoints_bounds s p).boost_le.trans_eq hb)
  exact eq_noSetpoints chargeI ((passSetpoints_chargeV s p).trans (if_pos chargeI)) boost

/-- A pass writes on the grid, with the voltage that goes with the charge current (R91, R94). -/
theorem passSetpoints_ok (h : FiguresOk (s.ppc.charge.get p)) : SetpointsOk ((passSetpoints s).get p) := by
  obtain ⟨gridV, topV, lowV⟩ := h
  obtain ⟨gridI, gridB⟩ := (passSetpoints_bounds s p).grid chargeCap_le boostCap_grid
  have le := (passSetpoints_bounds s p).charge_le.trans chargeCap_le_cap
  refine ⟨gridI, gridB, ?_⟩
  rw [passSetpoints_chargeV]
  split
  · rfl
  · exact ⟨gridV, by omega, topV⟩

/-- A pass writes what the path mode allows (R53, R89). -/
theorem passSetpoints_pathOk : PathSetpointsOk (s.ppc.path.get p).mode ((passSetpoints s).get p) := by
  have noCharge (hm : (s.ppc.path.get p).mode ≠ .full) : chargeCap s p = 0 := by
    by_contra hc
    exact hm (eligible_of_chargeCap hc).1
  refine ⟨fun hm => passSetpoints_none (noCharge (by rw [hm]; decide)) ?_, fun hm => ?_⟩
  · by_contra hb
    exact (eligible_of_boostCap hb).1 hm
  · exact Nat.le_zero.1 ((passSetpoints_bounds s p).charge_le.trans_eq (noCharge hm))

/-- A pass gives a pack that its bay does not allow nothing (R54, R89). -/
theorem passSetpoints_bay (h : bayAllows s p = false) : (passSetpoints s).get p = noSetpoints := by
  refine passSetpoints_none ?_ ?_
  · by_contra hc
    exact absurd (eligible_of_chargeCap hc).2 (by rw [h]; decide)
  · by_contra hb
    exact absurd (eligible_of_boostCap hb).2 (by rw [h]; decide)

/-- A pass never writes a charge setpoint and a boost setpoint together (R90, R92). -/
theorem passSetpoints_exclusive (p q : Pack) :
    ((passSetpoints s).get p).chargeI = 0 ∨ ((passSetpoints s).get q).boost = 0 := by
  obtain h | h := lt_or_ge (headroom s) 0
  · exact .inl ((passSetpoints_bounds s p).deficit h)
  · exact .inr ((passSetpoints_bounds s q).surplus h)

/-! ## The pass (R87 to R97) -/

/-- Stage 6 leaves the charge states, the paths and the bay (R95, R96). -/
theorem throttleStage_frame (u : Nat) :
    (throttleStage u s).ppc.charge = s.ppc.charge ∧ (throttleStage u s).ppc.path = s.ppc.path ∧
      (throttleStage u s).ppc.bay = s.ppc.bay := by
  simp only [throttleStage, redriveLtr]
  repeat' split
  all_goals simp

/-- A pass keeps the law of the setpoints, by the figures that the phase steps handed it. -/
theorem allocationPass_law (w : Sweep) (h : SetpointLaw s) : SetpointLaw (allocationPass w s) := by
  obtain ⟨-, -, -, -, -, -, figA, figB⟩ := h
  obtain ⟨charge, path, bay⟩ := throttleStage_frame (s := s) (passFigures s w).u
  simp only [SetpointLaw, allocationPass, charge, path, bay]
  refine ⟨passSetpoints_ok (p := .a) figA, passSetpoints_ok (p := .b) figB, ?_, fun hb => ?_,
    passSetpoints_pathOk (p := .a), passSetpoints_pathOk (p := .b), figA, figB⟩
  · have aa := passSetpoints_exclusive (s := s) .a .a
    have ab := passSetpoints_exclusive (s := s) .a .b
    have ba := passSetpoints_exclusive (s := s) .b .a
    have bb := passSetpoints_exclusive (s := s) .b .b
    simp only [PerPack.get] at aa ab ba bb
    omega
  · exact passSetpoints_bay (p := .b) (by simpa [bayAllows] using hb)

end Sys2Proof.Machine

namespace Sys2Proof.Machine

variable {s : State} {p : Pack}

/-! ## What the other blocks' operations leave of PPC -/

/-! Fans (R139 to R147) -/

@[simp] theorem fanEdge_ppc (f : Fan) (i : Option Nat) : (fanEdge f i s).ppc = s.ppc := by
  simp only [fanEdge]; split <;> simp

@[simp] theorem evaluateFan_ppc (f : Fan) : (evaluateFan f s).ppc = s.ppc := by simp [evaluateFan]

@[simp] theorem loadConfig_ppc (f : Fan) (c : FanConfig) : (loadConfig f c s).ppc = s.ppc := by
  simp only [loadConfig]; split <;> simp

/-! The keyboard (R101 to R118) -/

@[simp] theorem confirmPress_ppc (k : Fin 144) : (confirmPress k s).ppc = s.ppc := by
  simp only [confirmPress, keyWake, pressRecord]; repeat' split
  all_goals simp

@[simp] theorem pressDebounce_ppc (k : Fin 144) (n : Nat) : (pressDebounce k n s).ppc = s.ppc := by
  simp only [pressDebounce, completePress]; repeat' split
  all_goals simp

@[simp] theorem releaseDebounce_ppc (k : Fin 144) (n : Nat) : (releaseDebounce k n s).ppc = s.ppc := by
  simp only [releaseDebounce, completeRelease]; repeat' split
  all_goals simp

theorem keyStep_ppc (k : Fin 144) (raw : Bool) : (keyStep k raw s).ppc = s.ppc := by
  unfold keyStep
  dsimp only
  split
  exacts [rfl, pressDebounce_ppc _ _, rfl, pressDebounce_ppc _ _, rfl, releaseDebounce_ppc _ _, rfl,
    releaseDebounce_ppc _ _, rfl, by split <;> rfl, rfl, rfl]

theorem scanMatrix_lowers (image : List Bool) : s.ppc.Lowers (scanMatrix image s).ppc := by
  simp only [scanMatrix]
  split
  · exact .refl _
  · refine .trans (.of_eq ?_) (foldl_lowers (fun _ _ => .of_eq (keyStep_ppc _ _)) _ _)
    rfl

/-! The service link (R182 to R187) -/

theorem serviceByte_ppc (b : Byte) : (serviceByte s b).ppc = s.ppc := by
  simp only [serviceByte, serviceEvent, bufferRequest, framingError, linkError]; repeat' split
  all_goals simp

theorem receiveService_lowers (bs : List Byte) : s.ppc.Lowers (receiveService bs s).ppc :=
  foldl_lowers (fun _ _ => .of_eq (serviceByte_ppc _)) _ _

theorem startTransmit_ppc : (startTransmit s).ppc = s.ppc := by
  unfold startTransmit; repeat' split
  all_goals simp

theorem endTransmit_ppc : (endTransmit s).ppc = s.ppc := by
  unfold endTransmit; repeat' split
  all_goals simp

@[simp] theorem answerWith_ppc (tag : Nat) (a : Answer) : (answerWith tag a).ppc = a.state.ppc := rfl

theorem answerUnknown_ppc : (answerUnknown s).ppc = s.ppc := by
  unfold answerUnknown; repeat' split
  all_goals simp

/-! The pass-through slots (R46 to R49) -/

@[simp] theorem resolveSlot_ppc (c : ResultCode) (d : List Byte) : (resolveSlot p c d s).ppc = s.ppc := by
  simp only [resolveSlot]; repeat' split
  all_goals simp

@[simp] theorem resolveRemoved_ppc : (resolveRemoved p s).ppc = s.ppc := by
  unfold resolveRemoved; split <;> simp

theorem passHead_ppc (r : Request) : (passHead r s).ppc = s.ppc := by
  simp only [passHead]; split <;> simp

/-! The switch inputs and the system state (R103, R104, R126, R127, R156, R158) -/

@[simp] theorem regate_ppc : (regate s).ppc = s.ppc := by
  simp only [regate, gateExit]; repeat' split
  all_goals simp

@[simp] theorem firstGate_ppc : (firstGate s).ppc = s.ppc := by
  simp only [firstGate, gateLifted]; repeat' split
  all_goals simp

theorem handInitial_lowers (i : SwitchInput) : s.ppc.Lowers (handInitial i s).ppc := by
  cases i with
  | lid | hinge => exact .of_eq (by simp [handInitial])
  | pwrbtn => exact .refl _
  | baylatch => exact firstLatch_lowers

@[simp] theorem handLidHinge_ppc (i : LidHinge) (x : Bool) : (handLidHinge i x s).ppc = s.ppc := by
  simp [handLidHinge]

@[simp] theorem goOnline_ppc : (goOnline s).ppc = s.ppc := by simp [goOnline]

@[simp] theorem goHalting_ppc : (goHalting s).ppc = s.ppc := by simp [goHalting]

/-! ## The pack ports (R36 to R50) -/

theorem removePack_lowers : s.ppc.Lowers (removePack p s).ppc := by
  simp only [removePack, refreshSoc_ppc]
  refine .trans (.of_eq ?_) removalAtPpc_lowers
  simp

@[simp] theorem alarmEvent_ppc (old new : Alarms) : (alarmEvent p old new s).ppc = s.ppc := by
  simp only [alarmEvent]; split <;> simp

theorem takeTelemetry_lowers (f : Frame) : s.ppc.Lowers (takeTelemetry p f s).ppc := by
  simp only [takeTelemetry, portChanged_ppc]
  refine .redecided (.of_eq ?_)
  rw [placeRelay_ppc, alarmEvent_ppc]
  split <;> simp

theorem takeReply_ppc (d : List Byte) : (takeReply p d s).ppc = s.ppc := by
  unfold takeReply; split <;> simp

theorem packFrame_lowers (f : Frame) : s.ppc.Lowers (packFrame p f s).ppc := by
  simp only [packFrame]
  repeat' split
  exacts [takeTelemetry_lowers f, .refl _, .of_eq (takeReply_ppc _), .refl _, .refl _]

theorem packByte_lowers (s : State) (b : Byte) : s.ppc.Lowers (packByte p s b).ppc := by
  simp only [packByte]
  repeat' split
  exacts [.refl _, packFrame_lowers (s := setPort _ _ s) _, .refl _, .refl _]

theorem receivePack_lowers (bs : List Byte) : s.ppc.Lowers (receivePack p bs s).ppc := foldl_lowers packByte_lowers _ _

theorem lineGap_ppc : (lineGap p s).ppc = s.ppc := by
  simp only [lineGap]; split <;> simp

/-! ## The owners of requests (R184) -/

/-- An owner of a request that lowers PPC, whatever it answers. -/
def OwnerLowers (owner : List Byte → State → Answer) : Prop := ∀ args (s : State), s.ppc.Lowers (owner args s).state.ppc

/-- A check on the way to an answer, with both answers lowering. -/
theorem Ppc.Lowers.of_ite {q : Prop} [Decidable q] {a b : Answer} (ha : s.ppc.Lowers a.state.ppc)
    (hb : s.ppc.Lowers b.state.ppc) : s.ppc.Lowers (if q then a else b).state.ppc := by
  split
  · exact ha
  · exact hb

/-! Requests that leave PPC alone -/

theorem onlineRequest_lowers : OwnerLowers onlineRequest := fun args s => .of_eq <| by
  unfold onlineRequest; repeat' split
  all_goals simp

theorem sleepRequest_lowers : OwnerLowers sleepRequest := fun args s => .of_eq <| by
  unfold sleepRequest; repeat' split
  all_goals simp

theorem powerOffRequest_lowers : OwnerLowers powerOffRequest := fun args s => .of_eq <| by
  unfold powerOffRequest; repeat' split
  all_goals simp

theorem restartRequest_lowers : OwnerLowers restartRequest := fun args s => .of_eq <| by
  unfold restartRequest; split <;> simp

theorem readChannels_lowers : OwnerLowers readChannels := fun args s => .of_eq <| by
  unfold readChannels; repeat' split
  all_goals rfl

theorem readPack_lowers : OwnerLowers readPack := fun args s => .of_eq <| by
  unfold readPack; repeat' split
  all_goals rfl

theorem readAllocation_lowers : OwnerLowers readAllocation := fun args s => .of_eq <| by
  unfold readAllocation; split <;> rfl

theorem readFaults_lowers : OwnerLowers readFaults := fun args s => .of_eq <| by
  unfold readFaults; repeat' split
  all_goals rfl

theorem readKeymap_lowers : OwnerLowers readKeymap := fun args s => .of_eq <| by
  unfold readKeymap; split <;> rfl

theorem readTally_lowers : OwnerLowers readTally := fun args s => .of_eq <| by
  unfold readTally; split <;> rfl

theorem readFans_lowers : OwnerLowers readFans := fun args s => .of_eq <| by
  unfold readFans; split <;> rfl

theorem readStatus_lowers : OwnerLowers readStatus := fun args s => .of_eq <| by
  unfold readStatus; split <;> rfl

theorem readWhole_lowers (args data : List Byte) : s.ppc.Lowers (readWhole args data s).state.ppc :=
  .of_ite (.refl _) (.refl _)

theorem readLimits_lowers : OwnerLowers readLimits := fun args s => .of_eq <| by
  unfold readLimits; repeat' split
  all_goals rfl

theorem readProfiles_lowers : OwnerLowers readProfiles := fun args s => .of_eq <| by
  unfold readProfiles; repeat' split
  all_goals rfl

theorem readCurves_lowers : OwnerLowers readCurves := fun args s => .of_eq <| by
  unfold readCurves; repeat' split
  all_goals rfl

theorem readTranslation_lowers : OwnerLowers readTranslation := fun args s => .of_eq <| by
  unfold readTranslation; repeat' split
  all_goals rfl

theorem readTable_lowers : OwnerLowers readTable := fun _ _ =>
  .of_ite (.refl _) <| .of_ite (readWhole_lowers _ _) <| .of_ite (readLimits_lowers _ _) <|
  .of_ite (readProfiles_lowers _ _) <| .of_ite (readWhole_lowers _ _) <| .of_ite (readCurves_lowers _ _) <|
  .of_ite (readWhole_lowers _ _) <| .of_ite (readTranslation_lowers _ _) <| .of_ite (readWhole_lowers _ _) (.refl _)

theorem loadSchedule_lowers : OwnerLowers loadSchedule := fun args s => .of_eq <| by
  simp only [loadSchedule]; repeat' split
  all_goals rfl

theorem loadFanCurve_lowers : OwnerLowers loadFanCurve := fun args s => .of_eq <| by
  simp only [loadFanCurve, loadFanSet, loadFanConfig]; repeat' split
  all_goals simp

theorem loadPolicy_lowers : OwnerLowers loadPolicy := fun args s => .of_eq <| by
  simp only [loadPolicy]; repeat' split
  all_goals rfl

theorem loadKeyrow_lowers : OwnerLowers loadKeyrow := fun args s => .of_eq <| by
  unfold loadKeyrow; repeat' split
  all_goals rfl

theorem loadPassFilter_lowers : OwnerLowers loadPassFilter := fun args s => .of_eq <| by
  unfold loadPassFilter; repeat' split
  all_goals rfl

theorem setBatteryThresholds_lowers : OwnerLowers setBatteryThresholds := fun args s => .of_eq <| by
  simp only [setBatteryThresholds]; split <;> simp

theorem setHostTemps_lowers : OwnerLowers setHostTemps := fun args s => by
  simp only [setHostTemps]
  repeat' split
  exacts [.refl _, .refl _, .refl _, foldl_lowers (f := refreshSlot) (fun _ _ => .of_eq rfl) _ _]

theorem setFanOverride_lowers : OwnerLowers setFanOverride := fun args s => .of_eq <| by
  simp only [setFanOverride]; repeat' split
  all_goals simp

theorem setKeyDebounce_lowers : OwnerLowers setKeyDebounce := fun args s => .of_eq <| by
  simp only [setKeyDebounce]; split <;> simp

theorem setSwitchDebounce_lowers : OwnerLowers setSwitchDebounce := fun args s => .of_eq <| by
  simp only [setSwitchDebounce]; repeat' split
  all_goals simp

theorem setTelemetry_lowers : OwnerLowers setTelemetry := fun args s => .of_eq <| by
  simp only [setTelemetry]; repeat' split
  all_goals simp

/-! Requests that write PPC -/

/-- A cleared latch leaves the figures as they are (R73). -/
theorem clearLatches_lowers : s.ppc.Lowers (clearLatches s).ppc := by
  refine .of_charge (fun q => ?_) rfl rfl rfl
  have figures (c : Charge) : FiguresOk c → FiguresOk c.clearLatch := by
    unfold Charge.clearLatch; split <;> exact id
  cases q <;> exact figures _

theorem clearFaults_lowers : OwnerLowers clearFaults := fun args s => by
  unfold clearFaults
  split
  · exact .refl _
  · simp only [accept_state, clearAll, unlockFans_ppc]
    exact clearHeld_lowers.trans clearLatches_lowers

theorem loadProfile_lowers : OwnerLowers loadProfile := fun args s => by
  have load (i : Fin 4) (x : Profile) : s.ppc.Lowers (setProfile i x s).ppc := by
    refine .of_charge (fun q => ?_) rfl rfl rfl
    have figures (c : Charge) : FiguresOk c → FiguresOk (c.noteProfile i.val) := by
      unfold Charge.noteProfile; split <;> exact id
    cases q <;> exact figures _
  simp only [loadProfile]
  repeat' split
  exacts [.refl _, .refl _, .refl _, load _ _, .refl _, .refl _]

theorem loadAdapter_lowers : OwnerLowers loadAdapter := fun args s => by
  have load (i : Fin 8) (e : Option AdapterEntry) : s.ppc.Lowers (setAdapterEntry i e s).ppc :=
    .of_charge (fun _ => id) rfl rfl rfl
  unfold loadAdapter
  repeat' split
  exacts [.refl _, load _ _, load _ _, .refl _, .refl _]

theorem loadLimit_lowers : OwnerLowers loadLimit := fun args s => by
  obtain same | ⟨h, e, -, loaded⟩ := loadLimit_cases args s
  · exact .of_eq (by rw [same])
  · rw [loaded]; exact loadLimitEntry_lowers _ _

theorem restoreDefaults_lowers : OwnerLowers restoreDefaults := fun args s => by
  have profiles : s.ppc.Lowers (restoreProfiles s).ppc :=
    .of_charge (fun q => by cases q <;> exact id) rfl rfl rfl
  have adapters : s.ppc.Lowers (restoreAdapters s).ppc := .of_charge (fun _ => id) rfl rfl rfl
  have policy : s.ppc.Lowers (restorePolicy s).state.ppc := .of_eq (by unfold restorePolicy; split <;> rfl)
  exact .of_ite (.refl _) <| .of_ite (.refl _) <| .of_ite (.refl _) <| .of_ite (.refl _) <|
    .of_ite restoreLimits_lowers <| .of_ite profiles <| .of_ite adapters <| .of_ite (.refl _) <| .of_ite policy <|
    .of_ite (.refl _) (.refl _)

theorem setInputLimit_lowers : OwnerLowers setInputLimit := fun args s => by
  simp only [setInputLimit]
  repeat' split
  all_goals exact .of_charge (fun _ => id) rfl rfl rfl

theorem setEfficiency_lowers : OwnerLowers setEfficiency := fun args s => by
  simp only [setEfficiency]
  split <;> exact .of_charge (fun _ => id) rfl rfl rfl

/-- Boost turned off lowers both boost setpoints (R86). -/
theorem Ppc.withBoost_lowers (c : Ppc) (on : Bool) (floor : Nat) : c.Lowers (c.withBoost on floor) := by
  refine .of_setpoints (fun q => ?_) (fun _ => id) rfl rfl
  cases on with
  | true => exact .refl _
  | false => cases q <;> exact .noBoost _

theorem setBoost_lowers : OwnerLowers setBoost := fun args s => by
  simp only [setBoost]
  repeat' split
  exacts [.refl _, .refl _, s.ppc.withBoost_lowers _ _]

/-- A host inhibit turned on lowers the pack's charge setpoints (R74). -/
theorem Ppc.inhibitPack_lowers (c : Ppc) (on : Bool) (p : Pack) : c.Lowers (c.inhibitPack on p) := by
  have inhibit : c.Lowers { c with charge := c.charge.set p { c.charge.get p with inhibit := on } } := by
    refine .of_charge (fun q => ?_) rfl rfl rfl
    cases p <;> cases q <;> exact id
  cases on with
  | true => exact inhibit.trans (Ppc.zeroCharge_lowers _ p)
  | false => exact inhibit

theorem setChargeInhibit_lowers : OwnerLowers setChargeInhibit := fun args s => by
  have packs (on : Bool) (ps : List Pack) (c : Ppc) : c.Lowers (ps.foldl (fun c p => c.inhibitPack on p) c) := by
    induction ps generalizing c with
    | nil => exact .refl _
    | cons p ps ih => exact (c.inhibitPack_lowers on p).trans (ih _)
  simp only [setChargeInhibit]
  repeat' split
  exacts [.refl _, .refl _, packs _ _ _]

theorem releaseBay_lowers : OwnerLowers releaseBay := fun args s => by
  unfold releaseBay
  repeat' split
  exacts [.refl _, .refl _, setPending_lowers]

theorem bayCancel_lowers : OwnerLowers bayCancel := fun args s => by
  unfold bayCancel
  split
  · exact .refl _
  · exact clearPending_lowers

end Sys2Proof.Machine

namespace Sys2Proof.Machine

variable {s : State} {p : Pack}

/-! ## Every command but a pass lowers -/

/-- An outcome that lowers PPC as it stands in `s`. -/
def LowersTo (s : State) (r : Result) : Prop := ∀ t, r = .next t → s.ppc.Lowers t.ppc

theorem lowersTo_next {t : State} : LowersTo s (.next t) ↔ s.ppc.Lowers t.ppc :=
  ⟨fun h => h t rfl, fun h _ ht => by cases ht; exact h⟩

theorem lowersTo_request {n : Nat} {owner : List Byte → State → Answer} (h : OwnerLowers owner) :
    LowersTo s (.next (runRequest n owner s)) := by
  rw [lowersTo_next]
  obtain hw | ⟨args, tag, -, ha⟩ := runRequest_cases n owner s
  · exact .of_eq (by rw [hw])
  · rw [ha]
    exact h args (popRequest s)

/-- A command that acts only where a condition of its own holds, and then lowers. -/
theorem lowersTo_ite {c : Prop} [Decidable c] {t : State} (h : s.ppc.Lowers t.ppc) :
    LowersTo s (if c then .next t else .next s) := by
  split
  · exact lowersTo_next.2 h
  · exact lowersTo_next.2 (.refl _)

/-- A command that leaves PPC alone, as an outcome. -/
theorem LowersTo.of_eq {t : State} (h : t.ppc = s.ppc) : LowersTo s (.next t) := lowersTo_next.2 (.of_eq h)

/-- A reset sets all setpoints and figures to 0 (R58, R78, R100). -/
theorem execReset_lowers (rail : Option RailCause) (rstin prsA prsB : Bool) :
    LowersTo s (execReset rail rstin prsA prsB s) := by
  unfold execReset
  split
  · have figures : FiguresOk resetCharge := by decide
    have path (m : PathMode) : PathSetpointsOk m noSetpoints := ⟨fun _ => rfl, fun _ => rfl⟩
    refine lowersTo_next.2 ⟨fun q => ?_, fun q _ => ?_, fun q _ => ?_, fun _ _ => rfl⟩ <;> cases q
    exacts [.none _, .none _, figures, figures, path _, path _]
  · exact .of_eq rfl

theorem execConversionComplete_lowers (ch : Fin 16) (v : Int) : LowersTo s (execConversionComplete ch v s) := by
  unfold execConversionComplete
  split
  · refine lowersTo_ite (.trans ?_ (judgeSample_lowers _ _))
    exact .refl _
  · exact .of_eq rfl

theorem execPresenceActive_lowers : LowersTo s (execPresenceActive p s) := by
  simp only [execPresenceActive]; repeat' split
  all_goals exact .of_eq (by simp)

/-- A change of a port handed on (R42). -/
theorem portChanged_lowers {t : State} (h : t.ppc = s.ppc) : s.ppc.Lowers (portChanged t).ppc := by
  rw [portChanged_ppc]; exact .redecided (.of_eq h)

theorem execPackRemoval_lowers : LowersTo s (execPackRemoval p s) := by
  simp only [execPackRemoval]
  repeat' split
  exacts [.of_eq rfl, lowersTo_next.2 removePack_lowers, .of_eq rfl]

theorem execPackFrameError_lowers (x : LineFault) : LowersTo s (execPackFrameError p x s) := by
  cases x with
  | gap => exact .of_eq lineGap_ppc
  | bytes bs => exact lowersTo_next.2 (receivePack_lowers bs)

theorem execPackRequestTransmit_lowers : LowersTo s (execPackRequestTransmit p s) := by
  simp only [execPackRequestTransmit]; repeat' split
  all_goals exact .of_eq rfl

theorem execPackRequestTransmitted_lowers : LowersTo s (execPackRequestTransmitted p s) := by
  simp only [execPackRequestTransmitted]; split <;> exact .of_eq rfl

theorem execPassReplyQueued_lowers : LowersTo s (execPassReplyQueued p s) := by
  simp only [execPassReplyQueued]; repeat' split
  all_goals exact .of_eq rfl

theorem execLidHinge_lowers (i : LidHinge) : LowersTo s (execLidHingeDebounceComplete i s) := by
  simp only [execLidHingeDebounceComplete]; split <;> exact .of_eq (by simp)

theorem execPwrbtn_lowers : LowersTo s (execPwrbtnDebounceComplete s) := by
  unfold execPwrbtnDebounceComplete; split <;> exact .of_eq (by simp)

theorem execBaylatch_lowers : LowersTo s (execBaylatchDebounceComplete s) := by
  unfold execBaylatchDebounceComplete
  split
  · refine lowersTo_next.2 (.trans ?_ (bayLatchReported_lowers _))
    exact .refl _
  · exact .of_eq rfl

theorem execRetryKickEnd_lowers (f : Fan) : LowersTo s (execRetryKickEnd f s) := by
  simp only [execRetryKickEnd]; repeat' split
  all_goals exact .of_eq (by simp)

theorem execTachSilence_lowers (f : Fan) : LowersTo s (execTachSilenceTimeout f s) := by
  simp only [execTachSilenceTimeout]; repeat' split
  all_goals exact .of_eq (by simp)

theorem execServiceGap_lowers : LowersTo s (execServiceGapTimeout s) := by
  unfold execServiceGapTimeout framingError linkError; repeat' split
  all_goals exact .of_eq (by simp)

theorem execPass_lowers : LowersTo s (execPass s) := by
  unfold execPass
  split
  · exact .of_eq rfl
  · exact lowersTo_ite (.of_eq (passHead_ppc _))

/-- Every command but SWEEP_COMPLETION lowers the setpoints or leaves them (R98). -/
theorem exec_lowers {c : Instr} (hc : c ≠ .sweepCompletion) : LowersTo s (exec c s) := by
  cases c with
  | sweepCompletion => exact absurd rfl hc
  | reset rail rstin prsA prsB => exact execReset_lowers rail rstin prsA prsB
  | conversionComplete ch v => exact execConversionComplete_lowers ch v
  | tickExpiry raw => exact lowersTo_next.2 (tickState_lowers raw)
  | tachEdge f us => exact lowersTo_ite (.of_eq (fanEdge_ppc _ _))
  | sweepStart => exact lowersTo_ite (.of_eq rfl)
  | presenceActive p => exact execPresenceActive_lowers
  | presenceTimerExpiry p => exact lowersTo_ite (portChanged_lowers (by simp))
  | packRemoval p => exact execPackRemoval_lowers
  | silenceTimerExpiry p => exact lowersTo_ite (portChanged_lowers (by simp))
  | staleTimerExpiry p => exact lowersTo_ite (portChanged_lowers (by simp))
  | packTelemetryReceived p bs => exact lowersTo_next.2 (receivePack_lowers bs)
  | packReplyReceived p bs => exact lowersTo_next.2 (receivePack_lowers bs)
  | packFrameError p x => exact execPackFrameError_lowers x
  | packRequestTransmit p => exact execPackRequestTransmit_lowers
  | passTimerExpiry p => exact lowersTo_ite (.of_eq (resolveSlot_ppc _ _))
  | passReplyQueued p => exact execPassReplyQueued_lowers
  | chargeTimeout p => exact lowersTo_next.2 fireTimeout_lowers
  | scanPass image => exact lowersTo_ite (scanMatrix_lowers image)
  | initialTake i => exact lowersTo_ite (handInitial_lowers (s := setInput i _ s) i)
  | lidHingeDebounceComplete i => exact execLidHinge_lowers i
  | pwrbtnDebounceComplete => exact execPwrbtn_lowers
  | baylatchDebounceComplete => exact execBaylatch_lowers
  | powerButtonHold => exact lowersTo_ite (.of_eq (route_ppc _ _ _ _))
  | hold10sExpiry => exact lowersTo_ite (.of_eq (by simp))
  | fanEvaluation => exact lowersTo_ite (.of_eq (by simp))
  | kickEnd f => exact lowersTo_ite (.of_eq rfl)
  | retryKickEnd f => exact execRetryKickEnd_lowers f
  | tachSilenceTimeout f => exact execTachSilence_lowers f
  | hostTempStale i => exact lowersTo_ite (.of_eq (route_ppc _ _ _ _))
  | overrideExpiry => exact lowersTo_ite (.of_eq rfl)
  | bootTimeout => exact lowersTo_ite (.of_eq (by simp))
  | wakeTimeout => exact lowersTo_ite (.of_eq (by simp))
  | haltTimerExpiry => exact lowersTo_ite (.of_eq (by simp))
  | criticalGraceExpiry => exact lowersTo_ite (.of_eq (by simp))
  | telemetryPeriodExpiry => exact lowersTo_ite (.of_eq rfl)
  | serviceFrameReceived bs => exact lowersTo_next.2 (receiveService_lowers bs)
  | serviceFrameError bs => exact lowersTo_next.2 (receiveService_lowers bs)
  | serviceGapTimeout => exact execServiceGap_lowers
  | transmitStart => exact .of_eq startTransmit_ppc
  | transmitEnd => exact .of_eq endTransmit_ppc
  | unknownRequest => exact .of_eq answerUnknown_ppc
  | online => exact lowersTo_request onlineRequest_lowers
  | sleep => exact lowersTo_request sleepRequest_lowers
  | powerOff => exact lowersTo_request powerOffRequest_lowers
  | restartLink => exact lowersTo_request restartRequest_lowers
  | readChannels => exact lowersTo_request readChannels_lowers
  | readPack => exact lowersTo_request readPack_lowers
  | readAllocation => exact lowersTo_request readAllocation_lowers
  | readFaults => exact lowersTo_request readFaults_lowers
  | clearFaults => exact lowersTo_request clearFaults_lowers
  | readKeymap => exact lowersTo_request readKeymap_lowers
  | readTally => exact lowersTo_request readTally_lowers
  | readFans => exact lowersTo_request readFans_lowers
  | readStatus => exact lowersTo_request readStatus_lowers
  | loadProfile => exact lowersTo_request loadProfile_lowers
  | loadAdapter => exact lowersTo_request loadAdapter_lowers
  | loadLimit => exact lowersTo_request loadLimit_lowers
  | loadSchedule => exact lowersTo_request loadSchedule_lowers
  | loadFanCurve => exact lowersTo_request loadFanCurve_lowers
  | loadPolicy => exact lowersTo_request loadPolicy_lowers
  | loadKeyrow => exact lowersTo_request loadKeyrow_lowers
  | loadPassFilter => exact lowersTo_request loadPassFilter_lowers
  | readTable => exact lowersTo_request readTable_lowers
  | restoreDefaults => exact lowersTo_request restoreDefaults_lowers
  | setInputLimit => exact lowersTo_request setInputLimit_lowers
  | setEfficiency => exact lowersTo_request setEfficiency_lowers
  | setBoost => exact lowersTo_request setBoost_lowers
  | setChargeInhibit => exact lowersTo_request setChargeInhibit_lowers
  | setBatteryThresholds => exact lowersTo_request setBatteryThresholds_lowers
  | setHostTemps => exact lowersTo_request setHostTemps_lowers
  | setFanOverride => exact lowersTo_request setFanOverride_lowers
  | setKeyDebounce => exact lowersTo_request setKeyDebounce_lowers
  | setSwitchDebounce => exact lowersTo_request setSwitchDebounce_lowers
  | setTelemetry => exact lowersTo_request setTelemetry_lowers
  | releaseBay => exact lowersTo_request releaseBay_lowers
  | bayCancel => exact lowersTo_request bayCancel_lowers
  | pass => exact execPass_lowers
  | packRequestTransmitted p => exact execPackRequestTransmitted_lowers

/-! ## SWEEP_COMPLETION (R8, R97) -/

/-- No conversion of a sweep is left exactly when its fast channels and its chosen slow channel are done (R8). -/
theorem Sweep.next_eq_none_iff {w : Sweep} : w.next = none ↔ 8 ≤ w.fast ∧ (w.slot = none ∨ w.slotDone = true) := by
  unfold Sweep.next
  split
  · next h => simp [Nat.not_le.2 h]
  · next h => cases w.slotDone <;> simp [Nat.not_lt.1 h]

/-- The end of a pass at EVR leaves PPC alone (R178). -/
@[simp] theorem endOfPass_ppc : (endOfPass s).ppc = s.ppc := by
  unfold endOfPass; split <;> simp

/-- The bay examination leaves the allocation result (R55, R97). -/
theorem examineBay_alloc : (examineBay s).ppc.alloc = s.ppc.alloc := by
  simp only [examineBay, bayQuiet, bayRefuse]
  repeat' split
  all_goals simp [redecidePaths]

/-- A completion lowers, makes a pass, and lowers again, with the figures of the pass left to stand. -/
theorem completeAtPpc_passes (w : Sweep) (s : State) :
    ∃ u : State, s.ppc.Lowers u.ppc ∧ (allocationPass w u).ppc.Lowers (completeAtPpc w s).ppc ∧
      (completeAtPpc w s).ppc.alloc = passFigures u w := by
  refine ⟨phaseStep .b (phaseStep .a (examineAid (examineVad s))), ?_, ?_, ?_⟩
  · exact examineVad_lowers.trans (examineAid_lowers.trans (phaseStep_lowers.trans phaseStep_lowers))
  · rw [completeAtPpc, endOfPass_ppc]; exact examineBay_lowers
  · rw [completeAtPpc, endOfPass_ppc, examineBay_alloc]; rfl

/-- SWEEP_COMPLETION with every conversion done completes the sweep at PPC. -/
theorem exec_sweepCompletion_done {w : Sweep} {t : State} (h : SweepDone s w)
    (ht : exec .sweepCompletion s = .next t) : t.ppc = (completeAtPpc w s).ppc := by
  obtain ⟨hw, hdone⟩ := h
  simp only [exec, execSweepCompletion, hw, Sweep.next_eq_none_iff.2 hdone, if_true] at ht
  cases ht
  rfl

/-- SWEEP_COMPLETION before that changes nothing (log 7). -/
theorem exec_sweepCompletion_early {t : State} (h : ∀ w, ¬ SweepDone s w)
    (ht : exec .sweepCompletion s = .next t) : t = s := by
  change execSweepCompletion s = .next t at ht
  unfold execSweepCompletion at ht
  repeat' split at ht
  · next w hw hn => exact absurd ⟨hw, Sweep.next_eq_none_iff.1 hn⟩ (h w)
  all_goals cases ht; rfl

/-- A command that makes no pass lowers the setpoints or leaves them. -/
theorem exec_lowers_of_no_pass {c : Instr} {t : State} (h : exec c s = .next t)
    (hc : c ≠ .sweepCompletion ∨ ∀ w, ¬ SweepDone s w) : s.ppc.Lowers t.ppc := by
  by_cases e : c = .sweepCompletion
  · subst e
    exact .of_eq (by rw [exec_sweepCompletion_early (hc.resolve_left (not_not.2 rfl)) h])
  · exact exec_lowers e t h

/-- Every command keeps the law of the setpoints (R53, R54, R91, R94). -/
theorem exec_keeps_setpointLaw {c : Instr} {t : State} (hs : SetpointLaw s) (h : exec c s = .next t) :
    SetpointLaw t := by
  by_cases hc : c = .sweepCompletion ∧ ∃ w, SweepDone s w
  · obtain ⟨rfl, w, hw⟩ := hc
    obtain ⟨u, before, after, -⟩ := completeAtPpc_passes w s
    rw [← exec_sweepCompletion_done hw h] at after
    exact after.law (allocationPass_law w (before.law hs))
  · refine (exec_lowers_of_no_pass h ?_).law hs
    simpa only [not_and_or, not_exists] using hc

/-- What stands after a pass is within its bounds, with the figures it delivered (R89, R90, R92, R97). -/
theorem exec_pass_bounds {w : Sweep} {t : State} (hw : SweepDone s w) (h : exec .sweepCompletion s = .next t)
    (p : Pack) :
    (t.ppc.alloc.packs.get p).c ≤ 8064 ∧ OnGrid (t.ppc.alloc.packs.get p).b ∧
      PassBounds (t.ppc.alloc.packs.get p).c (t.ppc.alloc.packs.get p).b t.ppc.alloc.h (t.ppc.setpoints.get p) := by
  obtain ⟨u, -, after, figures⟩ := completeAtPpc_passes w s
  rw [← exec_sweepCompletion_done hw h] at after figures
  have written := (passSetpoints_bounds u p).lowered (after.setpoints p)
  rw [figures]
  have c : ((passFigures u w).packs.get p).c = chargeCap u p := by cases p <;> rfl
  have b : ((passFigures u w).packs.get p).b = boostCap u p := by cases p <;> rfl
  rw [c, b]
  exact ⟨chargeCap_le, boostCap_grid, written⟩

/-- Settles O55: every command but a pass lowers (`exec_lowers`), and what a pass writes is within its bounds
(`passSetpoints_bounds`) and keeps the law by the figures handed to it (`allocationPass_law`). -/
theorem setpointLawIsKept : Obligations.SetpointLawIsKept := by
  refine ⟨fun c s t hs h => exec_keeps_setpointLaw hs h, fun s t w hw h p => ?_, fun c s t h hc p => ?_⟩
  · obtain ⟨cap, grid, written⟩ := exec_pass_bounds hw h p
    exact ⟨cap, grid, written.charge, written.boost, written.boost_le, written.surplus, written.deficit⟩
  · obtain ⟨charge, boost⟩ := (exec_lowers_of_no_pass h hc).setpoints p
    exact ⟨charge.imp And.left And.left, charge.imp And.right And.right, boost⟩

end Sys2Proof.Machine


namespace Sys2Proof.Machine

/-- Settles O14: every command returns a channel from FAULT or HELD only as R24's last sentence says. -/
theorem faultLeavesOnlyByRequestOrReset : Obligations.FaultLeavesOnlyByRequestOrReset := exec_faultReturn

end Sys2Proof.Machine


namespace Sys2Proof.Machine

variable {s t u : State}

/-! ## The laws of the device, taken together

The statements on what every command keeps share one traversal of the commands: `Keeps l s t` says that a piece of the part
takes law `l` over from `s` to `t`, and every operation gets one lemma that holds for every law it keeps. -/

/-- The laws of section 0.6 in the pieces in which the operations keep them. `waiting`, `replies`, `link`
and those from `dark` on are not laws of the manual: the commands left waiting, a bound on the reply queue, what waits in
the request buffer and the reply queue, OFF under a legal policy, SWS but for its countdown, and figures that few commands
write. -/
inductive Law where
  | waiting (q : List Instr)
  | replies (k : Nat)
  | link (rq : List Request) (rs : List Reply)
  | packs
  | sweep
  | queue
  | fans
  | idleFans
  | keys
  | system
  | carried
  | drives
  | soc
  | paths
  | flags
  | dark
  | sampled (w : Sws)
  | inputLimit (n : Nat)
  | efficiency (n : Nat)
  | fastLimits (a b : Nat)

/-- R29, R96 and the ranges of R164: the adapter switch and LTR follow the action set and the throttle. -/
abbrev DrivesLaw (s : State) : Prop :=
  s.ppc.adapterSwitchOpen = s.lmt.actionSet.contains .inputOpen ∧
    (s.ppc.ltr = true ↔ s.ppc.throttle.state = .asserted ∨ s.ppc.throttle.state = .releasing ∨
      Action.throttle ∈ s.lmt.actionSet) ∧
    5 ≤ s.ssc.lowThreshold ∧ s.ssc.lowThreshold ≤ 50 ∧ 2 ≤ s.ssc.criticalThreshold ∧
    s.ssc.criticalThreshold < s.ssc.lowThreshold

/-- `FanLaw` with FAN_FULL taken as said, and not from the action set: what holds while a join of FAN_FULL is still to be
handed on (R27). -/
abbrev FanLawAt (full : Bool) (s : State) : Prop :=
  CurvesOk s.fnc ∧ FanOk s.ssc.mode full s.fnc.fans.one ∧ FanOk s.ssc.mode full s.fnc.fans.two ∧
    s.tmb.capture.one.running = decide (s.ssc.mode = .full) ∧ s.tmb.capture.two.running = decide (s.ssc.mode = .full)

def Law.holds : Law → State → Prop
  | .waiting q, s => s.pending = q
  | .replies k, s => s.slc.replies.length ≤ k
  | .link rq rs, s => s.slc.requests = rq ∧ untied s.slc.replies = rs
  | .packs, s => PackLaw s
  | .sweep, s => SweepLaw s
  | .queue, s => QueueLaw s
  | .fans, s => FanLaw s
  | .idleFans, s => FanLawAt false s
  | .keys, s => (KeyLaw s ∧ KeyRecordLaw s) ∧ QueueLaw s
  | .system, s => StateLaw s ∧ QueueLaw s
  | .carried, s => s.lmt.actionSet = s.lmt.carried
  | .drives, s => DrivesLaw s
  | .soc, s => s.ssc.combinedSoc = combinedSocOf s.ppt
  | .paths, s => s.ppc.path = ⟨pathOf s .a, pathOf s .b⟩
  | .flags, s => s.ssc.low = batteryLowHolds s ∧ s.ssc.critical = batteryCriticalHolds s
  | .dark, s => s.ssc.state = .off ∧ PolicyLegal s.evr
  | .sampled w, s => { s.sws with countdown := 0 } = w
  | .inputLimit n, s => s.ppc.iHL = n
  | .efficiency n, s => s.ppc.eta = n
  | .fastLimits a b, s => s.ppc.charge.a.fastLimit = a ∧ s.ppc.charge.b.fastLimit = b

/-- The laws that a decision of PPC or SSC brings about again after a change of what they read (R52, R161 to R163). -/
def Law.settled : Law → Bool
  | .soc | .paths | .flags => true
  | _ => false

/-- The law that names what waits in the request buffer and the reply queue. -/
def Law.linked : Law → Bool
  | .link _ _ => true
  | _ => false

/-- The laws that hold after every command: what the reply queue and the request buffer hold is left out, and the fans'
weaker law. -/
def Law.lasting : Law → Bool
  | .replies _ | .link _ _ | .idleFans => false
  | _ => true

/-- The commands that write what a law names: SWS, I_HL, the efficiency and the fast-charge limits in force. -/
def Law.writtenBy (c : Instr) : Law → Bool
  | .sampled _ =>
    match c with
    | .sweepStart | .conversionComplete _ _ | .sweepCompletion | .loadSchedule | .restoreDefaults | .reset _ _ _ _ => true
    | _ => false
  | .inputLimit _ =>
    match c with
    | .setInputLimit | .reset _ _ _ _ => true
    | _ => false
  | .efficiency _ =>
    match c with
    | .setEfficiency | .reset _ _ _ _ => true
    | _ => false
  | .fastLimits _ _ =>
    match c with
    | .sweepCompletion | .reset _ _ _ _ => true
    | _ => false
  | _ => false

/-- The law of the figures that a phase step writes. -/
def Law.stepped : Law → Bool
  | .fastLimits _ _ => true
  | _ => false

theorem Law.stepped_of_writtenBy {l : Law} (h : l.writtenBy .sweepCompletion = false) : l.stepped = false := by
  cases l with
  | fastLimits a b => cases h
  | _ => rfl

/-- The law that names SWS but for its countdown. -/
def Law.sampling : Law → Bool
  | .sampled _ => true
  | _ => false

theorem Law.sampling_of_writtenBy {l : Law} {c : Instr} (h : l.writtenBy c = false)
    (hc : ∀ w, (Law.sampled w).writtenBy c = true) : l.sampling = false := by
  cases l with
  | sampled w => rw [hc] at h; cases h
  | _ => rfl

theorem Law.linked_of_lasting {l : Law} (h : l.lasting = true) : l.linked = false := by
  cases l with
  | link _ _ => cases h
  | _ => rfl

/-- `ProtectionLaw` and `BatteryLaw` are five of the laws. -/
theorem protection_iff :
    ProtectionLaw s ∧ BatteryLaw s ↔
      Law.holds .carried s ∧ Law.holds .drives s ∧ Law.holds .soc s ∧ Law.holds .paths s ∧ Law.holds .flags s := by
  simp only [Law.holds, ProtectionLaw, BatteryLaw, DrivesLaw]
  tauto

/-- What takes `s` to `t` keeps a law. -/
def Keeps (l : Law) (s t : State) : Prop := l.holds s → l.holds t

variable {l : Law}

theorem Keeps.refl (l : Law) (s : State) : Keeps l s s := id

theorem Keeps.trans (h : Keeps l s t) (k : Keeps l t u) : Keeps l s u := k ∘ h

/-- A fold of operations that keep a law keeps it. -/
theorem Keeps.foldl {α : Type} {f : State → α → State} (h : ∀ s a, Keeps l s (f s a)) (as : List α) (s : State) :
    Keeps l s (as.foldl f s) := by
  induction as generalizing s with
  | nil => exact id
  | cons a as ih => exact (h s a).trans (ih _)

theorem Keeps.ite {p : Prop} [Decidable p] (h : p → Keeps l s t) (k : ¬ p → Keeps l s u) :
    Keeps l s (if p then t else u) := by
  split
  · exact h ‹_›
  · exact k ‹_›

/-! ## The event queues (R168, R173, R175) -/

/-- EVR's part of `QueueLaw`. -/
abbrev EvrOk (e : Evr) : Prop :=
  PolicyLegal e ∧ (e.urgent.map fun r => r.code).Nodup ∧ (urgentCodes e.policy e.urgent).length ≤ 8 ∧
    e.normal.length ≤ 32 ∧ (e.normalState = .opened → e.discarded = 0 ∧ e.keyMark = false)

theorem queueLaw_iff :
    QueueLaw s ↔ EvrOk s.evr ∧ s.slc.requests.length ≤ 4 ∧ s.slc.replies.length ≤ 4 := by
  simp only [QueueLaw, EvrOk]
  tauto

theorem placeUrgent_codes (q : List EventRecord) (r : EventRecord) :
    (placeUrgent q r).map (fun x => x.code) =
      if r.code ∈ q.map (fun x => x.code) then q.map fun x => x.code else q.map (fun x => x.code) ++ [r.code] := by
  have any_iff : q.any (fun x => decide (x.code = r.code)) = true ↔ r.code ∈ q.map fun x => x.code := by simp
  unfold placeUrgent
  split <;> rename_i h
  · rw [if_pos (any_iff.1 h), List.map_map]
    refine List.map_congr_left fun x _ => ?_
    simp only [Function.comp_apply]
    split <;> rfl
  · rw [if_neg (mt any_iff.2 h), List.map_append]
    rfl

theorem placeUrgent_nodup {q : List EventRecord} (h : (q.map fun x => x.code).Nodup) (r : EventRecord) :
    ((placeUrgent q r).map fun x => x.code).Nodup := by
  rw [placeUrgent_codes]
  split
  · exact h
  · next hn => exact List.nodup_append.2 ⟨h, List.nodup_singleton _, fun _ hx _ hy => by
      rintro rfl; exact hn (List.mem_singleton.1 hy ▸ hx)⟩

theorem mem_urgentCodes {p : Table Policy 35} {q : List EventRecord} {c : EventCode} :
    c ∈ urgentCodes p q ↔ (c ≠ .gap ∧ (p.get c.idx).cls = .urgent) ∨ c ∈ q.map fun x => x.code := by
  simp [urgentCodes, mem_allCodes]

/-- The codes counted by check 4 of R170 stay the same when the records in the queue have the same codes. -/
theorem urgentCodes_congr {p p' : Table Policy 35} {q q' : List EventRecord}
    (h : ∀ c, c ∈ urgentCodes p q ↔ c ∈ urgentCodes p' q') : urgentCodes p q = urgentCodes p' q' := by
  refine List.filter_congr fun c hc => ?_
  have := h c
  simp only [urgentCodes, List.mem_filter, hc, true_and] at this
  exact Bool.eq_iff_iff.2 this

/-- A record of a code whose policy is URGENT adds no code to those that may stand in the queue (R170, R177). -/
theorem urgentCodes_placeUrgent {p : Table Policy 35} {q : List EventRecord} {r : EventRecord}
    (hg : r.code ≠ .gap) (hc : (p.get r.code.idx).cls = .urgent) :
    urgentCodes p (placeUrgent q r) = urgentCodes p q := by
  refine urgentCodes_congr fun c => ?_
  rw [mem_urgentCodes, mem_urgentCodes, placeUrgent_codes]
  split
  · rfl
  · simp only [List.mem_append, List.mem_singleton]
    constructor
    · rintro (h | h | rfl)
      · exact .inl h
      · exact .inr h
      · exact .inl ⟨hg, hc⟩
    · rintro (h | h)
      · exact .inl h
      · exact .inr (.inl h)

theorem Evr.placeNormal_urgent (e : Evr) (r : NormalRecord) : (e.placeNormal r).urgent = e.urgent := by
  unfold Evr.placeNormal; cases e.normalState <;> simp only; split <;> rfl

/-- An OPEN queue with room takes the record (R175). -/
theorem Evr.placeNormal_room {e : Evr} (ho : e.normalState = .opened) (hl : e.normal.length < 32) (r : NormalRecord) :
    e.placeNormal r = { e with normal := e.normal ++ [r] } := by
  rw [Evr.placeNormal, ho]; exact if_pos hl

/-- An OPEN queue without room discards the record and is OVERFLOWED (R175). -/
theorem Evr.placeNormal_full {e : Evr} (ho : e.normalState = .opened) (hl : ¬ e.normal.length < 32)
    (r : NormalRecord) :
    e.placeNormal r = { e with normalState := .overflowed, discarded := 1, keyMark := r.isKey } := by
  rw [Evr.placeNormal, ho]; exact if_neg hl

/-- An OVERFLOWED queue discards the record (R175). -/
theorem Evr.placeNormal_overflowed {e : Evr} (ho : e.normalState = .overflowed) (r : NormalRecord) :
    e.placeNormal r = { e with discarded := sat255 e.discarded, keyMark := e.keyMark || r.isKey } := by
  rw [Evr.placeNormal, ho]

theorem evrOk_placeNormal {e : Evr} (h : EvrOk e) (r : NormalRecord) : EvrOk (e.placeNormal r) := by
  obtain ⟨legal, nodup, codes, length, opened⟩ := h
  cases hs : e.normalState with
  | opened =>
    by_cases hl : e.normal.length < 32
    · rw [Evr.placeNormal_room hs hl]
      refine ⟨legal, nodup, codes, ?_, opened⟩
      simp only [List.length_append, List.length_singleton]; omega
    · rw [Evr.placeNormal_full hs hl]
      exact ⟨legal, nodup, codes, length, fun c => by cases c⟩
  | overflowed =>
    rw [Evr.placeNormal_overflowed hs]
    exact ⟨legal, nodup, codes, length, fun c => by rw [hs] at c; cases c⟩

theorem evrOk_take {e : Evr} (h : EvrOk e) (c : EventCode) (n : Nat) (v : Int) (a : Bool) (now : Stamp) :
    EvrOk (e.take c n v a now) := by
  have tallied : EvrOk (e.addTally c) := h
  unfold Evr.take Evr.place
  cases hc : (e.policyOf c).cls with
  | none => exact tallied
  | normal => exact evrOk_placeNormal tallied _
  | urgent =>
    obtain ⟨legal, nodup, codes, length, opened⟩ := tallied
    have notGap : c ≠ .gap := by rintro rfl; simp [Evr.policyOf] at hc
    have urgent : (e.policy.get c.idx).cls = .urgent := by simpa [Evr.policyOf, notGap] using hc
    refine ⟨legal, placeUrgent_nodup nodup _, ?_, length, opened⟩
    rwa [urgentCodes_placeUrgent notGap urgent]

theorem evrOk_placeKeys {e : Evr} (h : EvrOk e) (rs : List KeyRecord) : EvrOk (placeKeys rs e) := by
  induction rs generalizing e with
  | nil => exact h
  | cons r rs ih => exact ih (evrOk_placeNormal h _)

/-- What an event leaves at EVR: it is tallied and placed, and so is the STATE_CHANGE of a start or wake (R168). -/
theorem route_evr (c : EventCode) (n : Nat) (v : Int) (s : State) :
    (route c n v s).evr = s.evr.take c n v false s.tmb.ms ∨
      ∃ new : SysState, (route c n v s).evr =
        (s.evr.take c n v true s.tmb.ms).take .stateChange 0 new.num false s.tmb.ms := by
  unfold route
  split
  · right
    unfold sscAct
    split
    · exact ⟨.booting, by simp only [moveOnEvent, moveMode_evr,
        handMove_evr _ _ (show SysState.booting ≠ .off by decide)]; rfl⟩
    · exact ⟨.waking, by simp only [moveOnEvent, moveMode_evr,
        handMove_evr _ _ (show SysState.waking ≠ .off by decide)]; rfl⟩
  · exact .inl rfl

theorem evrOk_route (h : EvrOk s.evr) (c : EventCode) (n : Nat) (v : Int) : EvrOk (route c n v s).evr := by
  obtain e | ⟨new, e⟩ := route_evr c n v s
  · rw [e]; exact evrOk_take h ..
  · rw [e]; exact evrOk_take (evrOk_take h ..) ..

end Sys2Proof.Machine


namespace Sys2Proof.Machine

variable {s : State} {e : Evr} {p : Fin 144} {a b : Bool}

/-! ## Key records in the normal queue (R114 to R117) -/

/-- What a record does to the segment after the last GAP with the key mark. -/
def segmentStep (acc : List KeyRecord) (r : NormalRecord) : List KeyRecord :=
  match r with
  | .key k => acc ++ [k]
  | .event e => if e.code = .gap ∧ 256 ≤ e.value then [] else acc

theorem keySegment_append (q : List NormalRecord) (r : NormalRecord) :
    keySegment (q ++ [r]) = segmentStep (keySegment q) r := by
  simp only [keySegment, List.foldl_append, List.foldl_cons, List.foldl_nil]
  rfl

/-- The segment of the rest of a queue is the end of the whole queue's. -/
theorem foldl_segmentStep_suffix (q : List NormalRecord) {x y : List KeyRecord} (h : x <:+ y) :
    q.foldl segmentStep x <:+ q.foldl segmentStep y := by
  induction q generalizing x y with
  | nil => exact h
  | cons r q ih =>
    refine ih ?_
    cases r with
    | key k =>
      obtain ⟨z, rfl⟩ := h
      exact ⟨z, (List.append_assoc ..).symm⟩
    | event e =>
      simp only [segmentStep]
      split
      · exact List.suffix_rfl
      · exact h

theorem keySegment_tail_suffix (q : List NormalRecord) : keySegment q.tail <:+ keySegment q := by
  cases q with
  | nil => exact List.suffix_rfl
  | cons r q => exact foldl_segmentStep_suffix q (List.nil_suffix)

theorem keyActions_tail_suffix (q : List NormalRecord) (p : Fin 144) : keyActions q.tail p <:+ keyActions q p := by
  obtain ⟨z, hz⟩ := keySegment_tail_suffix q
  rw [keyActions, keyActions, ← hz, List.filter_append, List.map_append]
  exact List.suffix_append ..

theorem keyActions_append_event (q : List NormalRecord) (r : EventRecord) :
    keyActions (q ++ [.event r]) p = if r.code = .gap ∧ 256 ≤ r.value then [] else keyActions q p := by
  simp only [keyActions, keySegment_append, segmentStep]
  split <;> rfl

theorem keyActions_append_key (q : List NormalRecord) (k : KeyRecord) :
    keyActions (q ++ [.key k]) p = keyActions q p ++ if k.position = p then [k.release] else [] := by
  simp only [keyActions, keySegment_append, segmentStep, List.filter_append, List.map_append]
  split <;> simp_all

theorem alternates_cons (x : Bool) (xs : List Bool) :
    alternates (x :: xs) = true ↔ (∀ y ∈ xs.head?, x ≠ y) ∧ alternates xs = true := by
  cases xs <;> simp [alternates]

theorem alternates_append_singleton (xs : List Bool) (b : Bool) :
    alternates (xs ++ [b]) = true ↔ alternates xs = true ∧ ∀ x ∈ xs.getLast?, x ≠ b := by
  induction xs with
  | nil => simp [alternates]
  | cons x xs ih =>
    rw [List.cons_append, alternates_cons, alternates_cons, ih]
    cases xs <;> simp [alternates, and_assoc]

theorem alternates_suffix {xs ys : List Bool} (h : xs <:+ ys) (hy : alternates ys = true) : alternates xs = true := by
  obtain ⟨z, rfl⟩ := h
  induction z with
  | nil => exact hy
  | cons x z ih => exact ih ((alternates_cons x _).1 hy).2

/-- The law of R115 at one position, `a` telling whether the position is announced. -/
abbrev KeyOk (e : Evr) (p : Fin 144) (a : Bool) : Prop :=
  alternates (keyActions e.normal p) = true ∧
    (e.keyMark = false → ∀ x ∈ (keyActions e.normal p).getLast?, x = !a)

theorem keyRecordLaw_iff :
    KeyRecordLaw s ↔ ∀ p, KeyOk s.evr p (s.kms.positions.get p).announced ∧
      ((s.kms.positions.get p).announced = true →
        (s.kms.positions.get p).state = .down ∨ (s.kms.positions.get p).state = .releaseDebounce) := by
  simp only [KeyRecordLaw, KeyOk, and_assoc]

/-- An empty segment meets the law, whatever is announced. -/
theorem keyOk_of_nil (h : keyActions e.normal p = []) : KeyOk e p a := by simp [KeyOk, h, alternates]

/-- An event that is no GAP leaves the law as it stands. -/
theorem KeyOk.placeEvent (ok : EvrOk e) (h : KeyOk e p a) {r : EventRecord} (hr : r.code ≠ .gap) :
    KeyOk (e.placeNormal (.event r)) p a := by
  obtain ⟨-, -, -, -, opened⟩ := ok
  cases hs : e.normalState with
  | opened =>
    by_cases hl : e.normal.length < 32
    · rw [Evr.placeNormal_room hs hl, KeyOk, keyActions_append_event, if_neg fun c => hr c.1]
      exact h
    · rw [Evr.placeNormal_full hs hl]
      exact ⟨h.1, fun _ => h.2 (opened hs).2⟩
  | overflowed =>
    rw [Evr.placeNormal_overflowed hs]
    exact ⟨h.1, fun c => h.2 (Bool.or_eq_false_iff.1 c).1⟩

theorem KeyOk.take (ok : EvrOk e) (h : KeyOk e p a) {c : EventCode} (hc : c ≠ .gap) (n : Nat) (v : Int) (x : Bool)
    (now : Stamp) : KeyOk (e.take c n v x now) p a := by
  unfold Evr.take Evr.place
  cases (e.policyOf c).cls with
  | none => exact h
  | normal => exact KeyOk.placeEvent (e := e.addTally c) ok h hc
  | urgent => exact h

/-- A key record of another position leaves the law as it stands. -/
theorem KeyOk.placeOther (h : KeyOk e p a) {k : KeyRecord} (hk : k.position ≠ p) :
    KeyOk (e.placeNormal (.key k)) p a := by
  cases hs : e.normalState with
  | opened =>
    by_cases hl : e.normal.length < 32
    · rw [Evr.placeNormal_room hs hl, KeyOk, keyActions_append_key, if_neg hk, List.append_nil]
      exact h
    · rw [Evr.placeNormal_full hs hl]
      exact ⟨h.1, fun c => by cases c⟩
  | overflowed =>
    rw [Evr.placeNormal_overflowed hs]
    exact ⟨h.1, fun c => by cases (Bool.or_eq_false_iff.1 c).2⟩

/-- A PRESS of a position not announced, or a RELEASE of an announced one, keeps the law with what it leaves announced
where the queue accepts it (R114, R115). -/
theorem KeyOk.placeKey (ok : EvrOk e) {k : KeyRecord} (h : KeyOk e k.position k.release)
    (hb : e.accepts = true → b = !k.release) : KeyOk (e.placeNormal (.key k)) k.position b := by
  obtain ⟨-, -, -, -, opened⟩ := ok
  cases hs : e.normalState with
  | opened =>
    by_cases hl : e.normal.length < 32
    · obtain rfl := hb (by simp [Evr.accepts, hs, hl])
      rw [Evr.placeNormal_room hs hl, KeyOk, keyActions_append_key, if_pos rfl, alternates_append_singleton]
      refine ⟨⟨h.1, fun x hx e => ?_⟩, fun _ => by simp⟩
      have := h.2 (opened hs).2 x hx
      rw [e] at this
      cases hr : k.release <;> rw [hr] at this <;> cases this
    · rw [Evr.placeNormal_full hs hl]
      exact ⟨h.1, fun c => by cases c⟩
  | overflowed =>
    rw [Evr.placeNormal_overflowed hs]
    exact ⟨h.1, fun c => by cases (Bool.or_eq_false_iff.1 c).2⟩

/-- The RELEASE records of a run of announced positions, each once, keep the law with those positions no longer
announced (R117). -/
theorem keyOk_placeKeys (r : Fin 144 → KeyRecord) (hr : ∀ p, (r p).position = p ∧ (r p).release = true)
    (ps : List (Fin 144)) : ∀ {e : Evr} {a : Fin 144 → Bool}, ps.Nodup → EvrOk e → (∀ p ∈ ps, a p = true) →
      (∀ p, KeyOk e p (a p)) → ∀ p, KeyOk (placeKeys (ps.map r) e) p (if p ∈ ps then false else a p) := by
  induction ps with
  | nil => exact fun _ _ _ h p => h p
  | cons q ps ih =>
    intro e a nodup ok ann h p
    obtain ⟨hq, nodup⟩ := List.nodup_cons.1 nodup
    have next : ∀ p, KeyOk (e.placeNormal (.key (r q))) p (if p = q then false else a p) := fun p => by
      obtain ⟨hpos, hrel⟩ := hr q
      split
      · next hp =>
        subst hp
        have := KeyOk.placeKey (k := r p) (b := false) ok (by rw [hpos, hrel]; simpa [ann p] using h p) (by simp [hrel])
        rwa [hpos] at this
      · next hp => exact (h p).placeOther (by rw [hpos]; exact fun c => hp c.symm)
    have := ih (e := e.placeNormal (.key (r q))) (a := fun p => if p = q then false else a p) nodup
      (evrOk_placeNormal ok _) (fun p hp => by
        have : p ≠ q := fun c => hq (c ▸ hp)
        simp [this, ann p (List.mem_cons_of_mem _ hp)]) next p
    simp only [List.mem_cons]
    by_cases hp : p ∈ ps
    · simpa [hp, placeKeys] using this
    · simpa [hp, placeKeys] using this

/-- Taking the head of the normal queue keeps the law; the GAP that a take may append carries the key mark only where
every announced mark is cleared with it (R116, R176). -/
theorem KeyOk.afterNormalTake (h : KeyOk e p a) (now : Stamp) :
    KeyOk (e.afterNormalTake now) p (if e.gapDue && e.keyMark then false else a) := by
  have tail : KeyOk { e with normal := e.normal.tail } p a := by
    have suffix := keyActions_tail_suffix e.normal p
    refine ⟨alternates_suffix suffix h.1, fun hm x hx => h.2 hm x ?_⟩
    obtain ⟨z, hz⟩ := suffix
    rw [← hz, List.getLast?_append]
    simp only [Option.mem_def] at hx ⊢
    rw [hx]; rfl
  unfold Evr.afterNormalTake
  cases hd : e.gapDue with
  | false => simpa using tail
  | true =>
    simp only [if_true, Bool.true_and]
    by_cases hg : 256 ≤ (gapRecord e now).value
    · refine keyOk_of_nil ?_
      rw [keyActions_append_event, if_pos ⟨rfl, hg⟩]
    · have hm : e.keyMark = false := by
        refine Bool.eq_false_iff.2 fun hm => hg ?_
        simp only [gapRecord, hm, Bool.toNat_true]; omega
      rw [KeyOk, keyActions_append_event, if_neg fun c => hg c.2, hm]
      exact ⟨tail.1, fun _ => tail.2 hm⟩

end Sys2Proof.Machine


namespace Sys2Proof.Machine

variable {s t : State} {l : Law}

/-! ## Blocks left alone -/

/-- Everything that the laws of ports, sweep, protection and battery read is left alone. -/
structure SameBlocks (s t : State) : Prop where
  lmt : t.lmt = s.lmt
  ppt : t.ppt = s.ppt
  ppc : t.ppc = s.ppc
  pending : t.pending = s.pending
  slc : t.slc = s.slc
  latest : t.sws.latest = s.sws.latest
  schedule : t.sws.schedule = s.sws.schedule
  counter : t.sws.counter = s.sws.counter
  sweep : t.sws.sweep = s.sws.sweep
  low : t.ssc.low = s.ssc.low
  critical : t.ssc.critical = s.ssc.critical
  soc : t.ssc.combinedSoc = s.ssc.combinedSoc
  lowThreshold : t.ssc.lowThreshold = s.ssc.lowThreshold
  criticalThreshold : t.ssc.criticalThreshold = s.ssc.criticalThreshold

/-- The laws that an event or a move of the system state can touch. -/
def Law.moving : Law → Bool
  | .queue | .fans | .idleFans | .keys | .system | .dark => true
  | _ => false

theorem pathOf_congr {p : Pack} (hl : t.lmt = s.lmt) (ht : t.ppt = s.ppt) (hc : t.ppc = s.ppc) :
    pathOf t p = pathOf s p := by
  cases s; cases t; cases hl; cases ht; cases hc; rfl

theorem SameBlocks.keeps (h : SameBlocks s t) (hl : l.moving = false) : Keeps l s t := by
  cases l with
  | waiting q => exact h.pending.trans
  | replies k => simp only [Keeps, Law.holds, h.slc, imp_self]
  | link rq rs => simp only [Keeps, Law.holds, h.slc, imp_self]
  | packs => simp only [Keeps, Law.holds, PackLaw, h.ppt, imp_self]
  | sweep => simp only [Keeps, Law.holds, SweepLaw, h.schedule, h.counter, h.sweep, imp_self]
  | carried => simp only [Keeps, Law.holds, h.lmt, imp_self]
  | drives => simp only [Keeps, Law.holds, DrivesLaw, h.lmt, h.ppc, h.lowThreshold, h.criticalThreshold, imp_self]
  | soc => simp only [Keeps, Law.holds, h.soc, h.ppt, imp_self]
  | paths => simp only [Keeps, Law.holds, pathOf_congr h.lmt h.ppt h.ppc, h.ppc, imp_self]
  | flags =>
    simp only [Keeps, Law.holds, batteryLowHolds, batteryCriticalHolds, adapterAway, h.lmt, h.ppc, h.low, h.critical,
      h.soc, h.lowThreshold, h.criticalThreshold, imp_self]
  | sampled w =>
    simp only [Keeps, Law.holds, h.latest, h.schedule, h.counter, h.sweep, imp_self]
  | inputLimit n | efficiency n | fastLimits a b => simp only [Keeps, Law.holds, h.ppc, imp_self]
  | queue | fans | idleFans | keys | system | dark => cases hl

/-! ## The part mode at the fans (R149) -/

/-- Entry to FULL at one fan. -/
theorem FanOk.wakeFull {m : PartMode} {full : Bool} {f : FanState} (h : FanOk m full f) :
    FanOk .full full f.wakeFull := by
  obtain ⟨kick, retry, lockout, other, driven, -⟩ := h
  unfold FanState.wakeFull
  split
  · exact ⟨kick, retry, lockout, other, driven, nofun⟩
  · exact ⟨kick, retry, lockout, other, driven, nofun⟩

/-- Entry to QUIET at one fan, FAN_FULL being in the action set where the fan is held to it. -/
theorem FanOk.quiet {m : PartMode} {full acts : Bool} {f : FanState} (h : FanOk m full f)
    (ha : full = true → acts = true) : FanOk .quiet full (f.quiet acts) := by
  obtain ⟨kick, retry, lockout, other, driven, -⟩ := h
  have driven' : full = true → f.state ≠ .stallLockout → f.demand = 1000 := fun hf hs => (driven hf hs).1
  cases hs : f.state <;> cases full <;> cases acts <;>
    simp_all [FanState.quiet, FanState.quietDrive, FanOk, FanState.drive]

variable {full : Bool}

theorem setMode_keeps_fansAt (m : PartMode) (ha : full = true → s.lmt.actionSet.contains .fanFull = true)
    (h : FanLawAt full s) : FanLawAt full (setMode m s) := by
  unfold setMode
  split
  · exact h
  · obtain ⟨curves, one, two, -, -⟩ := h
    cases m with
    | full => exact ⟨curves, one.wakeFull, two.wakeFull, rfl, rfl⟩
    | quiet => exact ⟨curves, one.quiet ha, two.quiet ha, rfl, rfl⟩

theorem moveMode_keeps_fansAt (old new : SysState) (ha : full = true → s.lmt.actionSet.contains .fanFull = true)
    (h : FanLawAt full s) : FanLawAt full (moveMode old new s) := by
  unfold moveMode
  split
  · split
    · exact h
    · exact setMode_keeps_fansAt _ ha h
  · split
    · exact setMode_keeps_fansAt _ ha h
    · exact h

/-! ## SSC acting on an event (R154, R155) -/

theorem moveOnEvent_evr {n : SysState} (hn : n ≠ .off) :
    (moveOnEvent n s).evr = s.evr.take .stateChange 0 n.num false s.tmb.ms := by
  simp only [moveOnEvent, moveMode_evr, handMove_evr _ _ hn]
  rfl

theorem moveOnEvent_keeps_fansAt {n : SysState} (hn : n ≠ .off)
    (ha : full = true → s.lmt.actionSet.contains .fanFull = true) (h : FanLawAt full s) :
    FanLawAt full (moveOnEvent n s) := by
  refine moveMode_keeps_fansAt _ _ (by rwa [handMove_lmt _ _ hn]) ?_
  have : FanLawAt full (record .stateChange 0 n.num false (driveState n s)) := h
  rw [FanLawAt, handMove_fnc _ _ hn, handMove_ssc _ _ hn, handMove_tmb _ _ hn]
  exact this

/-- A start from OFF at SSC: SYSEN, the boot timer, FULL and the wake cause (R154). -/
theorem sscAct_ssc_of_off (c : EventCode) (h : s.ssc.state = .off) :
    (sscAct c s).ssc =
      { s.ssc with
        state := .booting
        sysen := true
        wake := false
        bootTimer := some 30000
        wakeCause := c.num
        mode := .full } := by
  simp only [sscAct, h, if_true, moveOnEvent, moveMode, reduceCtorEq, if_false, setMode_ssc,
    handMove_ssc _ _ (show SysState.booting ≠ .off by decide), record_ssc]
  rfl

/-- A wake from STANDBY at SSC: WAKE, the wake timer and the wake cause (R155). -/
theorem sscAct_ssc_of_standby (c : EventCode) (h : s.ssc.state = .standby) :
    (sscAct c s).ssc =
      { s.ssc with state := .waking, sysen := true, wake := true, wakeTimer := some 10000, wakeCause := c.num } := by
  simp only [sscAct, h, moveOnEvent, moveMode, reduceCtorEq, if_false,
    handMove_ssc _ _ (show SysState.waking ≠ .off by decide), record_ssc]
  rfl

/-- A start at KMS: the scanner starts unless the keyboard is gated (R103). -/
theorem sscAct_kms_of_off (c : EventCode) (h : s.ssc.state = .off) :
    (sscAct c s).kms = if s.kms.gated then s.kms else s.kms.started := by
  simp only [sscAct, h, if_true, moveOnEvent, moveMode_kms, handMove, reduceCtorEq, if_false, record_kms, driveState_kms]
  split <;> rfl

/-- A wake at KMS: the next tick brings a scan pass (R102). -/
theorem sscAct_kms_of_standby (c : EventCode) (h : s.ssc.state = .standby) :
    (sscAct c s).kms = { s.kms with countdown := s.kms.countdown.map (min · 1) } := by
  simp [sscAct, h, moveOnEvent, handMove]

theorem sscAct_evr (c : EventCode) :
    ∃ new : SysState, (sscAct c s).evr = s.evr.take .stateChange 0 new.num false s.tmb.ms := by
  unfold sscAct
  split
  · exact ⟨_, moveOnEvent_evr (by decide)⟩
  · exact ⟨_, moveOnEvent_evr (by decide)⟩

theorem sscAct_keeps_fansAt (c : EventCode) (ha : full = true → s.lmt.actionSet.contains .fanFull = true)
    (h : FanLawAt full s) : FanLawAt full (sscAct c s) := by
  unfold sscAct
  split
  · exact moveOnEvent_keeps_fansAt (s := { s with ssc := { s.ssc with wakeCause := c.num } }) (by decide) ha h
  · exact moveOnEvent_keeps_fansAt (s := { s with ssc := { s.ssc with wakeCause := c.num } }) (by decide) ha h

theorem sscAct_keeps_fans (c : EventCode) (h : FanLaw s) : FanLaw (sscAct c s) := by
  rw [FanLaw, sscAct_lmt]
  exact sscAct_keeps_fansAt c id h

/-- Records of the normal queue that leave the law of key records as it stands. -/
theorem keyRecordLaw_of_take (ok : EvrOk s.evr) (h : KeyRecordLaw s) {c : EventCode} (hc : c ≠ .gap) {n : Nat} {v : Int}
    {x : Bool} {now : Stamp} (he : t.evr = s.evr.take c n v x now) (hp : t.kms.positions = s.kms.positions) :
    KeyRecordLaw t := by
  rw [keyRecordLaw_iff] at h ⊢
  intro p
  rw [he, hp]
  exact ⟨(h p).1.take ok hc n v x now, (h p).2⟩

theorem sscAct_keeps_keyLaw (c : EventCode) (hs : s.ssc.state = .off ∨ s.ssc.state = .standby) (h : KeyLaw s) :
    KeyLaw (sscAct c s) := by
  obtain ⟨gate, stopped, runs, first, exited⟩ := h
  obtain hs | hs := hs
  · obtain ⟨count, fp⟩ := stopped (.inl hs)
    simp only [KeyLaw, ScannerStopped, sscAct_ssc_of_off c hs, sscAct_kms_of_off c hs, sscAct_swi]
    cases hg : s.kms.gated <;> simp_all
  · simp only [KeyLaw, ScannerStopped, sscAct_ssc_of_standby c hs, sscAct_kms_of_standby c hs, sscAct_swi]
    simp only [ScannerStopped, hs] at stopped runs
    refine ⟨gate, fun h => ?_, fun h => ?_, first, fun h => ?_⟩
    · have := stopped (by simpa using h); simp [this]
    · simpa using runs (by simpa using h)
    · simp [exited h]

/-- The lines, the timers and the part mode by the system state, the adapter's presence taken as said: the first part of
`StateLaw`. -/
abbrev LinesAt (present : Bool) (s : State) : Prop :=
  s.ssc.sysen = decide (s.ssc.state ≠ .off) ∧ s.ssc.wake = decide (s.ssc.state = .waking) ∧
    s.ssc.bootTimer.isSome = decide (s.ssc.state = .booting) ∧
    s.ssc.wakeTimer.isSome = decide (s.ssc.state = .waking) ∧
    s.ssc.haltTimer.isSome = decide (s.ssc.state = .halting) ∧
    (s.ssc.mode = .quiet ↔ s.ssc.state = .off ∧ present = false)

/-- The link and the pending link-down by the system state: the second part of `StateLaw`. -/
abbrev LinkLaw (st : SysState) (c : Slc) : Prop :=
  (st = .off ∨ st = .booting → c.linkUp = false ∧ NoLinkDown c) ∧ (st = .run → c.linkUp = true ∧ NoLinkDown c) ∧
    (st = .standby ∨ st = .waking → c.linkUp = linkDownPending c) ∧ (c.replies.filter fun r => r.linkDown).length ≤ 1

/-- No held result of a pass-through carries a link-down: the last part of `StateLaw`. -/
abbrev HeldLaw (x : Ppt) : Prop :=
  (∀ r ∈ x.ports.a.slot.held, r.linkDown = false) ∧ ∀ r ∈ x.ports.b.slot.held, r.linkDown = false

/-- `StateLaw` with the adapter's presence taken as said: what holds while a change of it is still to be handed on
(R79). -/
abbrev StateAt (present : Bool) (s : State) : Prop :=
  LinesAt present s ∧ LinkLaw s.ssc.state s.slc ∧ HeldLaw s.ppt

theorem stateLaw_iff : StateLaw s ↔ StateAt s.ppc.adapter.present s := by
  simp only [StateLaw, StateAt, LinesAt, LinkLaw, HeldLaw, and_assoc]

variable {present : Bool}

theorem sscAct_keeps_lines (c : EventCode) (hs : s.ssc.state = .off ∨ s.ssc.state = .standby)
    (h : LinesAt present s) : LinesAt present (sscAct c s) := by
  obtain ⟨-, -, boot, wake, halt, mode⟩ := h
  obtain hs | hs := hs
  · simp only [LinesAt, sscAct_ssc_of_off c hs]
    exact ⟨rfl, rfl, rfl, by simpa [hs] using wake, by simpa [hs] using halt, by simp⟩
  · simp only [LinesAt, sscAct_ssc_of_standby c hs]
    exact ⟨rfl, rfl, by simpa [hs] using boot, rfl, by simpa [hs] using halt, by simpa [hs] using mode⟩

theorem sscAct_keeps_stateAt (c : EventCode) (hs : s.ssc.state = .off ∨ s.ssc.state = .standby)
    (h : StateAt present s) : StateAt present (sscAct c s) := by
  obtain ⟨lines, ⟨down, -, pending, one⟩, held⟩ := h
  refine ⟨sscAct_keeps_lines c hs lines, ?_, by rwa [sscAct_ppt]⟩
  rw [sscAct_slc]
  obtain hs | hs := hs
  · rw [sscAct_ssc_of_off c hs]
    exact ⟨fun _ => down (.inl hs), nofun, nofun, one⟩
  · rw [sscAct_ssc_of_standby c hs]
    exact ⟨nofun, nofun, fun _ => pending (.inl hs), one⟩

/-- SSC acts in OFF and in STANDBY only (R154, R155). -/
theorem state_of_sscActs {p : Policy} {c : EventCode} {v : Int} {x : Ssc} (h : sscActs p c v x = true) :
    x.state = .off ∨ x.state = .standby := by
  unfold sscActs at h
  cases hx : x.state <;> simp_all

theorem sscAct_sameBlocks (c : EventCode) : SameBlocks s (sscAct c s) := by
  constructor <;> simp

/-- A start or a wake keeps every law. -/
theorem sscAct_keeps (c : EventCode) (hs : s.ssc.state = .off ∨ s.ssc.state = .standby) (hl : l ≠ .dark) :
    Keeps l s (sscAct c s) := by
  obtain ⟨new, he⟩ := sscAct_evr (s := s) c
  have queue (h : QueueLaw s) : QueueLaw (sscAct c s) := by
    rw [queueLaw_iff] at h ⊢
    rw [he, sscAct_slc]
    exact ⟨evrOk_take h.1 .., h.2⟩
  cases l with
  | queue => exact queue
  | fans => exact sscAct_keeps_fans c
  | idleFans => exact sscAct_keeps_fansAt c nofun
  | keys =>
    rintro ⟨⟨key, record⟩, q⟩
    exact ⟨⟨sscAct_keeps_keyLaw c hs key,
      keyRecordLaw_of_take (queueLaw_iff.1 q).1 record (by decide) he (sscAct_kms_positions s c)⟩, queue q⟩
  | system =>
    rintro ⟨state, q⟩
    rw [stateLaw_iff] at state
    exact ⟨stateLaw_iff.2 (by rw [sscAct_ppc]; exact sscAct_keeps_stateAt c hs state), queue q⟩
  | dark => exact absurd rfl hl
  | waiting _ | replies _ | link _ _ | packs | sweep | carried | drives | soc | paths | flags
  | sampled _ | inputLimit _ | efficiency _ | fastLimits _ _ => exact (sscAct_sameBlocks c).keeps rfl

/-! ## An event on its way (R168) -/

/-- An occurrence recorded keeps every law; GAP is EVR's own and is recorded by a take alone (R176). -/
theorem record_keeps {c : EventCode} (hc : c ≠ .gap) (n : Nat) (v : Int) (a : Bool) : Keeps l s (record c n v a s) := by
  have queue (h : QueueLaw s) : QueueLaw (record c n v a s) := by
    rw [queueLaw_iff] at h ⊢
    exact ⟨evrOk_take h.1 .., h.2⟩
  cases l with
  | queue => exact queue
  | keys =>
    rintro ⟨⟨key, records⟩, q⟩
    exact ⟨⟨key, keyRecordLaw_of_take (queueLaw_iff.1 q).1 records hc rfl rfl⟩, queue q⟩
  | system => exact fun ⟨state, q⟩ => ⟨state, queue q⟩
  | dark =>
    rintro ⟨off, legal⟩
    refine ⟨off, ?_⟩
    simpa only [PolicyLegal, record, Evr.take_policy] using legal
  | waiting _ | replies _ | link _ _ | packs | sweep | fans | idleFans | carried | drives | soc | paths | flags
  | sampled _ | inputLimit _ | efficiency _ | fastLimits _ _ => exact id

/-- An event keeps every law; OFF it can only end where it may carry START (R154, R170). -/
theorem route_keeps (c : EventCode) (n : Nat) (v : Int) (hc : c ≠ .gap := by decide)
    (hd : l = .dark → c.mayStart = false := by exact fun _ => rfl) : Keeps l s (route c n v s) := by
  by_cases hl : l = .dark
  · subst hl
    rintro ⟨off, legal⟩
    rw [route_in_off n v off (legal.policyOf_start (hd rfl))]
    exact record_keeps hc n v false ⟨off, legal⟩
  · unfold route
    split
    · next ha => exact (record_keeps hc n v true).trans (sscAct_keeps c (state_of_sscActs ha) hl)
    · exact record_keeps hc n v false

theorem route_keeps_stateAt (c : EventCode) (n : Nat) (v : Int) (h : StateAt present s) :
    StateAt present (route c n v s) := by
  unfold route
  split
  · next ha => exact sscAct_keeps_stateAt (s := record c n v true s) c (state_of_sscActs ha) h
  · exact h

/-- In OFF under a critical battery no event starts the system (R154, R163). -/
theorem route_in_critical {c : EventCode} (n : Nat) (v : Int) (hs : s.ssc.state = .off)
    (hc : s.ssc.critical = true) : route c n v s = record c n v false s := by
  simp [route, sscActs, hs, hc]

end Sys2Proof.Machine


namespace Sys2Proof.Machine

variable {s t : State} {l : Law}

/-! ## Moves of the system state (R152, R153) -/

theorem keyStopped_announced (r : PosRec) :
    (keyStopped r).announced = if stopReleases r = true then false else r.announced := by
  cases hs : r.state <;> cases ha : r.announced <;> simp [keyStopped, keyReleased, stopReleases, hs, ha]

theorem stopReleases_iff {r : PosRec} :
    stopReleases r = true ↔ (r.state = .down ∨ r.state = .releaseDebounce) ∧ r.announced = true := by
  simp [stopReleases]

/-- A stop of the keyboard keeps the law of key records: each announced position that is held is released (R117). -/
theorem stopKeys_keeps_records (ok : EvrOk s.evr) (h : KeyRecordLaw s) : KeyRecordLaw (stopKeys s) := by
  rw [keyRecordLaw_iff] at h ⊢
  intro p
  have released (q : Fin 144) :
      q ∈ (List.finRange 144).filter (fun q => stopReleases (s.kms.positions.get q)) ↔
        stopReleases (s.kms.positions.get q) = true := by
    rw [List.mem_filter]; exact and_iff_right (List.mem_finRange q)
  have placed := keyOk_placeKeys (fun q => releaseRecord q (s.kms.positions.get q) true s.tmb.ms)
    (fun _ => ⟨rfl, rfl⟩) _ ((List.nodup_finRange 144).filter _) ok
    (fun q hq => (stopReleases_iff.1 ((released q).1 hq)).2) (fun q => (h q).1) p
  have announced : ((stopKeys s).kms.positions.get p).announced =
      if stopReleases (s.kms.positions.get p) = true then false else (s.kms.positions.get p).announced := by
    rw [stopKeys, Kms.stopped, Table.get_map]
    exact keyStopped_announced _
  rw [announced]
  refine ⟨?_, fun ha => ?_⟩
  · simp only [released p] at placed
    exact placed
  · split at ha
    · cases ha
    · next hr => exact absurd (stopReleases_iff.2 ⟨(h p).2 ha, ha⟩) hr

/-- After a stop every position is UP and the scanner does not run. -/
theorem stopKeys_keyLaw (gate : s.kms.gated = gateOf s.swi.lid.level s.swi.hinge.level) (hs : ScannerStopped s) :
    KeyLaw (stopKeys s) := by
  refine ⟨gate, fun _ => ⟨rfl, rfl⟩, fun h => absurd hs h, fun _ p => ?_, nofun⟩
  simp only [stopKeys, Kms.stopped, Table.get_map]
  unfold keyStopped keyReleased
  split <;> rfl

/-- The laws that the lines of a new state leave alone whatever the move. -/
def Law.lines : Law → Bool
  | .keys | .system | .dark => true
  | _ => false

theorem driveState_keeps (new : SysState) (hl : l.lines = false) : Keeps l s (driveState new s) := by
  cases l with
  | keys | system | dark => cases hl
  | _ => exact id

theorem setMode_sameBlocks (m : PartMode) : SameBlocks s (setMode m s) := by constructor <;> simp

theorem setMode_keeps (m : PartMode) (hl : l ≠ .system) : Keeps l s (setMode m s) := by
  cases l with
  | queue => simp only [Keeps, Law.holds, QueueLaw, setMode_evr, setMode_slc, imp_self]
  | fans =>
    intro h
    rw [Law.holds, FanLaw, setMode_lmt]
    exact setMode_keeps_fansAt m id h
  | idleFans => exact setMode_keeps_fansAt m nofun
  | keys =>
    simp only [Keeps, Law.holds, QueueLaw, KeyLaw, KeyRecordLaw, ScannerStopped, setMode_evr, setMode_slc, setMode_kms,
      setMode_swi, setMode_ssc_state, imp_self]
  | system => exact absurd rfl hl
  | dark => simp only [Keeps, Law.holds, setMode_evr, setMode_ssc_state, imp_self]
  | waiting _ | replies _ | link _ _ | packs | sweep | carried | drives | soc | paths | flags
  | sampled _ | inputLimit _ | efficiency _ | fastLimits _ _ => exact (setMode_sameBlocks m).keeps rfl

theorem moveMode_keeps (old new : SysState) (hl : l ≠ .system) : Keeps l s (moveMode old new s) := by
  unfold moveMode
  split
  · split
    · exact id
    · exact setMode_keeps _ hl
  · split
    · exact setMode_keeps _ hl
    · exact id

/-- Between two states other than OFF a move hands nothing on but its events (R152). -/
theorem moveState_awake {new : SysState} (named : Option (EventCode × Int)) (hs : s.ssc.state ≠ .off)
    (hn : new ≠ .off) (hw : new ≠ .waking) :
    moveState new named s = route .stateChange 0 new.num
      (match named with
        | some (c, v) => route c 0 v (driveState new s)
        | none => driveState new s) := by
  simp only [moveState, moveMode, handMove, hs, hn, hw, if_false, and_false] <;> rfl

/-- The event named in a move is not GAP. -/
abbrev Named (e : Option (EventCode × Int)) : Prop := ∀ x ∈ e, x.1 ≠ .gap

theorem moveState_awake_keeps {new : SysState} {named : Option (EventCode × Int)} (hg : Named named)
    (hs : s.ssc.state ≠ .off) (hn : new ≠ .off) (hw : new ≠ .waking) (hl : l ≠ .system) :
    Keeps l s (moveState new named s) := by
  by_cases hd : l = .dark
  · subst hd; exact fun h => absurd h.1 hs
  rw [moveState_awake named hs hn hw]
  have drive : Keeps l s (driveState new s) := by
    by_cases hk : l = .keys
    · subst hk
      rintro ⟨⟨⟨gate, stopped, runs, first, exited⟩, records⟩, q⟩
      have iff : ScannerStopped (driveState new s) ↔ ScannerStopped s := by
        simp [ScannerStopped, driveState, hs, hn]
      exact ⟨⟨⟨gate, stopped ∘ iff.1, runs ∘ mt iff.2, first, exited⟩, records⟩, q⟩
    · exact driveState_keeps new (by cases l with
        | keys => exact absurd rfl hk
        | dark => exact absurd rfl hd
        | system => exact absurd rfl hl
        | _ => rfl)
  cases named with
  | none => exact drive.trans (route_keeps .stateChange 0 _)
  | some x =>
    exact drive.trans ((route_keeps x.1 0 _ (hg x rfl) (fun c => absurd c hd)).trans (route_keeps .stateChange 0 _))

/-- The events of a move into OFF, tallied and placed in the new state (R152). -/
def offEvents (named : Option (EventCode × Int)) (s : State) : State :=
  record .stateChange 0 0 false
    (match named with
      | some (c, v) => record c 0 v false (driveState .off s)
      | none => driveState .off s)

/-- A move into OFF under a legal policy: its events, the stop of the keyboard, the entry to OFF and the part mode
(R152, R153, R165, R170). -/
theorem moveState_off (named : Option (EventCode × Int)) (hp : PolicyLegal s.evr)
    (hg : ∀ x ∈ named, x.1.mayStart = false) :
    moveState .off named s = moveMode s.ssc.state .off (offEntry (stopKeys (offEvents named s))) := by
  have legal (c : EventCode) (v : Int) : PolicyLegal (record c 0 v false (driveState .off s)).evr := by
    simpa only [PolicyLegal, record, driveState_evr, Evr.take_policy] using hp
  cases named with
  | none =>
    have := route_in_off (s := driveState .off s) 0 0 rfl (hp.policyOf_start (c := .stateChange) rfl)
    simp only [moveState, SysState.num, Nat.cast_zero, this, handMove, if_true, offEvents]
  | some x =>
    obtain ⟨c, v⟩ := x
    have first := route_in_off (s := driveState .off s) 0 v rfl (hp.policyOf_start (hg _ rfl))
    have second := route_in_off (s := record c 0 v false (driveState .off s)) 0 0 rfl
      ((legal c v).policyOf_start (c := .stateChange) rfl)
    simp only [moveState, SysState.num, Nat.cast_zero, first, second, handMove, if_true, offEvents]

/-- The event named in a move into OFF is neither GAP nor one that may carry START. -/
abbrev NamedInOff (e : Option (EventCode × Int)) : Prop := ∀ x ∈ e, x.1 ≠ .gap ∧ x.1.mayStart = false

theorem offEvents_keeps {named : Option (EventCode × Int)} (hg : NamedInOff named) :
    Keeps l (driveState .off s) (offEvents named s) := by
  cases named with
  | none => exact record_keeps (by decide) 0 0 false
  | some x => exact Keeps.trans (record_keeps (hg x rfl).1 0 x.2 false) (record_keeps (by decide) 0 0 false)

theorem record_keeps_records {c : EventCode} (hc : c ≠ .gap) (n : Nat) (v : Int) (a : Bool)
    (h : EvrOk s.evr ∧ KeyRecordLaw s) : EvrOk (record c n v a s).evr ∧ KeyRecordLaw (record c n v a s) :=
  ⟨evrOk_take h.1 .., keyRecordLaw_of_take h.1 h.2 hc rfl rfl⟩

theorem offEvents_keeps_records {named : Option (EventCode × Int)} (hg : NamedInOff named)
    (h : EvrOk s.evr ∧ KeyRecordLaw s) : EvrOk (offEvents named s).evr ∧ KeyRecordLaw (offEvents named s) := by
  have drive : EvrOk (driveState .off s).evr ∧ KeyRecordLaw (driveState .off s) := h
  cases named with
  | none => exact record_keeps_records (by decide) 0 0 false drive
  | some x =>
    exact record_keeps_records (by decide) 0 0 false (record_keeps_records (hg x rfl).1 0 x.2 false drive)

theorem offEvents_kms (named : Option (EventCode × Int)) :
    (offEvents named s).kms = s.kms ∧ (offEvents named s).swi = s.swi ∧ (offEvents named s).ssc.state = .off := by
  cases named <;> exact ⟨rfl, rfl, rfl⟩

/-- Link-downs made void are left out anyway. -/
theorem untied_void (rs : List Reply) : untied (rs.map fun r => { r with linkDown := false }) = untied rs := by
  simp [untied]

/-- Entry to OFF at SSC and SLC keeps every law but that of lines and link. -/
theorem offEntry_keeps (hl : l ≠ .system) : Keeps l s (offEntry s) := by
  cases l with
  | replies k => simp [Keeps, Law.holds, offEntry, linkDownVoid]
  | link rq rs => simp only [Keeps, Law.holds, offEntry, linkDownVoid, untied_void, imp_self]
  | queue =>
    rw [Keeps, Law.holds, Law.holds, queueLaw_iff, queueLaw_iff]
    exact fun h => ⟨h.1, h.2.1, by simpa [offEntry, linkDownVoid] using h.2.2⟩
  | keys => simp only [Keeps, Law.holds, QueueLaw, offEntry, linkDownVoid, List.length_map]; exact id
  | system => exact absurd rfl hl
  | _ => exact id

theorem stopKeys_keeps (hl : l.lines = false) : Keeps l s (stopKeys s) := by
  cases l with
  | queue =>
    rw [Keeps, Law.holds, Law.holds, queueLaw_iff, queueLaw_iff]
    exact fun h => ⟨evrOk_placeKeys h.1 _, h.2⟩
  | keys | system | dark => cases hl
  | _ => exact id

/-- The move handed to KMS and SLC keeps the laws that do not read the state's lines. -/
theorem handMove_keeps (old new : SysState) (hl : l.lines = false) : Keeps l s (handMove old new s) := by
  have notSystem : l ≠ .system := by rintro rfl; cases hl
  unfold handMove
  split
  · exact (stopKeys_keeps hl).trans (offEntry_keeps notSystem)
  · cases l with
    | keys | system | dark => cases hl
    | _ => repeat' split
           all_goals exact id

/-- Any move keeps the laws that do not read the state's lines. -/
theorem moveState_keeps {new : SysState} {named : Option (EventCode × Int)} (hg : Named named) (hl : l.lines = false) :
    Keeps l s (moveState new named s) := by
  have notSystem : l ≠ .system := by rintro rfl; cases hl
  have notDark : l ≠ .dark := by rintro rfl; cases hl
  refine Keeps.trans ?_ (Keeps.trans (handMove_keeps s.ssc.state new hl) (moveMode_keeps _ _ notSystem))
  refine Keeps.trans ?_ (route_keeps .stateChange 0 _)
  cases named with
  | none => exact driveState_keeps new hl
  | some x => exact (driveState_keeps new hl).trans (route_keeps x.1 0 x.2 (hg x rfl) (fun c => absurd c notDark))

/-- A move into OFF keeps the keyboard's laws: every position is released and the scanner stops (R103, R117). -/
theorem moveState_off_keeps_keys {named : Option (EventCode × Int)} (hg : NamedInOff named) :
    Keeps .keys s (moveState .off named s) := by
  rintro ⟨⟨⟨gate, -⟩, records⟩, q⟩
  rw [moveState_off named q.1 fun x hx => (hg x hx).2]
  obtain ⟨kms, swi, off⟩ := offEvents_kms named (s := s)
  have hr := offEvents_keeps_records hg ⟨(queueLaw_iff.1 q).1, records⟩
  have hq : QueueLaw (offEvents named s) := offEvents_keeps (l := .queue) hg q
  refine Keeps.trans (offEntry_keeps (by simp)) (moveMode_keeps _ _ (by simp)) (?_ : Law.holds .keys _)
  exact ⟨⟨stopKeys_keyLaw (by rw [kms, swi]; exact gate) (.inl off), stopKeys_keeps_records hr.1 hr.2⟩,
    stopKeys_keeps (l := .queue) rfl hq⟩

/-- A move into OFF brings the lines and the link to what OFF asks for (R153, R165, R186). -/
theorem moveState_off_system {named : Option (EventCode × Int)} (hg : NamedInOff named) (hp : PolicyLegal s.evr)
    (hm : s.ppc.adapter.present = true → s.ssc.mode ≠ .quiet) (held : HeldLaw s.ppt) :
    StateLaw (moveState .off named s) := by
  have ssc : (offEvents named s).ssc = (driveState .off s).ssc := by cases named <;> rfl
  have slc : (offEvents named s).slc = s.slc := by cases named <;> rfl
  have none_pending (rs : List Reply) :
      (rs.map fun r => { r with linkDown := false }).any (fun r => r.linkDown) = false := by
    simp
  rw [stateLaw_iff, moveState_ppc]
  refine ⟨?_, ?_, by rwa [moveState_ppt]⟩
  · rw [LinesAt]
    rw [moveState_off named hp fun x hx => (hg x hx).2, moveMode_off_ssc, offEntry_ppc, stopKeys_ppc]
    simp only [offEntry, stopKeys_ssc, ssc, driveState]
    refine ⟨by simp, by simp, rfl, rfl, rfl, ?_⟩
    have ppc : (offEvents named s).ppc = s.ppc := by cases named <;> rfl
    rw [ppc]
    cases ha : s.ppc.adapter.present <;> simp_all
  · rw [moveState_off named hp fun x hx => (hg x hx).2, moveMode_slc, moveMode_off_ssc]
    simp only [offEntry, stopKeys_ssc, stopKeys_slc, ssc, slc, driveState, linkDownVoid]
    exact ⟨fun _ => ⟨rfl, none_pending _⟩, nofun, by simp, by simp [List.filter_map, Function.comp_def]⟩

/-- A move into OFF from another state keeps every law (R152, R153). -/
theorem moveState_off_keeps {named : Option (EventCode × Int)} (hg : NamedInOff named) (hs : s.ssc.state ≠ .off) :
    Keeps l s (moveState .off named s) := by
  cases l with
  | keys => exact moveState_off_keeps_keys hg
  | system =>
    rintro ⟨state, q⟩
    obtain ⟨⟨-, -, -, -, -, mode⟩, -, held⟩ := stateLaw_iff.1 state
    exact ⟨moveState_off_system hg q.1 (fun _ hm => hs (mode.1 hm).1) held,
      moveState_keeps (l := .queue) (fun x hx => (hg x hx).1) rfl q⟩
  | dark => exact fun h => absurd h.1 hs
  | _ => exact moveState_keeps (fun x hx => (hg x hx).1) rfl

/-- A forcing keeps every law (R160). -/
theorem forceOff_keeps (c : ForceCause) : Keeps l s (forceOff c s) := by
  unfold forceOff
  refine Keeps.ite (fun _ => id) fun hs => moveState_off_keeps ?_ hs
  rintro x ⟨⟩
  exact ⟨nofun, rfl⟩

end Sys2Proof.Machine


namespace Sys2Proof.Machine

variable {s t : State} {l : Law} {p : Pack}

/-! ## The battery decisions (R161 to R163) -/

theorem setLow_keeps (b : Bool) (hl : l ≠ .flags) :
    Keeps l s { s with ssc := { s.ssc with low := b } } := by
  cases l with
  | flags => exact absurd rfl hl
  | _ => exact id

theorem decideLow_keeps (hl : l ≠ .flags) : Keeps l s (decideLow s) := by
  refine Keeps.ite (fun _ => Keeps.ite (fun _ => id) fun _ => ?_) fun _ => setLow_keeps false hl
  exact (setLow_keeps true hl).trans (route_keeps .batteryLow _ _)

theorem setCritical_keeps (b : Bool) (hl : l ≠ .flags) :
    Keeps l s { s with ssc := { s.ssc with critical := b } } := by
  cases l with
  | flags => exact absurd rfl hl
  | _ => exact id

theorem startGrace_keeps : Keeps l s (startGrace s) := by cases l <;> exact id

theorem endGrace_keeps (hl : l ≠ .flags) :
    Keeps l s { s with ssc := { s.ssc with critical := false, graceTimer := none } } := by
  cases l with
  | flags => exact absurd rfl hl
  | _ => exact id

theorem decideCritical_keeps (hl : l ≠ .flags) : Keeps l s (decideCritical s) := by
  refine Keeps.ite (fun _ => Keeps.ite (fun _ => id) fun _ => ?_)
    fun _ => Keeps.ite (fun _ => endGrace_keeps hl) fun _ => id
  exact (setCritical_keeps true hl).trans ((route_keeps .batteryCritical _ _).trans startGrace_keeps)

/-- What the two battery decisions leave alone at SSC. -/
theorem decideLow_ssc : (decideLow s).ssc.combinedSoc = s.ssc.combinedSoc ∧
    (decideLow s).ssc.lowThreshold = s.ssc.lowThreshold ∧
    (decideLow s).ssc.criticalThreshold = s.ssc.criticalThreshold ∧
    (decideLow s).ssc.critical = s.ssc.critical ∧ (decideLow s).ssc.low = batteryLowHolds s := by
  unfold decideLow
  repeat' split
  all_goals simp_all

theorem decideCritical_ssc : (decideCritical s).ssc.combinedSoc = s.ssc.combinedSoc ∧
    (decideCritical s).ssc.lowThreshold = s.ssc.lowThreshold ∧
    (decideCritical s).ssc.criticalThreshold = s.ssc.criticalThreshold ∧
    (decideCritical s).ssc.low = s.ssc.low ∧ (decideCritical s).ssc.critical = batteryCriticalHolds s := by
  unfold decideCritical
  repeat' split
  all_goals simp_all [startGrace]

/-- After a decision both flags stand as their conditions do (R162, R163). -/
theorem decideBattery_flags : Law.holds .flags (decideBattery s) := by
  obtain ⟨soc, low, critical, -, lowFlag⟩ := decideLow_ssc (s := s)
  obtain ⟨soc', low', critical', lowFlag', criticalFlag⟩ := decideCritical_ssc (s := decideLow s)
  refine ⟨?_, ?_⟩
  · rw [decideBattery, lowFlag', lowFlag]
    simp only [batteryLowHolds, adapterAway, decideCritical_ppc, decideCritical_lmt, decideLow_ppc, decideLow_lmt, soc',
      soc, low', low]
  · rw [decideBattery, criticalFlag]
    simp only [batteryCriticalHolds, adapterAway, decideCritical_ppc, decideCritical_lmt, soc', critical']

theorem decideBattery_keeps : Keeps l s (decideBattery s) := by
  by_cases hl : l = .flags
  · subst hl; exact fun _ => decideBattery_flags
  · exact (decideLow_keeps hl).trans (decideCritical_keeps hl)

/-! ## The path decision (R52) -/

theorem redecidePaths_keeps (hl : l ≠ .flags) : Keeps l s (redecidePaths s) := by
  cases l with
  | flags => exact absurd rfl hl
  | paths => exact fun _ => rfl
  | _ => exact id

theorem redecidePaths_paths : Law.holds .paths (redecidePaths s) := rfl

theorem repath_keeps : Keeps l s (repath s) := by
  by_cases hl : l = .flags
  · subst hl; exact fun _ => decideBattery_flags
  · exact (redecidePaths_keeps hl).trans decideBattery_keeps

/-- After a path decision and SSC's decisions, paths and flags are right whatever came before. -/
theorem repath_settles (hl : l = .paths ∨ l = .flags) : l.holds (repath s) := by
  obtain rfl | rfl := hl
  · exact decideBattery_keeps (l := .paths) redecidePaths_paths
  · exact decideBattery_flags

theorem setSoc_keeps (v : Option Nat) (h1 : l ≠ .soc) (h2 : l ≠ .flags) :
    Keeps l s { s with ssc := { s.ssc with combinedSoc := v } } := by
  cases l with
  | soc => exact absurd rfl h1
  | flags => exact absurd rfl h2
  | _ => exact id

theorem refreshSoc_soc : Law.holds .soc (refreshSoc s) := decideBattery_keeps (l := .soc) rfl

theorem refreshSoc_keeps : Keeps l s (refreshSoc s) := by
  by_cases h1 : l = .soc
  · subst h1; exact fun _ => refreshSoc_soc
  by_cases h2 : l = .flags
  · subst h2; exact fun _ => decideBattery_flags
  exact (setSoc_keeps _ h1 h2).trans decideBattery_keeps

theorem portChanged_keeps (hl : l.settled = false) : Keeps l s (portChanged s) :=
  (redecidePaths_keeps (by rintro rfl; cases hl)).trans refreshSoc_keeps

/-- After what a port's change hands on, the settled laws hold whatever came before (R42, R52, R161). -/
theorem portChanged_settles (hl : l.settled = true) : l.holds (portChanged s) := by
  cases l with
  | soc => exact refreshSoc_soc
  | paths => exact refreshSoc_keeps (l := .paths) redecidePaths_paths
  | flags => exact decideBattery_flags
  | _ => cases hl

/-- A change that is handed on keeps every law when its part before that keeps those that are not settled then. -/
theorem Keeps.portChanged (h : l.settled = false → Keeps l s t) : Keeps l s (portChanged t) := by
  cases hl : l.settled with
  | false => exact (h hl).trans (portChanged_keeps hl)
  | true => exact fun _ => portChanged_settles hl

/-! ## Writes that the laws do not read, or read in part -/

/-- The figures of PPC that few commands write: I_HL, the efficiency and the fast-charge limits in force. -/
def Ppc.figures (c : Ppc) : Nat × Nat × Nat × Nat :=
  (c.iHL, c.eta, c.charge.a.fastLimit, c.charge.b.fastLimit)

theorem Ppc.figures_iff {x y : Ppc} : y.figures = x.figures ↔ y.iHL = x.iHL ∧ y.eta = x.eta ∧
    y.charge.a.fastLimit = x.charge.a.fastLimit ∧ y.charge.b.fastLimit = x.charge.b.fastLimit := by
  simp only [Ppc.figures, Prod.mk.injEq]

/-- PPC with the figures, the adapter, the switch, the paths, the bay state, the throttle state and LTR left alone. -/
structure SameDrive (x y : Ppc) : Prop where
  figures : y.figures = x.figures
  adapter : y.adapter = x.adapter
  switch : y.adapterSwitchOpen = x.adapterSwitchOpen
  path : y.path = x.path
  bay : y.bay.state = x.bay.state
  throttle : y.throttle.state = x.throttle.state
  ltr : y.ltr = x.ltr

theorem figures_keep {x : Ppc} (h : x.figures = s.ppc.figures) {n a b : Nat}
    (hl : l = .inputLimit n ∨ l = .efficiency n ∨ l = .fastLimits a b) : Keeps l s { s with ppc := x } := by
  obtain ⟨iHL, eta, fa, fb⟩ := Ppc.figures_iff.1 h
  obtain rfl | rfl | rfl := hl <;> simp only [Keeps, Law.holds, iHL, eta, fa, fb, imp_self]

theorem ppc_keeps {x : Ppc} (h : SameDrive s.ppc x) : Keeps l s { s with ppc := x } := by
  cases l with
  | inputLimit n => exact figures_keep h.figures (n := n) (a := 0) (b := 0) (.inl rfl)
  | efficiency n => exact figures_keep h.figures (n := n) (a := 0) (b := 0) (.inr (.inl rfl))
  | fastLimits a b => exact figures_keep h.figures (n := 0) (.inr (.inr rfl))
  | system => simp only [Keeps, Law.holds, StateLaw, h.adapter]; exact id
  | drives => simp only [Keeps, Law.holds, DrivesLaw, h.switch, h.throttle, h.ltr, imp_self]
  | paths =>
    simp only [Keeps, Law.holds, pathOf, pathForcedOpen, altSupply, canSupply, adapterAway, h.adapter, h.path, h.bay]
    exact id
  | flags =>
    simp only [Keeps, Law.holds, batteryLowHolds, batteryCriticalHolds, adapterAway, h.adapter, h.path]
    exact id
  | _ => exact id

/-- The bay's state alone enters a law, that of the paths (R52). -/
theorem setBay_keeps (x : Bay) (hl : l ≠ .paths) : Keeps l s { s with ppc := { s.ppc with bay := x } } := by
  cases l with
  | paths => exact absurd rfl hl
  | _ => exact id

theorem setCharge_figures {c : Charge} (h : c.fastLimit = (s.ppc.charge.get p).fastLimit) :
    (setCharge p c s).ppc.figures = s.ppc.figures := by
  cases p
  · exact Ppc.figures_iff.2 ⟨rfl, rfl, h, rfl⟩
  · exact Ppc.figures_iff.2 ⟨rfl, rfl, rfl, h⟩

theorem setCharge_keeps {c : Charge} (h : c.fastLimit = (s.ppc.charge.get p).fastLimit) : Keeps l s (setCharge p c s) :=
  ppc_keeps ⟨setCharge_figures h, rfl, rfl, rfl, rfl, rfl, rfl⟩

theorem zeroCharge_drive (x : Ppc) (p : Pack) : SameDrive x (x.zeroCharge p) := ⟨rfl, rfl, rfl, rfl, rfl, rfl, rfl⟩

theorem zeroAll_drive (x : Ppc) (p : Pack) : SameDrive x (x.zeroAll p) := ⟨rfl, rfl, rfl, rfl, rfl, rfl, rfl⟩

/-! ## The bay (R54 to R57) -/

theorem enterReleasing_keeps : Keeps l s (enterReleasing s) := by
  by_cases hl : l = .paths
  · subst hl; exact fun _ => repath_settles (.inl rfl)
  · exact Keeps.trans (ppc_keeps (zeroAll_drive s.ppc .b))
      (Keeps.trans (setBay_keeps _ hl) ((route_keeps .bayRelease _ _).trans repath_keeps))

theorem bayLatched_keeps (hl : l ≠ .flags) : Keeps l s (bayLatched s) := by
  by_cases h : l = .paths
  · subst h; exact fun _ => redecidePaths_paths
  · exact Keeps.trans (setBay_keeps _ h) ((route_keeps .bayRelease _ _).trans (redecidePaths_keeps hl))

theorem bayReturn_keeps : Keeps l s (bayReturn s) := by
  refine Keeps.ite (fun _ => ?_) fun _ => id
  by_cases hl : l = .flags
  · subst hl; exact fun _ => decideBattery_flags
  · exact (bayLatched_keeps hl).trans decideBattery_keeps

theorem bayLatchReported_keeps (opened : Bool) : Keeps l s (bayLatchReported opened s) :=
  Keeps.ite (fun _ => Keeps.ite (fun _ => enterReleasing_keeps) fun _ => id) fun _ => bayReturn_keeps

theorem bayCount_keeps (x : Bay) (h : x.state = s.ppc.bay.state) : Keeps l s { s with ppc := { s.ppc with bay := x } } :=
  ppc_keeps ⟨rfl, rfl, rfl, rfl, h, rfl, rfl⟩

theorem bayQuiet_keeps : Keeps l s (bayQuiet s) := by
  refine Keeps.ite (fun _ => bayCount_keeps _ rfl) fun _ => ?_
  by_cases hl : l = .paths
  · subst hl; exact fun _ => repath_settles (.inl rfl)
  · exact Keeps.trans (setBay_keeps _ hl) ((route_keeps .bayRelease _ _).trans repath_keeps)

theorem bayRefuse_keeps : Keeps l s (bayRefuse s) := by
  have count := bayCount_keeps (l := l) (s := s) { s.ppc.bay with quiet := 0, refused := true } rfl
  unfold bayRefuse
  exact Keeps.ite (fun _ => count) fun _ => count.trans (route_keeps .bayRefused 0 0)

theorem examineBay_keeps : Keeps l s (examineBay s) :=
  Keeps.ite (fun _ => id) fun _ => Keeps.ite
    (fun _ => Keeps.ite (fun _ => bayQuiet_keeps) fun _ => bayCount_keeps _ rfl) fun _ => bayRefuse_keeps

/-! ## The adapter (R79 to R82) -/

/-- The laws that a change of adapter presence disturbs before it is handed on, and that of OFF, which an attach may end. -/
def Law.attached : Law → Bool
  | .paths | .flags | .system => true
  | _ => false

theorem adapter_keeps (x : Ppc) (ha : l.attached = false) (h : SameDrive s.ppc { x with adapter := s.ppc.adapter }) :
    Keeps l s { s with ppc := x } := by
  cases l with
  | paths | flags | system => cases ha
  | drives => simp only [Keeps, Law.holds, DrivesLaw, ← h.switch, ← h.throttle, ← h.ltr, imp_self]
  | inputLimit n => exact figures_keep h.figures (n := n) (a := 0) (b := 0) (.inl rfl)
  | efficiency n => exact figures_keep h.figures (n := n) (a := 0) (b := 0) (.inr (.inl rfl))
  | fastLimits a b => exact figures_keep h.figures (n := 0) (.inr (.inr rfl))
  | _ => exact id

theorem adapterChanged_keeps (hl : l ≠ .system) : Keeps l s (adapterChanged s) := by
  by_cases h : l = .flags
  · subst h; exact fun _ => decideBattery_flags
  refine Keeps.trans (redecidePaths_keeps h) (Keeps.trans ?_ decideBattery_keeps)
  exact Keeps.ite (fun _ => setMode_keeps _ hl) fun _ => Keeps.ite (fun _ => setMode_keeps _ hl) fun _ => id

theorem adapterChanged_settles (hl : l = .paths ∨ l = .flags) : l.holds (adapterChanged s) := by
  obtain rfl | rfl := hl
  · refine decideBattery_keeps (l := .paths) ?_
    exact Keeps.ite (l := .paths) (fun _ => setMode_keeps _ (by simp))
      (fun _ => Keeps.ite (fun _ => setMode_keeps _ (by simp)) fun _ => id) redecidePaths_paths
  · exact decideBattery_flags

end Sys2Proof.Machine


namespace Sys2Proof.Machine

variable {s t : State} {l : Law} {p : Pack}

/-! ## Attach and detach (R79 to R81) -/

theorem attachAdapter_keeps (ha : l.attached = false) (hd : l ≠ .dark) : Keeps l s (attachAdapter s) := by
  refine Keeps.trans ?_ (adapterChanged_keeps (by rintro rfl; cases ha))
  refine Keeps.trans ?_ (route_keeps .adapterAttach 0 0 (by decide) fun h => absurd h hd)
  exact adapter_keeps _ ha ⟨rfl, rfl, rfl, rfl, rfl, rfl, rfl⟩

theorem detachAdapter_keeps (ha : l.attached = false) : Keeps l s (detachAdapter s) := by
  refine Keeps.trans ?_ (adapterChanged_keeps (by rintro rfl; cases ha))
  refine Keeps.trans ?_ (route_keeps .adapterDetach 0 0)
  exact adapter_keeps _ ha ⟨rfl, rfl, rfl, rfl, rfl, rfl, rfl⟩

/-- The part mode taken at a change of adapter presence brings the state's laws back (R165). -/
theorem adapterChanged_system {present : Bool} (h : StateAt present s) (q : QueueLaw s)
    (hp : s.ppc.adapter.present = !present) : Law.holds .system (adapterChanged s) := by
  refine decideBattery_keeps (l := .system) ?_
  obtain ⟨⟨sysen, wake, boot, wakeT, halt, mode⟩, link, held⟩ := h
  rw [redecidePaths_ssc]
  have queue (m : PartMode) : QueueLaw (setMode m (redecidePaths s)) := setMode_keeps m (l := .queue) (by simp) q
  have present' : (redecidePaths s).ppc.adapter.present = !present := hp
  have moved (m : PartMode) (hm : m = .quiet ↔ s.ssc.state = .off ∧ present = true) :
      Law.holds .system (setMode m (redecidePaths s)) := by
    refine ⟨stateLaw_iff.2 ?_, queue m⟩
    simp only [StateAt, LinesAt, setMode_ssc, setMode_ppc, setMode_slc, setMode_ppt, present', redecidePaths_ssc]
    exact ⟨⟨sysen, wake, boot, wakeT, halt, by simpa using hm⟩, link, held⟩
  cases present with
  | false =>
    rw [if_pos (show (redecidePaths s).ppc.adapter.present = true from present')]
    exact moved .full (by simp)
  | true =>
    rw [if_neg (by simp [present'])]
    split
    · next off => exact moved .quiet (by simp [off])
    · next off =>
      refine ⟨stateLaw_iff.2 ⟨?_, link, held⟩, q⟩
      rw [present', LinesAt]
      exact ⟨sysen, wake, boot, wakeT, halt, iff_of_false (fun h => by simpa using mode.1 h) (fun h => off h.1)⟩

theorem route_keeps_queue (c : EventCode) (n : Nat) (v : Int) (h : QueueLaw s) : QueueLaw (route c n v s) := by
  rw [queueLaw_iff] at h ⊢
  exact ⟨evrOk_route h.1 c n v, by simpa using h.2⟩

theorem attachAdapter_system (hp : s.ppc.adapter.present = false) : Keeps .system s (attachAdapter s) := by
  rintro ⟨h, q⟩
  rw [stateLaw_iff, hp] at h
  exact adapterChanged_system (route_keeps_stateAt (s := setAdapter _ s) _ _ _ h)
    (route_keeps_queue (s := setAdapter _ s) _ _ _ q) (by simp [setAdapter, attachedAdapter, Adapter.present])

theorem detachAdapter_system (hp : s.ppc.adapter.present = true) : Keeps .system s (detachAdapter s) := by
  rintro ⟨h, q⟩
  rw [stateLaw_iff, hp] at h
  exact adapterChanged_system
    (route_keeps_stateAt (s := { s with ppc := { s.ppc.zeroBoth with iLim := 0, adapter := noAdapter } }) _ _ _ h)
    (route_keeps_queue (s := { s with ppc := { s.ppc.zeroBoth with iLim := 0, adapter := noAdapter } }) _ _ _ q)
    (by simp [noAdapter, Adapter.present])

/-- An attach under a critical battery leaves the system in OFF (R154). -/
theorem attachAdapter_dark (hc : s.ssc.critical = true) : Keeps .dark s (attachAdapter s) := by
  rintro ⟨off, legal⟩
  refine adapterChanged_keeps (l := .dark) (by simp) ?_
  rw [route_in_critical (s := setAdapter (attachedAdapter (s.sws.latest.get 0).stamp) s) 0 0 off hc]
  exact record_keeps (l := .dark) (by decide) _ _ _ ⟨off, legal⟩

/-- The examination of VAD: nothing but the adapter record's run, an attach, or a detach (R80, R81). -/
theorem examineVad_cases (s : State) :
    (∃ n, examineVad s = setAdapter { s.ppc.adapter with run := n } s) ∨ examineVad s = s ∨
      (s.ppc.adapter.present = false ∧ examineVad s = attachAdapter s) ∨
      (s.ppc.adapter.present = true ∧ examineVad s = detachAdapter s) := by
  unfold examineVad
  simp only
  split
  · next hp =>
    split
    · exact .inr (.inr (.inr ⟨hp, rfl⟩))
    · exact .inr (.inl rfl)
  · next hp =>
    split
    · exact .inl ⟨0, rfl⟩
    · split
      · exact .inr (.inr (.inl ⟨by simpa using hp, rfl⟩))
      · exact .inl ⟨_, rfl⟩

theorem adapterRecord_keeps (x : Adapter) (h : x.present = s.ppc.adapter.present) : Keeps l s (setAdapter x s) := by
  cases l with
  | system => simp only [Keeps, Law.holds, StateLaw, setAdapter, h]; exact id
  | paths =>
    simp only [Keeps, Law.holds, pathOf, pathForcedOpen, altSupply, canSupply, adapterAway, setAdapter, h]
    exact id
  | flags =>
    simp only [Keeps, Law.holds, batteryLowHolds, batteryCriticalHolds, adapterAway, setAdapter, h]
    exact id
  | _ => exact id

theorem examineVad_keeps (hd : l = .dark → s.ssc.critical = true) : Keeps l s (examineVad s) := by
  obtain ⟨n, h⟩ | h | ⟨hp, h⟩ | ⟨hp, h⟩ := examineVad_cases s <;> rw [h]
  · exact adapterRecord_keeps _ rfl
  · exact id
  · cases l with
    | paths => exact fun _ => adapterChanged_settles (.inl rfl)
    | flags => exact fun _ => adapterChanged_settles (.inr rfl)
    | system => exact attachAdapter_system hp
    | dark => exact attachAdapter_dark (hd rfl)
    | _ => exact attachAdapter_keeps rfl (by simp)
  · cases l with
    | paths => exact fun _ => adapterChanged_settles (.inl rfl)
    | flags => exact fun _ => adapterChanged_settles (.inr rfl)
    | system => exact detachAdapter_system hp
    | _ => exact detachAdapter_keeps rfl

theorem identify_present (t : Table (Option AdapterEntry) 8) (a : Adapter) (v : Int) :
    (identify t a v).present = true := by
  unfold identify
  split <;> rfl

theorem examineAid_keeps : Keeps l s (examineAid s) := by
  refine Keeps.ite (fun h => ?_) fun _ => id
  simp only [Bool.and_eq_true, decide_eq_true_eq] at h
  obtain ⟨⟨pendingId, -⟩, -⟩ := h
  refine Keeps.trans (adapterRecord_keeps _ ?_) (route_keeps .adapterClass _ _)
  rw [identify_present, Adapter.present, pendingId]
  rfl

/-! ## Charge phases (R65 to R72) -/

theorem Charge.enter_fastLimit (c : Charge) (ph : Phase) : (c.enter ph).fastLimit = c.fastLimit := by
  cases ph <;> rfl

theorem stepCounts_fastLimit (c : Charge) (x : StepView) : (stepCounts c x).fastLimit = c.fastLimit := by
  unfold stepCounts
  split <;> rfl

theorem setPhase_keeps (ph : Phase) : Keeps l s (setPhase p ph s) :=
  Keeps.ite (fun _ => id) fun _ => (setCharge_keeps (Charge.enter_fastLimit ..)).trans (route_keeps .chargePhase _ _)

theorem decidePhase_keeps (lim : Band) (x : Option StepView) : Keeps l s (decidePhase p lim x s) := by
  unfold decidePhase
  cases (s.ppt.ports.get p).state <;> simp only
  case active | stale =>
    refine Keeps.ite (fun _ => setPhase_keeps _) fun _ => ?_
    cases x with
    | none => exact id
    | some v => exact Keeps.ite (fun _ => setCharge_keeps (stepCounts_fastLimit ..)) fun _ => setPhase_keeps _
  all_goals exact setPhase_keeps _

/-- The band step writes no law's figures but the fast-charge limit in force (R60). -/
theorem stepBand_keeps (hw : l.stepped = false) : Keeps l s (stepBand p s) := by
  unfold stepBand
  cases (s.ppt.ports.get p).record with
  | none => exact setCharge_keeps rfl
  | some r =>
    cases l with
    | fastLimits a b => cases hw
    | _ => exact id

theorem handFigures_keeps (lim : Band) (prof : Profile) : Keeps l s (handFigures p lim prof s) := by
  unfold handFigures
  cases (s.ppt.ports.get p).record <;> exact setCharge_keeps rfl

theorem phaseStep_keeps (hw : l.stepped = false) : Keeps l s (phaseStep p s) :=
  (stepBand_keeps hw).trans ((decidePhase_keeps _ _).trans (handFigures_keeps _ _))

theorem fireTimeout_keeps : Keeps l s (fireTimeout p s) := by
  unfold fireTimeout
  cases (s.ppc.charge.get p).due with
  | none => exact id
  | some t =>
    exact Keeps.trans (setCharge_keeps (p := p) (by rfl)) (Keeps.trans (ppc_keeps (zeroCharge_drive _ p))
      ((route_keeps .chargeTimeout _ _).trans (setPhase_keeps _)))

theorem chargeRemoval_keeps : Keeps l s (chargeRemoval p s) := (setCharge_keeps (by rfl)).trans (setPhase_keeps _)

/-! ## The pass (R87 to R97) -/

theorem setThrottle_keeps (x : Throttle) (hl : l ≠ .drives) :
    Keeps l s { s with ppc := { s.ppc with throttle := x } } := by
  cases l with
  | drives => exact absurd rfl hl
  | _ => exact id

theorem setLtr_keeps (b : Bool) (hl : l ≠ .drives) : Keeps l s { s with ppc := { s.ppc with ltr := b } } := by
  cases l with
  | drives => exact absurd rfl hl
  | _ => exact id

/-- LTR driven again stands as R96 says. -/
theorem redriveLtr_ltr : (redriveLtr s).ppc.ltr = true ↔
    s.ppc.throttle.state = .asserted ∨ s.ppc.throttle.state = .releasing ∨ Action.throttle ∈ s.lmt.actionSet := by
  simp [redriveLtr, or_assoc]

/-- Stage 6 is the new throttle state, at most one event, and LTR (R95, R96). -/
theorem throttleStage_cases (u : Nat) (s : State) :
    ∃ v : State, throttleStage u s = redriveLtr v ∧
      (v = { s with ppc := { s.ppc with throttle := throttleNext s.ppc.throttle u } } ∨
        ∃ c x, (c = .throttleOn ∨ c = .throttleOff) ∧
          v = route c 0 x { s with ppc := { s.ppc with throttle := throttleNext s.ppc.throttle u } }) := by
  refine ⟨_, rfl, ?_⟩
  split
  · exact .inr ⟨_, _, .inl rfl, rfl⟩
  · split
    · exact .inr ⟨_, _, .inr rfl, rfl⟩
    · exact .inl rfl

theorem throttleStage_keeps (u : Nat) : Keeps l s (throttleStage u s) := by
  obtain ⟨v, e, hv⟩ := throttleStage_cases u s
  rw [e]
  by_cases hl : l = .drives
  · subst hl
    rintro ⟨switch, -, low, low', critical, critical'⟩
    refine ⟨?_, redriveLtr_ltr, ?_⟩
    · obtain rfl | ⟨c, x, -, rfl⟩ := hv
      · exact switch
      · simpa [redriveLtr] using switch
    · rw [redriveLtr_ssc]
      obtain rfl | ⟨c, x, -, rfl⟩ := hv
      · exact ⟨low, low', critical, critical'⟩
      · simpa using ⟨low, low', critical, critical'⟩
  · refine Keeps.trans ?_ (setLtr_keeps _ hl)
    obtain rfl | ⟨c, x, hc, rfl⟩ := hv
    · exact setThrottle_keeps _ hl
    · refine Keeps.trans (setThrottle_keeps _ hl) (route_keeps c 0 x ?_ fun _ => ?_)
      · obtain rfl | rfl := hc <;> decide
      · obtain rfl | rfl := hc <;> rfl

theorem allocationPass_keeps (w : Sweep) : Keeps l s (allocationPass w s) :=
  (throttleStage_keeps _).trans (ppc_keeps ⟨rfl, rfl, rfl, rfl, rfl, rfl, rfl⟩)

/-- EVR with what the laws read of it left alone. -/
structure SameQueues (x y : Evr) : Prop where
  policy : y.policy = x.policy
  urgent : y.urgent = x.urgent
  normal : y.normal = x.normal
  normalState : y.normalState = x.normalState
  discarded : y.discarded = x.discarded
  keyMark : y.keyMark = x.keyMark

theorem evr_keeps {x : Evr} (h : SameQueues s.evr x) : Keeps l s { s with evr := x } := by
  have queue : QueueLaw { s with evr := x } ↔ QueueLaw s := by
    simp only [QueueLaw, PolicyLegal, h.policy, h.urgent, h.normal, h.normalState, h.discarded, h.keyMark]
  cases l with
  | queue => exact queue.2
  | keys =>
    simp only [Keeps, Law.holds, queue, KeyRecordLaw, h.normal, h.keyMark]
    exact id
  | system =>
    simp only [Keeps, Law.holds, queue]
    exact id
  | dark => simp only [Keeps, Law.holds, PolicyLegal, h.policy]; exact id
  | _ => exact id

theorem setBulk_queues (x : Evr) (b : BulkSlot) (f : Option (List Byte)) : SameQueues x (x.setBulk b f) := by
  cases b <;> exact ⟨rfl, rfl, rfl, rfl, rfl, rfl⟩

theorem endOfPass_keeps : Keeps l s (endOfPass s) :=
  Keeps.ite (fun _ => evr_keeps ⟨rfl, rfl, rfl, rfl, rfl, rfl⟩) fun _ => id

theorem completeAtPpc_keeps (w : Sweep) (hd : l = .dark → s.ssc.critical = true)
    (hw : l.stepped = false) : Keeps l s (completeAtPpc w s) :=
  (examineVad_keeps hd).trans (examineAid_keeps.trans ((phaseStep_keeps hw).trans ((phaseStep_keeps hw).trans
    ((allocationPass_keeps w).trans (examineBay_keeps.trans endOfPass_keeps)))))

end Sys2Proof.Machine


namespace Sys2Proof.Machine

variable {s t : State} {l : Law}

/-! ## The action set handed on (R27 to R30) -/

/-- FAN_FULL joining drives a fan at 1000, whatever it was held to before (R145). -/
theorem FanOk.fullDemand {m : PartMode} {full : Bool} {f : FanState} (h : FanOk m full f) :
    FanOk m true f.fullDemand ∧ FanOk m full f.fullDemand := by
  obtain ⟨kick, retry, lockout, other, driven, quiet⟩ := h
  cases hs : f.state <;>
    simp_all [FanState.fullDemand, FanState.setDemand, FanOk, FanState.drive]

theorem fullDemand_fans {full : Bool} (h : FanLawAt full s) :
    FanLawAt true (joinEffect .fanFull s) ∧ FanLawAt full (joinEffect .fanFull s) := by
  obtain ⟨curves, one, two, capture⟩ := h
  exact ⟨⟨curves, one.fullDemand.1, two.fullDemand.1, capture⟩, curves, one.fullDemand.2, two.fullDemand.2, capture⟩

theorem setSwitch_keeps (x : Ppc) (b : Bool) (hl : l ≠ .drives) (h : SameDrive s.ppc x) :
    Keeps l s { s with ppc := { x with adapterSwitchOpen := b } } := by
  refine Keeps.trans (ppc_keeps h) ?_
  cases l with
  | drives => exact absurd rfl hl
  | _ => exact id

theorem joinEffect_keeps (a : Action) (hl : l ≠ .drives) : Keeps l s (joinEffect a s) := by
  cases a with
  | none | systemOff => exact id
  | chargeStopA | chargeStopB | chargeStopAll | isolateA | isolateB =>
    exact ppc_keeps ⟨rfl, rfl, rfl, rfl, rfl, rfl, rfl⟩
  | inputOpen => exact setSwitch_keeps s.ppc.zeroBoth true hl ⟨rfl, rfl, rfl, rfl, rfl, rfl, rfl⟩
  | throttle => exact setLtr_keeps _ hl
  | fanFull =>
    cases l with
    | fans => exact fun h => (fullDemand_fans h).2
    | idleFans => exact fun h => (fullDemand_fans h).2
    | _ => exact id

theorem leaveEffect_keeps (a : Action) (hl : l ≠ .drives) : Keeps l s (leaveEffect a s) := by
  cases a with
  | inputOpen => exact setSwitch_keeps s.ppc false hl ⟨rfl, rfl, rfl, rfl, rfl, rfl, rfl⟩
  | throttle => exact setLtr_keeps _ hl
  | _ => exact id

variable {old new : List Action}

/-- What handing one action on does: nothing where it neither joins nor leaves. -/
theorem handAction_cases (old new : List Action) (s : State) (a : Action) :
    (new.contains a = old.contains a ∧ handAction old new s a = s) ∨
      (new.contains a = true ∧ old.contains a = false ∧ handAction old new s a = repath (joinEffect a s)) ∨
      (new.contains a = false ∧ old.contains a = true ∧ handAction old new s a = repath (leaveEffect a s)) := by
  unfold handAction
  cases hn : new.contains a <;> cases ho : old.contains a <;> simp

theorem handAction_keeps (a : Action) (hl : l ≠ .drives) : Keeps l s (handAction old new s a) := by
  obtain ⟨-, h⟩ | ⟨-, -, h⟩ | ⟨-, -, h⟩ := handAction_cases old new s a <;> rw [h]
  · exact id
  · exact (joinEffect_keeps a hl).trans repath_keeps
  · exact (leaveEffect_keeps a hl).trans repath_keeps

/-- Where some action joins or leaves, the paths and the flags are decided afresh; where none does, nothing is handed
on. -/
theorem foldl_handAction_settles (hl : l = .paths ∨ l = .flags) (as : List Action) (s : State) :
    ((∀ a ∈ as, new.contains a = old.contains a) ∧ as.foldl (handAction old new) s = s) ∨
      l.holds (as.foldl (handAction old new) s) := by
  have drives : l ≠ .drives := by obtain rfl | rfl := hl <;> simp
  induction as generalizing s with
  | nil => exact .inl ⟨by simp, rfl⟩
  | cons a as ih =>
    rw [List.foldl_cons]
    obtain ⟨ha, h⟩ | ⟨-, -, h⟩ | ⟨-, -, h⟩ := handAction_cases old new s a
    · rw [h]
      refine (ih s).imp_left fun ⟨has, e⟩ => ⟨?_, e⟩
      exact List.forall_mem_cons.2 ⟨ha, has⟩
    all_goals
      rw [h]
      exact .inr (Keeps.foldl (fun _ a => handAction_keeps a drives) as _ (repath_settles hl))

theorem mem_allActions (a : Action) : a ∈ allActions := by cases a <;> decide

/-- Action sets with the same members give the same paths and flags. -/
theorem settled_of_sameActions (hl : l = .paths ∨ l = .flags) {acts : List Action}
    (h : ∀ a, acts.contains a = s.lmt.actionSet.contains a) :
    Keeps l s { s with lmt := { s.lmt with actionSet := acts } } := by
  obtain rfl | rfl := hl
  · simp only [Keeps, Law.holds, pathOf, pathForcedOpen, altSupply, canSupply, adapterAway, chargeStopped, h]
    exact id
  · simp only [Keeps, Law.holds, batteryLowHolds, batteryCriticalHolds, adapterAway, h]
    exact id

/-- `DrivesLaw` with the members of the action set taken as said. -/
abbrev DrivesAt (acts : Action → Bool) (s : State) : Prop :=
  s.ppc.adapterSwitchOpen = acts .inputOpen ∧
    (s.ppc.ltr = true ↔ s.ppc.throttle.state = .asserted ∨ s.ppc.throttle.state = .releasing ∨
      acts .throttle = true) ∧
    5 ≤ s.ssc.lowThreshold ∧ s.ssc.lowThreshold ≤ 50 ∧ 2 ≤ s.ssc.criticalThreshold ∧
    s.ssc.criticalThreshold < s.ssc.lowThreshold

theorem drivesLaw_iff : DrivesLaw s ↔ DrivesAt s.lmt.actionSet.contains s := by
  simp only [DrivesLaw, DrivesAt, List.contains_iff_mem]

theorem repath_drivesAt {acts : Action → Bool} (h : DrivesAt acts s) : DrivesAt acts (repath s) := by
  obtain ⟨-, low, critical, -, -⟩ := decideLow_ssc (s := redecidePaths s)
  obtain ⟨-, low', critical', -, -⟩ := decideCritical_ssc (s := decideLow (redecidePaths s))
  simp only [DrivesAt, repath, decideBattery_ppc]
  rw [decideBattery, low', low, critical', critical]
  exact h

/-- One action handed on brings switch and LTR to what the new set says of it. -/
theorem handAction_drivesAt {acts : Action → Bool} (a : Action) (ha : acts a = old.contains a)
    (hn : s.lmt.actionSet = new) (h : DrivesAt acts s) :
    DrivesAt (Function.update acts a (new.contains a)) (handAction old new s a) := by
  obtain ⟨hc, e⟩ | ⟨hc, -, e⟩ | ⟨hc, -, e⟩ := handAction_cases old new s a <;> rw [e]
  · rwa [hc, ← ha, Function.update_eq_self]
  · refine repath_drivesAt ?_
    rw [hc]
    obtain ⟨switch, ltr, thresholds⟩ := h
    cases a with
    | inputOpen => exact ⟨rfl, ltr, thresholds⟩
    | throttle =>
      refine ⟨switch, ?_, thresholds⟩
      rw [Function.update_self]
      refine (redriveLtr_ltr (s := s)).trans (or_congr_right (or_congr_right (iff_of_true ?_ rfl)))
      rw [hn]; exact List.contains_iff_mem.1 hc
    | _ => exact ⟨switch, ltr, thresholds⟩
  · refine repath_drivesAt ?_
    rw [hc]
    obtain ⟨switch, ltr, thresholds⟩ := h
    cases a with
    | inputOpen => exact ⟨rfl, ltr, thresholds⟩
    | throttle =>
      refine ⟨switch, ?_, thresholds⟩
      rw [Function.update_self]
      refine (redriveLtr_ltr (s := s)).trans (or_congr_right (or_congr_right (iff_of_false (fun c => ?_) nofun)))
      rw [hn] at c; rw [List.contains_iff_mem.2 c] at hc; cases hc
    | _ => exact ⟨switch, ltr, thresholds⟩

theorem foldl_handAction_drivesAt (as : List Action) (nodup : as.Nodup) (s : State) {acts : Action → Bool}
    (ha : ∀ a ∈ as, acts a = old.contains a) (hn : s.lmt.actionSet = new) (h : DrivesAt acts s) :
    DrivesAt (fun a => if a ∈ as then new.contains a else acts a) (as.foldl (handAction old new) s) := by
  induction as generalizing s acts with
  | nil => simpa using h
  | cons a as ih =>
    obtain ⟨notIn, nodup⟩ := List.nodup_cons.1 nodup
    have step := handAction_drivesAt a (ha a List.mem_cons_self) hn h
    have rest := ih nodup _ (acts := Function.update acts a (new.contains a)) (fun b hb => by
      rw [Function.update_of_ne (by rintro rfl; exact notIn hb)]
      exact ha b (List.mem_cons_of_mem _ hb)) (by rw [handAction_lmt]; exact hn) step
    refine Eq.mp (congrArg (fun f => DrivesAt f _) (funext fun b => ?_)) rest
    simp only [List.mem_cons]
    by_cases hb : b = a
    · subst hb; simp [notIn]
    · simp [hb]

/-- A join of FAN_FULL in a run of actions brings the fans to it (R145). -/
theorem foldl_handAction_fans (as : List Action) (s : State) (hm : Action.fanFull ∈ as)
    (hn : s.lmt.actionSet = new) (hj : new.contains .fanFull = true) (ho : old.contains .fanFull = false)
    (h : FanLawAt false s) : FanLaw (as.foldl (handAction old new) s) := by
  induction as generalizing s with
  | nil => cases hm
  | cons a as ih =>
    rw [List.foldl_cons]
    by_cases ha : a = .fanFull
    · subst ha
      refine Keeps.foldl (l := .fans) (fun _ a => handAction_keeps a (by simp)) as _ ?_
      obtain ⟨c, -⟩ | ⟨-, -, e⟩ | ⟨c, -⟩ := handAction_cases old new s .fanFull
      · rw [hj, ho] at c; cases c
      · rw [e]
        refine repath_keeps (l := .fans) ?_
        rw [Law.holds, FanLaw, joinEffect_lmt, hn, hj]
        exact (fullDemand_fans h).1
      · rw [hj] at c; cases c
    · refine ih _ ((List.mem_cons.1 hm).resolve_left (Ne.symm ha)) (by rw [handAction_lmt]; exact hn) ?_
      exact handAction_keeps (l := .idleFans) a (by simp) h

/-- A fan that is held to FAN_FULL meets the weaker law too. -/
theorem FanOk.idle {m : PartMode} {full : Bool} {f : FanState} (h : FanOk m full f) : FanOk m false f := by
  obtain ⟨kick, retry, lockout, other, -, quiet⟩ := h
  exact ⟨kick, retry, lockout, other, nofun, quiet⟩

theorem recompute_fans (h : FanLaw s) : FanLaw (recomputeActions s) := by
  have idle : FanLawAt false s := ⟨h.1, h.2.1.idle, h.2.2.1.idle, h.2.2.2⟩
  let u : State := { s with lmt := { s.lmt with actionSet := s.lmt.carried } }
  have stays (hu : FanLaw u) : FanLaw (recomputeActions s) :=
    Keeps.foldl (l := .fans) (fun _ a => handAction_keeps a (by simp)) _ u hu
  cases hn : s.lmt.carried.contains .fanFull with
  | false =>
    refine stays ?_
    rw [FanLaw, show u.lmt.actionSet.contains .fanFull = false from hn]
    exact idle
  | true =>
    cases ho : s.lmt.actionSet.contains .fanFull with
    | false => exact foldl_handAction_fans _ u (mem_allActions _) rfl hn ho idle
    | true =>
      refine stays ?_
      rw [FanLaw, show u.lmt.actionSet.contains .fanFull = true from hn]
      rwa [FanLaw, ho] at h

theorem recompute_drives (h : DrivesLaw s) : DrivesLaw (recomputeActions s) := by
  have := foldl_handAction_drivesAt allActions (by decide)
    { s with lmt := { s.lmt with actionSet := s.lmt.carried } } (acts := s.lmt.actionSet.contains)
    (old := s.lmt.actionSet) (new := s.lmt.carried) (fun _ _ => rfl) rfl (drivesLaw_iff.1 h)
  rw [drivesLaw_iff, recomputeActions_lmt]
  simp only [mem_allActions, if_true] at this
  exact this

/-- The action set recomputed is the union of the carried actions (R27). -/
theorem recompute_carried : Law.holds .carried (recomputeActions s) := by
  rw [Law.holds, recomputeActions_lmt]; rfl

/-- A recomputation of the action set keeps every law (R27 to R31). -/
theorem recompute_keeps : Keeps l s (recomputeActions s) := by
  have settled (hl : l = .paths ∨ l = .flags) : Keeps l s (recomputeActions s) := fun h => by
    obtain ⟨same, e⟩ | h := foldl_handAction_settles hl (old := s.lmt.actionSet) (new := s.lmt.carried) allActions
      { s with lmt := { s.lmt with actionSet := s.lmt.carried } }
    · rw [recomputeActions, e]
      exact settled_of_sameActions hl (fun a => same a (mem_allActions a)) h
    · exact h
  have folds (hd : l ≠ .drives) (h : Keeps l s { s with lmt := { s.lmt with actionSet := s.lmt.carried } }) :
      Keeps l s (recomputeActions s) :=
    h.trans (Keeps.foldl (fun _ a => handAction_keeps a hd) _ _)
  cases l with
  | fans => exact recompute_fans
  | drives => exact recompute_drives
  | carried => exact fun _ => recompute_carried
  | paths => exact settled (.inl rfl)
  | flags => exact settled (.inr rfl)
  | _ => exact folds (by simp) id

/-! ## Samples, loads and clears at LMT (R18 to R32) -/

theorem lmt_keeps {x : Lmt} (ha : x.actionSet = s.lmt.actionSet) (hl : l ≠ .carried) :
    Keeps l s { s with lmt := x } := by
  cases l with
  | carried => exact absurd rfl hl
  | fans => simp only [Keeps, Law.holds, FanLaw, ha]; exact id
  | drives => simp only [Keeps, Law.holds, DrivesLaw, ha]; exact id
  | paths =>
    simp only [Keeps, Law.holds, pathOf, pathForcedOpen, altSupply, canSupply, adapterAway, ha]
    exact id
  | flags =>
    simp only [Keeps, Law.holds, batteryLowHolds, batteryCriticalHolds, adapterAway, ha]
    exact id
  | _ => exact id

/-- A channel's record replaced keeps what it carries while it stays tripped or untripped (R27). -/
theorem Lmt.carried_setChan_iff {x : Lmt} {ch : Fin 16} {c : LimitChan}
    (h : c.Tripped ↔ (x.chans.get ch).Tripped) : (x.setChan ch c).carried = x.carried := by
  have same (a : Action) (i : Fin 16) : (x.setChan ch c).carries a i = x.carries a i := by
    rw [Bool.eq_iff_iff, Lmt.carries_iff, Lmt.carries_iff, Lmt.setChan, Table.get_set]
    refine and_congr_left fun _ => ?_
    split
    · next e => rw [e]; exact h
    · rfl
  simp only [Lmt.carried, funext (same _)]

theorem setChan_keeps {ch : Fin 16} {c : LimitChan} (h : l = .carried → (c.Tripped ↔ (s.lmt.chans.get ch).Tripped)) :
    Keeps l s { s with lmt := s.lmt.setChan ch c } := by
  by_cases hl : l = .carried
  · subst hl
    intro hs
    rw [Law.holds, Lmt.carried_setChan_iff (h rfl)]
    exact hs
  · exact lmt_keeps (x := s.lmt.setChan ch c) rfl hl

theorem enterFault_keeps (ch : Fin 16) (c : LimitChan) (v : Int) : Keeps l s (enterFault ch c v s) := by
  have off (u : State) : Keeps l u (if (s.lmt.entries.get ch).action = .systemOff then forceOff .fault u else u) :=
    Keeps.ite (fun _ => forceOff_keeps _) fun _ => id
  unfold enterFault
  refine Keeps.trans ?_ (off _)
  by_cases hl : l = .carried
  · subst hl; exact fun _ => recompute_carried
  · refine Keeps.trans ?_ recompute_keeps
    have chan := setChan_keeps (l := l) (s := s) (ch := ch) (c := c.trip v s.tmb.ms) fun h => absurd h hl
    exact Keeps.ite (fun _ => chan.trans (route_keeps .limitFault _ _)) fun _ => chan

/-- A sample never takes a channel into or out of FAULT and HELD but by an entry to FAULT (R21 to R24). -/
theorem judgeChan_tripped_iff {e : LimitEntry} {c : LimitChan} {v : Int} (h : (judgeChan e c v).state ≠ .fault) :
    (judgeChan e c v).Tripped ↔ c.Tripped := by
  refine ⟨fun ht => ?_, judgeChan_tripped⟩
  have held : (judgeChan e c v).state = .held := ht.resolve_left h
  by_contra hc
  simp only [LimitChan.Tripped, not_or] at hc
  cases hs : c.state with
  | fault => exact hc.1 hs
  | held => exact hc.2 hs
  | normal =>
    simp only [judgeChan, hs] at held
    revert held
    cases zoneOf e v <;> simp only <;> (try split) <;> simp [LimitChan.enter, LimitChan.runs, hs]
  | warning =>
    simp only [judgeChan, hs] at held
    revert held
    repeat' split
    all_goals simp [LimitChan.enter, LimitChan.runs, hs]

theorem judgeSample_keeps_law (ch : Fin 16) (v : Int) : Keeps l s (judgeSample ch v s) := by
  refine Keeps.ite (fun _ => Keeps.ite (fun same => ?_) fun _ => ?_) fun _ => id
  · refine setChan_keeps fun _ => ?_
    simp only [LimitChan.Tripped, same]
  · generalize hc : judgeChan (s.lmt.entries.get ch) (s.lmt.chans.get ch) v = c
    have chan (h : c.state ≠ .fault) : Keeps l s { s with lmt := s.lmt.setChan ch c } :=
      setChan_keeps fun _ => by rw [← hc] at h ⊢; exact judgeChan_tripped_iff h
    cases hs : c.state with
    | fault => exact enterFault_keeps ch c v
    | warning =>
      have := chan (by rw [hs]; decide)
      exact Keeps.ite (fun _ => this.trans (route_keeps .limitWarning _ _)) fun _ => this
    | held => exact (chan (by rw [hs]; decide)).trans (route_keeps .limitHeld _ _)
    | normal => exact chan (by rw [hs]; decide)

theorem clearChan_keeps (ch : Fin 16) (hl : l ≠ .carried) : Keeps l s (clearChan ch s) :=
  (setChan_keeps fun h => absurd h hl).trans (route_keeps .limitCleared _ _)

theorem clearHeld_keeps : Keeps l s (clearHeld s) := by
  by_cases hl : l = .carried
  · subst hl; exact fun _ => recompute_carried
  · refine Keeps.trans (Keeps.foldl (fun t ch => ?_) _ s) recompute_keeps
    exact Keeps.ite (fun _ => clearChan_keeps ch hl) fun _ => id

theorem loadLimitEntry_keeps (ch : Fin 16) (e : LimitEntry) : Keeps l s (loadLimitEntry ch e s) := by
  have entry (hl : l ≠ .carried) :
      Keeps l s { s with lmt := { s.lmt with entries := s.lmt.entries.set ch e } } := lmt_keeps rfl hl
  have recomputed {u : State} (h : l ≠ .carried → Keeps l s u) : Keeps l s (recomputeActions u) := by
    by_cases hl : l = .carried
    · subst hl; exact fun _ => recompute_carried
    · exact (h hl).trans recompute_keeps
  refine Keeps.ite (fun _ => ?_) fun _ => recomputed fun hl => ?_
  · exact Keeps.ite (fun _ => (recomputed entry).trans (forceOff_keeps _)) fun _ => recomputed entry
  · exact Keeps.ite (fun _ => (entry hl).trans (clearChan_keeps ch hl))
      fun _ => (entry hl).trans (setChan_keeps fun h => absurd h hl)

theorem restoreLimits_keeps : Keeps l s (restoreLimits s) := by
  have recomputed : Keeps l s (recomputeActions { s with lmt := { s.lmt with entries := defaultLimits } }) := by
    by_cases hl : l = .carried
    · subst hl; exact fun _ => recompute_carried
    · refine Keeps.trans ?_ recompute_keeps
      exact lmt_keeps rfl hl
  exact Keeps.ite (fun _ => recomputed.trans (forceOff_keeps _)) fun _ => recomputed

end Sys2Proof.Machine


namespace Sys2Proof.Machine

variable {s t : State} {l : Law} {f : Fan} {full : Bool}

/-! ## Fans (R136, R139 to R148) -/

/-- FAN_FULL taken as said is in the action set. -/
abbrev InForce (full : Bool) (s : State) : Prop := full = true → s.lmt.actionSet.contains .fanFull = true

/-- A write to FNC keeps every law when it keeps that of the fans. -/
theorem fnc_keeps {x : Fnc} (h : ∀ full, InForce full s → FanLawAt full s → FanLawAt full { s with fnc := x }) :
    Keeps l s { s with fnc := x } := by
  cases l with
  | fans => exact h _ id
  | idleFans => exact h _ nofun
  | _ => exact id

theorem FanLawAt.fan (h : FanLawAt full s) (f : Fan) : FanOk s.ssc.mode full (s.fnc.fans.get f) := by
  cases f
  · exact h.2.1
  · exact h.2.2.1

theorem setFan_keeps {x : FanState} (h : ∀ full, InForce full s → FanLawAt full s → FanOk s.ssc.mode full x) :
    Keeps l s (setFan f x s) := by
  refine fnc_keeps fun full ha law => ?_
  have ok := h full ha law
  cases f
  · exact ⟨law.1, ok, law.2.2⟩
  · exact ⟨law.1, law.2.1, ok, law.2.2.2⟩

section

variable {m : PartMode} {x : FanState}

theorem FanOk.setDemand (h : FanOk m full x) {d : Nat} (hd : full = true → d = 1000) :
    FanOk m full (x.setDemand d) := by
  obtain ⟨kick, retry, lockout, other, driven, quiet⟩ := h
  by_cases h0 : d = 0 <;> cases hs : x.state <;> cases full <;>
    simp_all [FanState.setDemand, FanOk, FanState.drive]

theorem FanOk.enterRunning (h : FanOk m full x) (hs : x.state = .kick ∨ x.state = .stallRetry) :
    FanOk m full ({ x with retries := 0, kickTimer := none : FanState }.enterRunning m) := by
  obtain ⟨kick, retry, lockout, other, driven, quiet⟩ := h
  obtain hs | hs := hs <;> cases m <;> simp_all [FanState.enterRunning, FanOk, FanState.drive]

theorem FanOk.kickEnd (h : FanOk m full x) (hs : x.state = .kick) : FanOk m full (x.kickEnd m) := by
  unfold FanState.kickEnd
  split
  · next h0 =>
    obtain ⟨kick, retry, lockout, other, driven, quiet⟩ := h
    cases full <;> simp_all [FanOk]
  · have zero : x.retries = 0 := h.2.2.2.1 (by simp [hs]) (by simp [hs])
    have same : { x with kickTimer := none : FanState } = { x with retries := 0, kickTimer := none } := by
      rw [← zero]
    rw [same]
    exact h.enterRunning (.inl hs)

theorem FanOk.retryEnd (h : FanOk m full x) (hs : x.state = .stallRetry) : FanOk m full x.retryEnd := by
  obtain ⟨kick, retry, lockout, other, driven, quiet⟩ := h
  obtain ⟨low, high⟩ := retry hs
  unfold FanState.retryEnd
  split
  · simp_all [FanOk, FanState.drive]
  · simp_all [FanOk, FanState.drive]; omega

theorem FanOk.stalled (h : FanOk m full x) (hm : m = .full) (hs : x.state ≠ .stallLockout) :
    FanOk m full x.stalled := by
  obtain ⟨kick, retry, lockout, other, driven, quiet⟩ := h
  subst hm
  simp_all [FanState.stalled, FanOk, FanState.drive]

theorem FanOk.tachEdge (h : FanOk m full x) (hm : m = .full) (i : Option Nat) : FanOk m full (x.tachEdge i) := by
  subst hm
  exact ⟨h.1, h.2.1, h.2.2.1, h.2.2.2.1, h.2.2.2.2.1, nofun⟩

theorem FanOk.silent (h : FanOk m full x) : FanOk m full { x with silent := true, silenceTimer := none } :=
  ⟨h.1, h.2.1, h.2.2.1, h.2.2.2.1, h.2.2.2.2.1, fun hm => ⟨rfl, (h.2.2.2.2.2 hm).2.1, rfl, (h.2.2.2.2.2 hm).2.2.2⟩⟩

theorem FanOk.stallCheckOff (h : FanOk m full x) : FanOk m full (x.stallCheckOff m) := by
  unfold FanState.stallCheckOff
  split
  · next hs => exact h.enterRunning (.inr hs)
  · exact h

theorem FanOk.unlocked (h : FanOk m full x) {acts : Bool} (ha : full = true → acts = true) :
    FanOk m full (x.unlocked acts) := by
  obtain ⟨kick, retry, lockout, other, driven, quiet⟩ := h
  cases hs : x.state <;> cases full <;> cases acts <;>
    simp_all [FanState.unlocked, FanState.setDemand, FanOk, FanState.drive]

theorem timerTick_isSome (t : Timer) : (timerTick t).isSome = t.isSome := by cases t <;> rfl

theorem FanOk.tick (h : FanOk m full x) : FanOk m full x.tick := by
  obtain ⟨kick, retry, lockout, other, driven, quiet⟩ := h
  refine ⟨?_, retry, lockout, other, driven, fun hm => ?_⟩
  · rw [FanState.tick, timerTick_isSome]; exact kick
  · obtain ⟨timer, rest⟩ := quiet hm
    exact ⟨by simp [FanState.tick, timer, timerTick], rest⟩

end

/-- An event leaves the fans and the part mode alone, or brings FULL. -/
theorem route_fans (c : EventCode) (n : Nat) (v : Int) (s : State) :
    ((route c n v s).fnc.fans = s.fnc.fans ∧ (route c n v s).ssc.mode = s.ssc.mode) ∨
      ((route c n v s).fnc.fans = s.fnc.fans.map FanState.wakeFull ∧ (route c n v s).ssc.mode = .full) := by
  have moved (u : State) (hu : u.ssc.state = .off) : ((sscAct c u).fnc.fans = u.fnc.fans ∧
      (sscAct c u).ssc.mode = u.ssc.mode) ∨ ((sscAct c u).fnc.fans = u.fnc.fans.map FanState.wakeFull ∧
      (sscAct c u).ssc.mode = .full) := by
    rw [sscAct_ssc_of_off c hu]
    simp only [sscAct, hu, if_true, moveOnEvent, moveMode, reduceCtorEq, if_false, setMode]
    split
    · next hm =>
      refine .inl ⟨by rw [handMove_fnc _ _ (by decide)]; rfl, ?_⟩
      rw [handMove_ssc _ _ (by decide)] at hm; exact hm
    · refine .inr ⟨?_, trivial⟩
      rw [handMove_fnc _ _ (by decide)]; rfl
  unfold route
  split
  · next ha =>
    obtain hs | hs := state_of_sscActs ha
    · exact moved (record c n v true s) hs
    · left
      refine ⟨?_, by rw [sscAct_ssc_of_standby (s := record c n v true s) c hs]; rfl⟩
      simp only [sscAct, moveOnEvent, moveMode, record_ssc, hs, reduceCtorEq, if_false,
        handMove_fnc _ _ (show SysState.waking ≠ .off by decide)]
      rfl
  · exact .inl ⟨rfl, rfl⟩

theorem route_fan_state (c : EventCode) (n : Nat) (v : Int) (s : State) (f : Fan) :
    ((route c n v s).fnc.fans.get f).state = (s.fnc.fans.get f).state := by
  obtain ⟨h, -⟩ | ⟨h, -⟩ := route_fans c n v s <;> rw [h]
  cases f <;> simp only [PerFan.get, PerFan.map, FanState.wakeFull] <;> split <;> rfl

theorem route_full (c : EventCode) (n : Nat) (v : Int) (h : s.ssc.mode = .full) :
    (route c n v s).ssc.mode = .full := by
  obtain ⟨-, hm⟩ | ⟨-, hm⟩ := route_fans c n v s
  · rw [hm, h]
  · exact hm

theorem setFan_get (x : FanState) (s : State) : (setFan f x s).fnc.fans.get f = x := by cases f <;> rfl

/-- What FNC makes of a tach edge keeps every law in FULL (R146, R147). -/
theorem fanEdge_keeps (i : Option Nat) (hm : l = .fans ∨ l = .idleFans → s.ssc.mode = .full) :
    Keeps l s (fanEdge f i s) := by
  by_cases hl : l = .fans ∨ l = .idleFans
  · have mode := hm hl
    have edge : Keeps l s (setFan f ((s.fnc.fans.get f).tachEdge i) s) :=
      setFan_keeps fun full _ law => (law.fan f).tachEdge mode i
    refine Keeps.ite (fun hs => ?_) fun _ => edge
    refine edge.trans (Keeps.trans (route_keeps .fanRecovered _ _) (setFan_keeps fun full _ law => ?_))
    refine (law.fan f).enterRunning (.inr ?_)
    rw [route_fan_state, setFan_get]
    exact hs
  · have free (x : FanState) (u : State) : Keeps l u (setFan f x u) := by
      cases l with
      | fans | idleFans => simp at hl
      | _ => exact id
    exact Keeps.ite (fun _ => (free _ s).trans (Keeps.trans (route_keeps .fanRecovered _ _) (free _ _)))
      fun _ => free _ s

theorem demandOf_full {m : PartMode} {a b c : Nat} (h : c ≤ 1000) : demandOf true m a b c = 1000 := by
  simp [demandOf, h]

theorem curveOf_minDuty (h : CurvesOk s.fnc) (f : Fan) : (s.fnc.curveOf f).minDuty ≤ 1000 := by
  cases f
  · exact (h _).1
  · exact (h _).2

theorem evaluateFan_keeps : Keeps l s (evaluateFan f s) := by
  refine setFan_keeps fun full ha law => ?_
  refine FanOk.setDemand ?_ fun hf => by rw [ha hf]; exact demandOf_full (curveOf_minDuty law.1 f)
  have := law.fan f
  cases hm : s.ssc.mode with
  | full =>
    rw [hm] at this
    simp only [FanState.readCurve]
    split
    · exact this
    · exact this
  | quiet =>
    rw [hm] at this
    exact this

theorem unlockFans_keeps : Keeps l s (unlockFans s) :=
  fnc_keeps fun _ ha law => ⟨law.1, law.2.1.unlocked ha, law.2.2.1.unlocked ha, law.2.2.2⟩

theorem loadConfig_keeps (c : FanConfig) : Keeps l s (loadConfig f c s) := by
  have config : Keeps l s { s with fnc := { s.fnc with configs := s.fnc.configs.set f c } } :=
    fnc_keeps fun _ _ law => law
  refine Keeps.ite (fun _ => config.trans (setFan_keeps fun full _ law => ?_)) fun _ => config
  exact FanOk.stallCheckOff (law.fan f)

/-! ## The commands of the fans -/

/-- An outcome that keeps a law. -/
def KeepsNext (l : Law) (s : State) (r : Result) : Prop := ∀ t, r = .next t → Keeps l s t

theorem keepsNext_next : KeepsNext l s (.next t) ↔ Keeps l s t :=
  ⟨fun h => h t rfl, fun h _ e => by cases e; exact h⟩

/-- A command that acts where it is due, and else changes nothing (log 2). -/
theorem keepsNext_due {c : Prop} [Decidable c] (h : c → Keeps l s t) :
    KeepsNext l s (if c then .next t else .next s) := by
  split
  · exact keepsNext_next.2 (h ‹_›)
  · exact keepsNext_next.2 id

theorem execTachEdge_keeps (us : Nat) : KeepsNext l s (execTachEdge f us s) := by
  refine keepsNext_due fun hr => ?_
  have capture (hl : l = .fans ∨ l = .idleFans) (h : l.holds s) : s.ssc.mode = .full := by
    have law : s.tmb.capture.one.running = decide (s.ssc.mode = .full) ∧
        s.tmb.capture.two.running = decide (s.ssc.mode = .full) := by
      obtain rfl | rfl := hl
      · exact h.2.2.2
      · exact h.2.2.2
    cases f
    · exact of_decide_eq_true (law.1.symm.trans hr)
    · exact of_decide_eq_true (law.2.symm.trans hr)
  have edge : Keeps l s { s with tmb := { s.tmb with capture := s.tmb.capture.set f (s.tmb.capture.get f).edge } } := by
    cases l with
    | fans | idleFans => cases f <;> exact id
    | _ => exact id
  intro h
  exact fanEdge_keeps _ (fun hl => capture hl h) (edge h)

theorem execFanEvaluation_keeps : KeepsNext l s (execFanEvaluation s) :=
  keepsNext_due fun _ => by
    refine Keeps.trans (Keeps.trans ?_ evaluateFan_keeps) evaluateFan_keeps
    exact fnc_keeps fun _ _ law => law

theorem execKickEnd_keeps : KeepsNext l s (execKickEnd f s) :=
  keepsNext_due fun h => setFan_keeps fun _ _ law => (law.fan f).kickEnd h.1

theorem execRetryKickEnd_keeps : KeepsNext l s (execRetryKickEnd f s) := by
  unfold execRetryKickEnd
  dsimp only
  split
  · next h =>
    have retry : Keeps l s (setFan f (s.fnc.fans.get f).retryEnd s) :=
      setFan_keeps fun _ _ law => (law.fan f).retryEnd h.1
    split
    · exact keepsNext_next.2 retry
    · exact keepsNext_next.2 (retry.trans (route_keeps .fanLockout _ _))
  · exact keepsNext_next.2 id

/-- The silence timer of a fan that is being timed runs in FULL only (R146, R149). -/
theorem FanOk.mode_full {m : PartMode} {x : FanState} (h : FanOk m full x) (hx : timerDue x.silenceTimer = true) :
    m = .full := by
  cases m with
  | full => rfl
  | quiet => rw [(h.2.2.2.2.2 rfl).1] at hx; cases hx

theorem execTachSilenceTimeout_keeps : KeepsNext l s (execTachSilenceTimeout f s) := by
  unfold execTachSilenceTimeout
  dsimp only
  split
  · next due =>
    have silent : Keeps l s (setFan f { s.fnc.fans.get f with silent := true, silenceTimer := none } s) :=
      setFan_keeps fun _ _ law => (law.fan f).silent
    split
    · next running =>
      refine keepsNext_next.2 fun h => ?_
      have full (hl : l = .fans ∨ l = .idleFans) : s.ssc.mode = .full := by
        obtain rfl | rfl := hl
        · exact (FanLawAt.fan h f).mode_full due
        · exact (FanLawAt.fan h f).mode_full due
      refine Keeps.trans silent (Keeps.trans (route_keeps .fanStall (fanNum f) 0) ?_) h
      by_cases hl : l = .fans ∨ l = .idleFans
      · refine setFan_keeps fun _ _ law => (law.fan f).stalled (route_full _ _ _ (full hl)) ?_
        rw [route_fan_state, setFan_get]
        simp [running.1]
      · cases l with
        | fans | idleFans => simp at hl
        | _ => exact id
    · exact keepsNext_next.2 silent
  · exact keepsNext_next.2 id

theorem setSlot_keeps (i : Fin 4) (x : HostSlot) : Keeps l s (setSlot i x s) := fnc_keeps fun _ _ law => law

theorem execHostTempStale_keeps (i : Fin 4) : KeepsNext l s (execHostTempStale i s) :=
  keepsNext_due fun _ => (setSlot_keeps i _).trans (route_keeps .hostTempStale _ _)

theorem execOverrideExpiry_keeps : KeepsNext l s (execOverrideExpiry s) :=
  keepsNext_due fun _ => fnc_keeps fun _ _ law => law

end Sys2Proof.Machine


namespace Sys2Proof.Machine

variable {s t : State} {l : Law} {p : Fin 144}

/-! ## One position of the keyboard (R105 to R118) -/

/-- A key that is down or being released: the states in which a position may be announced (R115). -/
abbrev KeyHeld (st : KeyState) : Prop := st = .down ∨ st = .releaseDebounce

/-- The law of key records at one position. -/
abbrev PosOk (e : Evr) (p : Fin 144) (r : PosRec) : Prop :=
  KeyOk e p r.announced ∧ (r.announced = true → KeyHeld r.state)

theorem PosOk.unannounced {e : Evr} {r : PosRec} (h : PosOk e p r) (hs : ¬ KeyHeld r.state) : r.announced = false :=
  Bool.eq_false_iff.2 (mt h.2 hs)

/-- Once a scan pass has been made the laws of the keyboard hold with one position and the queue replaced where they hold
at that position and the other positions' records are left alone. -/
theorem keys_setKey {r : PosRec} {e : Evr} (hf : s.kms.firstPass = false) (h : Law.holds .keys s) (ok : EvrOk e)
    (other : ∀ q ≠ p, ∀ a, KeyOk s.evr q a → KeyOk e q a) (here : PosOk e p r) :
    Law.holds .keys { setKey p r s with evr := e } := by
  obtain ⟨⟨⟨gate, stopped, runs, first, exited⟩, records⟩, q⟩ := h
  rw [keyRecordLaw_iff] at records
  refine ⟨⟨⟨gate, stopped, runs, fun hc => ?_, exited⟩, keyRecordLaw_iff.2 fun q => ?_⟩,
    queueLaw_iff.2 ⟨ok, (queueLaw_iff.1 q).2⟩⟩
  · rw [show s.kms.firstPass = true from hc] at hf; cases hf
  · simp only [setKey, Kms.setPos, Table.get_set]
    split
    · next hq => subst hq; exact here
    · next hq => exact ⟨other q (fun c => hq c) _ (records q).1, (records q).2⟩

theorem setKey_keeps_other (r : PosRec) (hl : l ≠ .keys) : Keeps l s (setKey p r s) := by
  cases l with
  | keys => exact absurd rfl hl
  | _ => exact id

/-- A position's state and count replaced: a key that was held stays held, or is not announced. -/
theorem setKey_keeps {r : PosRec} (hf : l = .keys → s.kms.firstPass = false)
    (hr : PosOk s.evr p (s.kms.positions.get p) → PosOk s.evr p r) : Keeps l s (setKey p r s) := by
  by_cases hl : l = .keys
  · subst hl
    intro h
    have ⟨⟨_, records⟩, q⟩ := h
    exact keys_setKey (hf rfl) h (queueLaw_iff.1 q).1 (fun _ _ _ => id) (hr (keyRecordLaw_iff.1 records p))
  · exact setKey_keeps_other r hl

/-- A position's state and count replaced, its announced field kept. -/
theorem setKeyCount_keeps {st : KeyState} {n : Nat} (hf : l = .keys → s.kms.firstPass = false)
    (hs : KeyHeld (s.kms.positions.get p).state → KeyHeld st) :
    Keeps l s (setKey p { s.kms.positions.get p with state := st, count := n } s) :=
  setKey_keeps hf fun h => ⟨h.1, fun ha => hs (h.2 ha)⟩

/-- A record handed to EVR with its position's record replaced (R114, R115). -/
theorem placeKey_keeps {r : PosRec} {k : KeyRecord} (hf : l = .keys → s.kms.firstPass = false) (hk : k.position = p)
    (hr : EvrOk s.evr → PosOk s.evr p (s.kms.positions.get p) → PosOk (s.evr.placeNormal (.key k)) p r) :
    Keeps l s (placeKey k (setKey p r s)) := by
  by_cases hl : l = .keys
  · subst hl
    intro h
    have ⟨⟨_, records⟩, q⟩ := h
    have ok := (queueLaw_iff.1 q).1
    exact keys_setKey (hf rfl) h (evrOk_placeNormal ok _)
      (fun q hq a ho => ho.placeOther (by rw [hk]; exact fun c => hq c.symm))
      (hr ok (keyRecordLaw_iff.1 records p))
  refine Keeps.trans (setKey_keeps_other (p := p) r hl) ?_
  cases l with
  | keys => exact absurd rfl hl
  | queue => exact fun h => queueLaw_iff.2 ⟨evrOk_placeNormal (queueLaw_iff.1 h).1 _, (queueLaw_iff.1 h).2⟩
  | system => exact fun h => ⟨h.1, queueLaw_iff.2 ⟨evrOk_placeNormal (queueLaw_iff.1 h.2).1 _, (queueLaw_iff.1 h.2).2⟩⟩
  | dark => exact fun h => ⟨h.1, by simpa only [PolicyLegal, placeKey, Evr.placeNormal_policy] using h.2⟩
  | _ => exact id

theorem pressRecord_keeps {r : PosRec} (hf : l = .keys → s.kms.firstPass = false) (hr : r.state = .down)
    (ha : r.announced = false) (hs : ¬ KeyHeld (s.kms.positions.get p).state) : Keeps l s (pressRecord p r s) := by
  unfold pressRecord
  split
  · refine setKey_keeps hf fun h => ⟨?_, fun c => .inl hr⟩
    rw [ha, ← h.unannounced hs]
    exact h.1
  · refine placeKey_keeps hf rfl fun ok h => ⟨KeyOk.placeKey ok ?_ fun hacc => hacc, fun _ => .inl hr⟩
    rw [← h.unannounced hs]
    exact h.1

theorem keyWake_keeps {code : Nat} : Keeps l s (keyWake p code s) := by
  unfold keyWake
  refine Keeps.ite (fun hs => ?_) fun _ => id
  by_cases hd : l = .dark
  · subst hd
    exact fun h => by rw [h.1] at hs; simp at hs
  · exact route_keeps .keyWake _ _ (by decide) fun h => absurd h hd

theorem completePress_keeps (hf : l = .keys → s.kms.firstPass = false)
    (hs : ¬ KeyHeld (s.kms.positions.get p).state) : Keeps l s (completePress p s) :=
  Keeps.ite (fun _ => setKeyCount_keeps hf fun h => absurd h hs)
    fun _ => (pressRecord_keeps hf rfl rfl hs).trans keyWake_keeps

theorem pressDebounce_keeps (n : Nat) (hf : l = .keys → s.kms.firstPass = false)
    (hs : ¬ KeyHeld (s.kms.positions.get p).state) : Keeps l s (pressDebounce p n s) :=
  Keeps.ite (fun _ => completePress_keeps hf hs) fun _ => setKeyCount_keeps hf fun h => absurd h hs

theorem completeRelease_keeps (hf : l = .keys → s.kms.firstPass = false) : Keeps l s (completeRelease p s) := by
  unfold completeRelease
  refine Keeps.ite (fun ha => ?_) fun ha => ?_
  · refine placeKey_keeps hf rfl fun ok h => ⟨KeyOk.placeKey ok ?_ fun _ => rfl, nofun⟩
    simpa only [ha, releaseRecord] using h.1
  · refine setKey_keeps hf fun h => ⟨?_, nofun⟩
    simpa only [ha, keyReleased] using h.1

theorem releaseDebounce_keeps (n : Nat) (hf : l = .keys → s.kms.firstPass = false) :
    Keeps l s (releaseDebounce p n s) :=
  Keeps.ite (fun _ => completeRelease_keeps hf) fun _ => setKeyCount_keeps hf fun _ => .inr rfl

/-- One position's rule at a later pass keeps every law (R105 to R118). -/
theorem keyStep_keeps (raw : Bool) (hf : l = .keys → s.kms.firstPass = false) : Keeps l s (keyStep p raw s) := by
  have idle {st : KeyState} (h : (s.kms.positions.get p).state = st) (hst : ¬ KeyHeld st) :
      ¬ KeyHeld (s.kms.positions.get p).state := by rwa [h]
  have set (st : KeyState) (hs : KeyHeld (s.kms.positions.get p).state → KeyHeld st) :
      Keeps l s (setKeyState p st s) := setKeyCount_keeps hf hs
  unfold keyStep
  cases h : (s.kms.positions.get p).state <;> cases raw <;> simp only [h]
  case up.false | down.true | blocked.true => exact id
  case up.true | pressDebounce.true => exact pressDebounce_keeps _ hf (idle h (by decide))
  case down.false | releaseDebounce.false => exact releaseDebounce_keeps _ hf
  case releaseDebounce.true => exact set _ fun _ => .inl rfl
  case pressDebounce.false | ghostHeld.false | blocked.false => exact set _ fun c => absurd c (idle h (by decide))
  case ghostHeld.true => exact Keeps.ite (fun _ => id) fun _ => set _ fun c => absurd c (idle h (by decide))

/-! ## A scan pass (R101, R111) -/

theorem route_firstPass {c : EventCode} {n : Nat} {v : Int} (hs : s.ssc.state = .standby) :
    (route c n v s).kms.firstPass = s.kms.firstPass := by
  unfold route
  split
  · rw [sscAct_kms_of_standby (s := record c n v true s) c hs]; rfl
  · rfl

theorem keyWake_firstPass (p : Fin 144) (code : Nat) (s : State) :
    (keyWake p code s).kms.firstPass = s.kms.firstPass := by
  unfold keyWake
  split
  · next h => exact route_firstPass h.1
  · rfl

theorem pressRecord_firstPass (p : Fin 144) (r : PosRec) (s : State) :
    (pressRecord p r s).kms.firstPass = s.kms.firstPass := by
  unfold pressRecord
  split <;> rfl

theorem keyStep_firstPass (p : Fin 144) (raw : Bool) (s : State) :
    (keyStep p raw s).kms.firstPass = s.kms.firstPass := by
  have press (n : Nat) : (pressDebounce p n s).kms.firstPass = s.kms.firstPass := by
    unfold pressDebounce completePress confirmPress
    split
    · split
      · rfl
      · rw [keyWake_firstPass, pressRecord_firstPass]
    · rfl
  have release (n : Nat) : (releaseDebounce p n s).kms.firstPass = s.kms.firstPass := by
    unfold releaseDebounce completeRelease
    split
    · dsimp only; split <;> rfl
    · rfl
  unfold keyStep
  cases h : (s.kms.positions.get p).state <;> cases raw <;> simp only [h]
  case up.true | pressDebounce.true => exact press _
  case down.false | releaseDebounce.false => exact release _
  case ghostHeld.true => split <;> rfl
  all_goals rfl

/-- A run of positions keeps every law once the first pass has been made. -/
theorem laterPass_keeps (image : List Bool) (hf : l = .keys → s.kms.firstPass = false) :
    Keeps l s (laterPass image s) := by
  unfold laterPass
  generalize List.finRange 144 = ps
  induction ps generalizing s with
  | nil => exact id
  | cons p ps ih => exact (keyStep_keeps _ hf).trans (ih fun hl => by rw [keyStep_firstPass]; exact hf hl)

/-- A pass that is due finds the scanner running (R102, R104). -/
theorem passDue_runs (h : s.kms.passDue = true) : s.kms.countdown.isSome = true := by
  simp only [Kms.passDue, Bool.or_eq_true, decide_eq_true_eq, Bool.and_eq_true] at h
  obtain h | h := h
  · rw [h]; rfl
  · exact h.2

/-- The scan period of the state loaded for a pass keeps every law. -/
theorem scanPeriod_keeps (hd : s.kms.passDue = true) :
    Keeps l s { s with kms := { s.kms with countdown := scanPeriod s.ssc.state, exited := false } } := by
  cases l with
  | keys =>
    rintro ⟨⟨⟨gate, stopped, -, first, -⟩, records⟩, q⟩
    have runs : ¬ ScannerStopped s := fun h => by have := passDue_runs hd; rw [(stopped h).1] at this; cases this
    refine ⟨⟨⟨gate, fun h => absurd h runs, fun _ => ?_, first, nofun⟩, records⟩, q⟩
    have awake : s.ssc.state ≠ .off := fun h => runs (.inl h)
    cases hs : s.ssc.state <;> simp_all [scanPeriod]
  | _ => exact id

/-- The first pass after a stop blocks positions that were UP and announces none (R111). -/
theorem firstPass_keeps (image : List Bool) (hp : s.kms.firstPass = true) (hc : s.kms.countdown.isSome = true)
    (he : s.kms.exited = false) : Keeps l s { s with kms := firstPass image s.kms } := by
  cases l with
  | keys =>
    rintro ⟨⟨⟨gate, stopped, runs, first, exited⟩, records⟩, q⟩
    have running : ¬ ScannerStopped s := fun h => by rw [(stopped h).1] at hc; cases hc
    refine ⟨⟨⟨gate, fun h => absurd h running, fun _ => hc, nofun, fun h => ?_⟩, ?_⟩, q⟩
    · rw [show s.kms.exited = true from h] at he; cases he
    · rw [keyRecordLaw_iff] at records ⊢
      intro p
      have silent := PosOk.unannounced (records p) (by rw [first hp p]; decide)
      simp only [firstPass, Table.get_ofFn]
      split
      · exact ⟨(records p).1, fun h => by rw [silent] at h; cases h⟩
      · exact records p
  | _ => exact id

/-- A scan pass that is due keeps every law (R101, R102). -/
theorem execScanPass_keeps (image : List Bool) : KeepsNext l s (execScanPass image s) := by
  refine keepsNext_due fun hd h => ?_
  have loaded := scanPeriod_keeps hd h
  refine Keeps.ite (fun hp => ?_) (fun hp => ?_) loaded
  · by_cases hl : l = .keys
    · subst hl
      have ⟨⟨⟨_, _, runs, _⟩, _⟩, _⟩ := loaded
      have ⟨⟨⟨_, stopped, _⟩, _⟩, _⟩ := h
      refine firstPass_keeps image hp (runs fun c => ?_) rfl
      have := passDue_runs hd
      rw [(stopped c).1] at this
      cases this
    · cases l with
      | keys => exact absurd rfl hl
      | _ => exact id
  · exact laterPass_keeps image fun _ => Bool.eq_false_iff.2 hp

end Sys2Proof.Machine


namespace Sys2Proof.Machine

variable {s t : State} {l : Law}

/-! ## The switch inputs (R124 to R131) -/

/-- SWI replaced keeps every law while the gate that its levels give stays. -/
theorem swi_keeps {w : Swi}
    (h : l = .keys → gateOf w.lid.level w.hinge.level = gateOf s.swi.lid.level s.swi.hinge.level) :
    Keeps l s { s with swi := w } := by
  cases l with
  | keys => exact fun ⟨⟨⟨gate, rest⟩, records⟩, q⟩ => ⟨⟨⟨gate.trans (h rfl).symm, rest⟩, records⟩, q⟩
  | _ => exact id

theorem swi_keeps_other (w : Swi) (hl : l ≠ .keys) : Keeps l s { s with swi := w } := swi_keeps fun h => absurd h hl

/-- Under a critical battery an event keeps every law, that of OFF included (R154). -/
theorem route_keeps_critical (c : EventCode) (n : Nat) (v : Int) (hc : c ≠ .gap)
    (hd : l = .dark → s.ssc.critical = true) : Keeps l s (route c n v s) := by
  by_cases hl : l = .dark
  · subst hl
    intro h
    rw [route_in_critical n v h.1 (hd rfl)]
    exact record_keeps hc n v false h
  · exact route_keeps c n v hc fun h => absurd h hl

theorem stopKeys_keeps_other (hl : l ≠ .keys) : Keeps l s (stopKeys s) := by
  have queue : Keeps .queue s (stopKeys s) := stopKeys_keeps rfl
  cases l with
  | keys => exact absurd rfl hl
  | system => exact fun h => ⟨h.1, queue h.2⟩
  | dark => exact fun h => ⟨h.1, by simpa only [PolicyLegal, stopKeys, placeKeys_policy] using h.2⟩
  | _ => exact stopKeys_keeps rfl

/-- KMS replaced keeps every law but that of the keyboard. -/
theorem kms_keeps_other (k : Kms) (hl : l ≠ .keys) : Keeps l s { s with kms := k } := by
  cases l with
  | keys => exact absurd rfl hl
  | _ => exact id

theorem gateExit_keeps_other (hl : l ≠ .keys) : Keeps l s (gateExit s) :=
  Keeps.ite (fun _ => id) fun _ => kms_keeps_other _ hl

theorem regate_keeps_other (hl : l ≠ .keys) : Keeps l s (regate s) := by
  have gated (b : Bool) : Keeps l s { s with kms := { s.kms with gated := b } } := kms_keeps_other _ hl
  exact Keeps.ite (fun _ => (gated _).trans (stopKeys_keeps_other hl))
    fun _ => Keeps.ite (fun _ => (gated _).trans (gateExit_keeps_other hl)) fun _ => gated _

/-- A scanner that starts again out of a stop holds its countdown, and no position is held (R103). -/
theorem started_keyLaw {g : Bool} {k : Kms} (hg : g = gateOf s.swi.lid.level s.swi.hinge.level)
    (hk : k = { s.kms.started with gated := g } ∨ k = { s.kms.ungated with gated := g })
    (hs : s.ssc.state ≠ .off) (h : g = false)
    (up : ∀ p, (s.kms.positions.get p).state = .up) : KeyLaw { s with kms := k } := by
  subst h
  obtain rfl | rfl := hk
  · refine ⟨hg, fun c => ?_, fun _ => rfl, fun _ => up, fun _ => ⟨rfl, rfl⟩⟩
    simp [ScannerStopped, hs] at c
  · refine ⟨hg, fun c => ?_, fun _ => rfl, fun _ => up, fun _ => ⟨rfl, rfl⟩⟩
    simp [ScannerStopped, hs] at c

/-- A change of the gate's levels handed to KMS brings the keyboard's law back (R103, R104). -/
theorem regate_keys (w : Swi) : Keeps .keys s (regate { s with swi := w }) := by
  rintro ⟨⟨⟨-, stopped, runs, first, exited⟩, records⟩, q⟩
  generalize hg : gateOf w.lid.level w.hinge.level = g
  have evr := (queueLaw_iff.1 q).1
  simp only [regate, hg]
  split
  · next h =>
    simp only [Bool.and_eq_true] at h
    obtain ⟨rfl, -⟩ := h
    exact ⟨⟨stopKeys_keyLaw hg.symm (.inr rfl), stopKeys_keeps_records (s := { s with swi := w, kms := _ }) evr records⟩,
      stopKeys_keeps (l := .queue) (s := { s with swi := w, kms := _ }) rfl q⟩
  · next h =>
    split
    · next he =>
      simp only [Bool.and_eq_true, Bool.not_eq_true'] at he
      obtain ⟨gated, rfl⟩ := he
      have up := first (stopped (.inr gated)).2
      unfold gateExit
      split
      · next off =>
        obtain ⟨count, fp⟩ := stopped (.inr gated)
        exact ⟨⟨⟨hg.symm, fun _ => ⟨count, fp⟩, fun c => absurd (.inl off) c, first, exited⟩, records⟩, q⟩
      · next on =>
        exact ⟨⟨started_keyLaw (s := { s with swi := w }) hg.symm (.inr rfl) on rfl up, records⟩, q⟩
    · next he =>
      have same : g = s.kms.gated := by cases g <;> cases hk : s.kms.gated <;> simp_all
      subst same
      exact ⟨⟨⟨hg.symm, stopped, runs, first, exited⟩, records⟩, q⟩

theorem selectCurves_keeps : Keeps l s (selectCurves s) := by
  refine fnc_keeps fun full _ law => ?_
  unfold Fnc.select
  split
  · exact law
  · exact law

theorem regate_ssc (s : State) : (regate s).ssc = s.ssc := by
  unfold regate gateExit
  dsimp only
  repeat' split
  all_goals rfl


/-- A LID or HINGE level changed and handed on keeps every law (R127). -/
theorem handLidHinge_keeps (i : LidHinge) (v : Bool) (w : Swi) (hd : l = .dark → s.ssc.critical = true) :
    Keeps l s (handLidHinge i v { s with swi := w }) := by
  have regated : Keeps l s (regate { s with swi := w }) := by
    by_cases hl : l = .keys
    · subst hl; exact regate_keys w
    · exact (swi_keeps_other w hl).trans (regate_keeps_other hl)
  have same : (selectCurves (regate { s with swi := w })).ssc = s.ssc := regate_ssc { s with swi := w }
  refine regated.trans (selectCurves_keeps.trans ?_)
  exact route_keeps_critical _ _ _ (by cases i <;> decide) fun h => by rw [same]; exact hd h

theorem execLidHingeDebounceComplete_keeps (i : LidHinge) (hd : l = .dark → s.ssc.critical = true) :
    KeepsNext l s (execLidHingeDebounceComplete i s) := by
  unfold execLidHingeDebounceComplete
  dsimp only
  split
  · exact keepsNext_next.2 (handLidHinge_keeps i _ _ hd)
  · exact keepsNext_next.2 id

/-- The gate taken with an initial level: no gate entry or exit (R104, R126). -/
theorem firstGate_keeps (w : Swi) (hg : l = .keys → gateOf s.swi.lid.level s.swi.hinge.level = true) :
    Keeps l s (firstGate { s with swi := w }) := by
  by_cases hl : l = .keys
  · subst hl
    rintro ⟨⟨⟨gate, stopped, -, first, exited⟩, records⟩, q⟩
    have gated : s.kms.gated = true := gate.trans (hg rfl)
    obtain ⟨count, fp⟩ := stopped (.inr gated)
    unfold firstGate
    split
    · next h =>
      exact ⟨⟨⟨gated.trans h.symm, fun _ => ⟨count, fp⟩, fun c => absurd (.inr gated) c, first, exited⟩, records⟩, q⟩
    · next h =>
      have open' := Bool.eq_false_iff.2 h
      unfold gateLifted
      split
      · next off =>
        exact ⟨⟨⟨open'.symm, fun _ => ⟨count, fp⟩, fun c => absurd (.inl off) c, first, exited⟩, records⟩, q⟩
      · next on =>
        exact ⟨⟨started_keyLaw (s := { s with swi := w }) open'.symm (.inl rfl) on rfl (first fp), records⟩, q⟩
  · refine (swi_keeps_other w hl).trans (Keeps.ite (fun _ => id) fun _ => ?_)
    refine Keeps.trans (t := { s with swi := w, kms := { s.kms with gated := false } })
      (kms_keeps_other (s := { s with swi := w }) _ hl) ?_
    exact Keeps.ite (fun _ => id) fun _ => kms_keeps_other _ hl

theorem firstLatch_keeps : Keeps l s (firstLatch s) := by
  refine Keeps.ite (fun _ => ?_) fun _ => repath_keeps
  by_cases hl : l = .paths
  · subst hl; exact fun _ => repath_settles (.inl rfl)
  · exact Keeps.trans (setBay_keeps _ hl) repath_keeps

/-- Levels not both taken gate the keyboard (R104). -/
theorem gateOf_untaken {i : SwitchInput} (hi : i = .lid ∨ i = .hinge) (h : (s.swi.input i).level = none) :
    gateOf s.swi.lid.level s.swi.hinge.level = true := by
  obtain rfl | rfl := hi
  · rw [show s.swi.lid.level = none from h]; rfl
  · rw [show s.swi.hinge.level = none from h]
    cases s.swi.lid.level <;> rfl

theorem execInitialTake_keeps (i : SwitchInput) : KeepsNext l s (execInitialTake i s) := by
  refine keepsNext_due fun h => ?_
  cases i with
  | lid => exact (firstGate_keeps _ fun _ => gateOf_untaken (.inl rfl) h.2).trans selectCurves_keeps
  | hinge => exact (firstGate_keeps _ fun _ => gateOf_untaken (.inr rfl) h.2).trans selectCurves_keeps
  | pwrbtn => exact swi_keeps fun _ => rfl
  | baylatch =>
    refine Keeps.trans ?_ firstLatch_keeps
    exact swi_keeps fun _ => rfl

theorem execPwrbtnDebounceComplete_keeps (hd : l = .dark → s.ssc.critical = true) :
    KeepsNext l s (execPwrbtnDebounceComplete s) := by
  unfold execPwrbtnDebounceComplete
  split
  · next v _ =>
    refine keepsNext_next.2 (Keeps.trans (swi_keeps fun _ => ?_) (route_keeps_critical _ _ _ (by decide) hd))
    cases v <;> rfl
  · exact keepsNext_next.2 id

theorem execBaylatchDebounceComplete_keeps : KeepsNext l s (execBaylatchDebounceComplete s) := by
  unfold execBaylatchDebounceComplete
  split
  · refine keepsNext_next.2 (Keeps.trans ?_ (bayLatchReported_keeps _))
    exact swi_keeps fun _ => rfl
  · exact keepsNext_next.2 id

theorem execPowerButtonHold_keeps : KeepsNext l s (execPowerButtonHold s) :=
  keepsNext_due fun _ => by
    refine Keeps.trans ?_ (route_keeps .powerButtonHold 0 0)
    exact swi_keeps fun _ => rfl

theorem execHold10sExpiry_keeps : KeepsNext l s (execHold10sExpiry s) :=
  keepsNext_due fun _ => by
    refine Keeps.trans ?_ (forceOff_keeps _)
    exact swi_keeps fun _ => rfl

end Sys2Proof.Machine


namespace Sys2Proof.Machine

variable {s t : State} {l : Law}

/-! ## The sweep (R7 to R9) -/

/-- SWS replaced keeps every law that its own law keeps. -/
theorem sws_keeps {x : Sws} (hs : l.sampling = false) (h : SweepLaw s → SweepLaw { s with sws := x }) :
    Keeps l s { s with sws := x } := by
  cases l with
  | sampled w => cases hs
  | sweep => exact h
  | _ => exact id

theorem execSweepStart_keeps (hw : l.writtenBy .sweepStart = false) : KeepsNext l s (execSweepStart s) := by
  refine keepsNext_due fun _ => sws_keeps (Law.sampling_of_writtenBy hw fun _ => rfl) ?_
  rintro ⟨slots, free, counter, -⟩
  refine ⟨slots, free, counter, ?_⟩
  rintro w ⟨⟩
  exact ⟨rfl, Nat.zero_le 8⟩

theorem convert_keeps (ch : Fin 16) (v : Int) {w : Sweep} (hs : l.sampling = false) (hw : s.sws.sweep = some w) :
    Keeps l s (convert ch v w s) := by
  refine Keeps.trans ?_ (judgeSample_keeps_law ch _)
  refine sws_keeps hs ?_
  rintro ⟨slots, free, counter, going⟩
  obtain ⟨number, fast⟩ := going w hw
  refine ⟨slots, free, counter, ?_⟩
  rintro x ⟨⟩
  unfold Sweep.advance
  split
  · exact ⟨number, by dsimp only; omega⟩
  · exact ⟨number, fast⟩

theorem execConversionComplete_keeps (ch : Fin 16) (v : Int) (hw : l.writtenBy (.conversionComplete ch v) = false) :
    KeepsNext l s (execConversionComplete ch v s) := by
  unfold execConversionComplete
  split
  · next w sweep =>
    exact keepsNext_due fun _ => convert_keeps ch v (Law.sampling_of_writtenBy hw fun _ => rfl) sweep
  · exact keepsNext_next.2 id

theorem completed_keeps (hs : l.sampling = false) : Keeps l s { s with sws := s.sws.completed } := by
  refine sws_keeps hs ?_
  rintro ⟨slots, free, -, -⟩
  exact ⟨slots, free, Nat.mod_lt _ (by decide), nofun⟩

theorem execSweepCompletion_keeps (hd : l = .dark → s.ssc.critical = true)
    (hw : l.writtenBy .sweepCompletion = false) : KeepsNext l s (execSweepCompletion s) := by
  unfold execSweepCompletion
  split
  · next w _ =>
    exact keepsNext_due fun _ => (completeAtPpc_keeps w hd (Law.stepped_of_writtenBy hw)).trans
      (completed_keeps (Law.sampling_of_writtenBy hw fun _ => rfl))
  · exact keepsNext_next.2 id

/-! ## The tick (R1 to R3) -/

theorem Input.sample_level (x : Input) (raw : Bool) : (x.sample raw).level = x.level := by
  unfold Input.sample
  split
  · rfl
  · split
    · unfold Input.sampleTaken; split <;> rfl
    · unfold Input.sampleUntaken; split <;> rfl

theorem PortOk.tick {x : Port} (h : PortOk x) : PortOk x.tick := by
  obtain ⟨here, absent, noRecord, record, silence, stale, ok, errors, timer, held, waiting, due, tx⟩ := h
  refine ⟨fun hs => ⟨(here hs).1, ?_⟩, fun hs => ?_, noRecord, record, ?_, ?_, ok, errors, ?_, held, waiting, due, tx⟩
  · simp only [Port.tick, (here hs).2]; rfl
  · obtain ⟨timer, rest⟩ := absent hs
    exact ⟨by rw [Port.tick, timerTick_isSome]; exact timer, rest⟩
  all_goals simp only [Port.tick, timerTick_isSome]; assumption

theorem tick_keyLaw (raw : SwitchLevels) (h : KeyLaw s) : KeyLaw (tickState raw s) := by
  obtain ⟨gate, stopped, runs, first, -⟩ := h
  refine ⟨?_, fun hs => ?_, fun hs => ?_, first, nofun⟩
  · simp only [tickState, Swi.tick, Input.sample_level]; exact gate
  · exact ⟨by simp only [tickState, (stopped hs).1]; rfl, (stopped hs).2⟩
  · simp only [tickState, Option.isSome_map]; exact runs hs

/-- Of a port the path decision reads the state and the alarms (R51, R52). -/
theorem pathOf_of_ports {p : Pack} (state : ∀ q, (t.ppt.ports.get q).state = (s.ppt.ports.get q).state)
    (alarms : ∀ q, (t.ppt.ports.get q).alarms = (s.ppt.ports.get q).alarms) (lmt : t.lmt = s.lmt)
    (adapter : t.ppc.adapter = s.ppc.adapter) (bay : t.ppc.bay.state = s.ppc.bay.state) : pathOf t p = pathOf s p := by
  have forced (q : Pack) : pathForcedOpen t q = pathForcedOpen s q := by
    unfold pathForcedOpen
    rw [state, lmt, bay]
  have supply (q : Pack) : altSupply t q = altSupply s q := by
    unfold altSupply canSupply adapterAway
    rw [forced, alarms, lmt, adapter, bay]
  unfold pathOf
  rw [forced, alarms, supply, state, lmt, bay]

theorem packTick_fastLimit (s : State) (p : Pack) : (packTick s p).fastLimit = (s.ppc.charge.get p).fastLimit := by
  unfold packTick chargeTick
  split
  · rfl
  · split <;> rfl
  · split <;> rfl
  · rfl

/-- A tick keeps every law: it only counts (R3). -/
theorem tickState_keeps (raw : SwitchLevels) : Keeps l s (tickState raw s) := by
  cases l with
  | packs => exact fun ⟨a, b⟩ => ⟨a.tick, b.tick⟩
  | fans => exact fun ⟨curves, one, two, capture⟩ => ⟨curves, one.tick, two.tick, capture⟩
  | idleFans => exact fun ⟨curves, one, two, capture⟩ => ⟨curves, one.tick, two.tick, capture⟩
  | keys => exact fun ⟨⟨key, records⟩, q⟩ => ⟨⟨tick_keyLaw raw key, records⟩, q⟩
  | system =>
    simp only [Keeps, Law.holds, StateLaw, QueueLaw, PolicyLegal, NoLinkDown, linkDownPending, tickState, Ssc.tick,
      timerTick_isSome]
    exact id
  | soc =>
    simp only [Keeps, Law.holds, tickState, Ssc.tick, combinedSocOf, PerPack.map]
    exact id
  | paths =>
    have same (p : Pack) : pathOf (tickState raw s) p = pathOf s p :=
      pathOf_of_ports (fun q => by cases q <;> rfl) (fun q => by cases q <;> rfl)
        (by simp only [tickState]) (by simp only [tickState]) (by simp only [tickState])
    simp only [Keeps, Law.holds, same]
    simp only [tickState]
    exact id
  | sampled w => simp only [Keeps, Law.holds, tickState, imp_self]
  | fastLimits a b => simp only [Keeps, Law.holds, tickState, packTick_fastLimit]; exact id
  | waiting _ | replies _ | link _ _ | sweep | queue | carried | drives | flags | dark | inputLimit _ | efficiency _ =>
    simp only [Keeps, Law.holds, SweepLaw, QueueLaw, DrivesLaw, PolicyLegal, batteryLowHolds, batteryCriticalHolds,
      adapterAway, tickState, Ssc.tick]
    exact id

/-! ## Reset (section 0.3) -/

section

variable (cause : StartCause) (prsA prsB : Bool) (queue : List Instr)

/-- The ports after a reset agree with the presence lines found (R58). -/
theorem resetPort_ok (presence : Bool) : PortOk (resetPort presence) := by
  cases presence <;> decide

theorem reset_fans : FanLaw (State.afterReset cause prsA prsB queue) := by
  have fan : FanOk .quiet false resetFan := by decide
  refine ⟨fun i => ?_, fan, fan, rfl, rfl⟩
  simp only [State.afterReset, resetFnc, defaultCurves, Table.get_replicate, defaultCurve]
  decide

theorem reset_keys : KeyLaw (State.afterReset cause prsA prsB queue) := by
  refine ⟨rfl, fun _ => ⟨rfl, rfl⟩, fun h => absurd (.inl rfl) h, fun _ p => ?_, nofun⟩
  simp only [State.afterReset, resetKms, Table.get_replicate, keyUp]

theorem reset_records : KeyRecordLaw (State.afterReset cause prsA prsB queue) := by
  refine keyRecordLaw_iff.2 fun p => ⟨keyOk_of_nil rfl, fun h => ?_⟩
  simp only [State.afterReset, resetKms, Table.get_replicate, keyUp] at h
  cases h

theorem reset_queue : QueueLaw (State.afterReset cause prsA prsB queue) := by
  refine queueLaw_iff.2 ⟨⟨?_, List.nodup_nil, ?_, Nat.zero_le _, fun _ => ⟨rfl, rfl⟩⟩, Nat.zero_le _, Nat.zero_le _⟩
  · change ∀ c ∈ allCodes, (defaultPolicy.get c.idx).start = true → c.mayStart = true
    decide
  · change (urgentCodes defaultPolicy []).length ≤ 8
    decide

theorem reset_state : StateLaw (State.afterReset cause prsA prsB queue) := by
  refine ⟨rfl, rfl, rfl, rfl, rfl, ⟨fun _ => ⟨rfl, rfl⟩, fun _ => rfl⟩, fun _ => ⟨rfl, rfl⟩, nofun, fun _ => rfl,
    Nat.zero_le _, nofun, nofun⟩

theorem reset_sweep : SweepLaw (State.afterReset cause prsA prsB queue) := by
  refine ⟨?_, ?_, (by decide : 0 < 64), nofun⟩
  · change ∀ i : Fin 8, SlotOk (defaultSchedule.get i)
    decide
  · change ∀ i j : Fin 8, i ≠ j → (defaultSchedule.get i).enable = true → (defaultSchedule.get j).enable = true →
      (defaultSchedule.get i).conflicts (defaultSchedule.get j) = false
    decide

theorem reset_carried : Law.holds .carried (State.afterReset cause prsA prsB queue) := by
  change [] = resetLmt.carried
  decide

theorem reset_paths : Law.holds .paths (State.afterReset cause prsA prsB queue) := by
  cases prsA <;> cases prsB <;> exact (rfl : _ = _)

theorem reset_protection :
    ProtectionLaw (State.afterReset cause prsA prsB queue) ∧ BatteryLaw (State.afterReset cause prsA prsB queue) := by
  refine protection_iff.2 ⟨reset_carried .., ?_, ?_, reset_paths .., ?_⟩
  · change DrivesLaw (State.afterReset .powerOn false false [])
    decide
  · cases prsA <;> cases prsB <;> exact (rfl : _ = _)
  · exact ⟨(rfl : _ = _), rfl⟩

end

/-- A reset keeps every law (section 0.3). -/
theorem execReset_keeps (rail : Option RailCause) (rstin prsA prsB : Bool) (hl : l.lasting = true)
    (hw : l.writtenBy (.reset rail rstin prsA prsB) = false) :
    KeepsNext l s (execReset rail rstin prsA prsB s) := by
  unfold execReset
  split
  · next cause _ =>
    refine keepsNext_next.2 fun h => ?_
    obtain ⟨carried, drives, soc, paths, flags⟩ := protection_iff.1 (reset_protection cause prsA prsB s.pending)
    cases l with
    | waiting q => exact h
    | replies _ | link _ _ | idleFans => cases hl
    | sampled _ | inputLimit _ | efficiency _ | fastLimits _ _ => cases hw
    | packs => exact ⟨resetPort_ok prsA, resetPort_ok prsB⟩
    | sweep => exact reset_sweep ..
    | queue => exact reset_queue ..
    | fans => exact reset_fans ..
    | keys => exact ⟨⟨reset_keys cause prsA prsB s.pending, reset_records cause prsA prsB s.pending⟩, reset_queue ..⟩
    | system => exact ⟨reset_state .., reset_queue ..⟩
    | carried => exact carried
    | drives => exact drives
    | soc => exact soc
    | paths => exact paths
    | flags => exact flags
    | dark => exact ⟨rfl, (reset_queue cause prsA prsB s.pending).1⟩
  · exact keepsNext_next.2 id

end Sys2Proof.Machine


namespace Sys2Proof.Machine

variable {s t : State} {l : Law} {p : Pack} {x : Port}

/-! ## The pack ports (R36 to R50) -/

theorem PackLaw.port (h : PackLaw s) (p : Pack) : PortOk (s.ppt.ports.get p) := by
  cases p
  · exact h.1
  · exact h.2

/-- No link-down in the result that a slot holds, but one held before. -/
abbrev HoldsNoMore (old new : Port) : Prop := ∀ r ∈ new.slot.held, r ∈ old.slot.held ∨ r.linkDown = false

theorem setPort_keeps_packs (ok : PortOk (s.ppt.ports.get p) → PortOk x) : Keeps .packs s (setPort p x s) := by
  intro h
  have here := ok (PackLaw.port h p)
  cases p
  · exact ⟨here, h.2⟩
  · exact ⟨h.1, here⟩

theorem setPort_keeps_system (held : HoldsNoMore (s.ppt.ports.get p) x) : Keeps .system s (setPort p x s) := by
  rintro ⟨state, q⟩
  rw [stateLaw_iff] at state
  obtain ⟨lines, link, a, b⟩ := state
  refine ⟨stateLaw_iff.2 ⟨lines, link, ?_⟩, q⟩
  cases p
  · exact ⟨fun r hr => (held r hr).elim (a r) id, b⟩
  · exact ⟨a, fun r hr => (held r hr).elim (b r) id⟩

/-- A port replaced keeps the laws that are not settled afterwards. -/
theorem setPort_keeps (hl : l.settled = false) (ok : PortOk (s.ppt.ports.get p) → PortOk x)
    (held : HoldsNoMore (s.ppt.ports.get p) x) : Keeps l s (setPort p x s) := by
  cases l with
  | packs => exact setPort_keeps_packs ok
  | system => exact setPort_keeps_system held
  | soc | paths | flags => cases hl
  | _ => exact id

theorem combinedSocOf_congr {t u : Ppt} (state : ∀ q, (t.ports.get q).state = (u.ports.get q).state)
    (rec : ∀ q, (t.ports.get q).record = (u.ports.get q).record) : combinedSocOf t = combinedSocOf u := by
  have same (f : PackRecord → Nat) (q : Pack) : activeCapacity f (t.ports.get q) = activeCapacity f (u.ports.get q) := by
    simp only [activeCapacity, state, rec]
  have a (f : PackRecord → Nat) := same f .a
  have b (f : PackRecord → Nat) := same f .b
  simp only [PerPack.get] at a b
  simp only [combinedSocOf, a, b]

theorem setPort_get (q : Pack) : (setPort p x s).ppt.ports.get q = if q = p then x else s.ppt.ports.get q :=
  PerPack.get_set ..

/-- A port replaced with state and record kept keeps every law. -/
theorem setPort_keeps_same (state : x.state = (s.ppt.ports.get p).state) (rec : x.record = (s.ppt.ports.get p).record)
    (ok : PortOk (s.ppt.ports.get p) → PortOk x) (held : HoldsNoMore (s.ppt.ports.get p) x) :
    Keeps l s (setPort p x s) := by
  have states (q : Pack) : ((setPort p x s).ppt.ports.get q).state = (s.ppt.ports.get q).state := by
    rw [setPort_get]; split
    · next h => rw [state, h]
    · rfl
  have records (q : Pack) : ((setPort p x s).ppt.ports.get q).record = (s.ppt.ports.get q).record := by
    rw [setPort_get]; split
    · next h => rw [rec, h]
    · rfl
  cases l with
  | soc => simp only [Keeps, Law.holds, combinedSocOf_congr states records, setPort_ssc, imp_self]
  | paths =>
    have alarms (q : Pack) : ((setPort p x s).ppt.ports.get q).alarms = (s.ppt.ports.get q).alarms := by
      rw [Port.alarms, records]; rfl
    have same (q : Pack) : pathOf (setPort p x s) q = pathOf s q := pathOf_of_ports states alarms rfl rfl rfl
    simp only [Keeps, Law.holds, same, setPort_ppc, imp_self]
  | flags => exact id
  | _ => exact setPort_keeps rfl ok held

/-- A reply queued keeps every law that lasts: there is room for it, and no link-down is tied to it. -/
theorem enqueueReply_keeps {r : Reply} (hl : l.lasting = true) (room : s.slc.replies.length < 4)
    (hd : l = .system → r.linkDown = false) : Keeps l s (enqueueReply r s) := by
  have queue : Keeps .queue s (enqueueReply r s) := by
    intro h
    obtain ⟨evr, requests, -⟩ := queueLaw_iff.1 h
    exact queueLaw_iff.2 ⟨evr, requests, by simpa [enqueueReply] using room⟩
  cases l with
  | replies _ | link _ _ | idleFans => cases hl
  | queue => exact queue
  | keys => exact fun ⟨law, q⟩ => ⟨law, queue q⟩
  | system =>
    rintro ⟨state, q⟩
    refine ⟨?_, queue q⟩
    have untied := hd rfl
    have pending : linkDownPending (enqueueReply r s).slc = linkDownPending s.slc := by
      simp [linkDownPending, enqueueReply, untied]
    have marked : ((enqueueReply r s).slc.replies.filter fun r => r.linkDown) =
        s.slc.replies.filter fun r => r.linkDown := by
      simp [enqueueReply, untied]
    rw [stateLaw_iff] at state ⊢
    obtain ⟨lines, link, held⟩ := state
    refine ⟨lines, ?_, held⟩
    rw [LinkLaw, NoLinkDown, pending, marked]
    exact link
  | _ => exact id

theorem PortOk.slotIdle (h : PortOk x) : PortOk x.slotIdle := by
  obtain ⟨here, absent, noRecord, record, silence, stale, ok, errors, -, -, -, -, tx⟩ := h
  exact ⟨here, absent, noRecord, record, silence, stale, ok, errors, by simp [Port.slotIdle], by simp [Port.slotIdle],
    nofun, nofun, tx⟩

theorem PortOk.slotHolds (h : PortOk x) (r : Reply) : PortOk (x.slotHolds r) := by
  obtain ⟨here, absent, noRecord, record, silence, stale, ok, errors, -, -, -, -, tx⟩ := h
  exact ⟨here, absent, noRecord, record, silence, stale, ok, errors, by simp [Port.slotHolds], by simp [Port.slotHolds],
    nofun, nofun, tx⟩

theorem slotIdle_keeps : Keeps l s (setPort p (s.ppt.ports.get p).slotIdle s) :=
  setPort_keeps_same rfl rfl PortOk.slotIdle nofun

theorem replyRoom_length (h : replyRoom s = true) : s.slc.replies.length < 4 := by
  simp only [replyRoom, decide_eq_true_eq] at h
  omega

theorem resolveSlot_keeps (hl : l.lasting = true) (code : ResultCode) (data : List Byte) :
    Keeps l s (resolveSlot p code data s) := by
  refine Keeps.ite (fun _ => slotIdle_keeps) fun _ => Keeps.ite (fun room => ?_) fun _ => ?_
  · have free : s.slc.replies.length < 4 := replyRoom_length room
    exact slotIdle_keeps.trans (enqueueReply_keeps hl free fun _ => rfl)
  · refine setPort_keeps_same rfl rfl (fun h => h.slotHolds _) fun r hr => .inr ?_
    obtain rfl := Option.some.inj hr
    rfl

theorem execPassTimerExpiry_keeps (hl : l.lasting = true) : KeepsNext l s (execPassTimerExpiry p s) :=
  keepsNext_due fun _ => resolveSlot_keeps hl _ _

theorem execPassReplyQueued_keeps (hl : l.lasting = true) : KeepsNext l s (execPassReplyQueued p s) := by
  unfold execPassReplyQueued
  dsimp only
  split
  · next r _ held =>
    refine keepsNext_due fun turn h => ?_
    simp only [slotTurn, Bool.and_eq_true, decide_eq_true_eq] at turn
    refine slotIdle_keeps.trans (enqueueReply_keeps hl turn.1 ?_) h
    rintro rfl
    obtain ⟨-, -, a, b⟩ := stateLaw_iff.1 h.1
    cases p
    · exact a r held
    · exact b r held
  · exact keepsNext_next.2 id

/-! ## Presence, silence and removal (R38 to R40) -/

theorem execPresenceActive_keeps : KeepsNext l s (execPresenceActive p s) := by
  unfold execPresenceActive
  dsimp only
  split
  · exact keepsNext_next.2 id
  split
  · next hs =>
    refine keepsNext_next.2 (setPort_keeps_same rfl rfl ?_ fun _ => .inl)
    rintro ⟨here, absent, noRecord, record, silence, stale, ok, errors, timer, held, waiting, due, tx⟩
    exact ⟨fun c => absurd hs c, fun _ => ⟨rfl, (absent hs).2⟩, noRecord, record, silence, stale, ok, errors, timer, held,
      waiting, due, tx⟩
  · next hs =>
    refine keepsNext_next.2 (setPort_keeps_same rfl rfl ?_ fun _ => .inl)
    rintro ⟨here, absent, noRecord, record, silence, stale, ok, errors, timer, held, waiting, due, tx⟩
    exact ⟨fun c => ⟨rfl, (here c).2⟩, fun c => absurd c hs, noRecord, record, silence, stale, ok, errors, timer, held,
      waiting, due, tx⟩

theorem PortOk.identify (h : PortOk x) (due : timerDue x.presenceTimer = true) : PortOk x.identify := by
  obtain ⟨here, absent, noRecord, record, silence, stale, ok, errors, timer, held, waiting, request, tx⟩ := h
  have runs : x.presenceTimer = some 0 := of_decide_eq_true due
  have hs : x.state = .absent := by
    by_contra c
    rw [(here c).2] at runs
    cases runs
  obtain ⟨present, -, noTx⟩ := absent hs
  refine ⟨fun _ => ⟨?_, rfl⟩, nofun, fun _ => noRecord (.inl hs), nofun, by simp [Port.identify], ?_, ok, errors, timer,
    held, nofun, request, fun _ => rfl⟩
  · rw [runs] at present; exact present.symm
  · have := stale.not.2 (by rw [hs]; decide)
    simpa [Port.identify] using this

theorem execPresenceTimerExpiry_keeps : KeepsNext l s (execPresenceTimerExpiry p s) := by
  refine keepsNext_due fun due => Keeps.portChanged fun hl => ?_
  refine Keeps.trans (Keeps.trans ?_ (route_keeps .packPresent _ _)) (route_keeps .packLink _ _)
  exact setPort_keeps hl (fun h => h.identify due) fun _ => .inl

theorem PortOk.removed (h : PortOk x) (hw : x.slot.state ≠ .waiting) : PortOk x.removed := by
  obtain ⟨-, -, -, -, -, -, -, errors, timer, held, -, -, -⟩ := h
  exact ⟨nofun, fun _ => ⟨rfl, rfl, rfl⟩, fun _ => rfl, nofun, by simp [Port.removed], by simp [Port.removed], nofun, errors,
    timer, held, fun c => absurd c hw, nofun, nofun⟩

theorem resolveSlot_get (code : ResultCode) (data : List Byte) :
    (resolveSlot p code data s).ppt.ports.get p = (s.ppt.ports.get p).slotIdle ∨
      ∃ r, (resolveSlot p code data s).ppt.ports.get p = (s.ppt.ports.get p).slotHolds r := by
  unfold resolveSlot
  dsimp only
  split
  · exact .inl (by rw [setPort_get, if_pos rfl])
  split
  · exact .inl (by rw [enqueueReply_ppt, setPort_get, if_pos rfl])
  · exact .inr ⟨_, by rw [setPort_get, if_pos rfl]⟩

/-- After the end of its pass-through no slot of a removed pack waits (R49). -/
theorem resolveRemoved_slot : ((resolveRemoved p s).ppt.ports.get p).slot.state ≠ .waiting := by
  unfold resolveRemoved
  split
  · obtain h | ⟨r, h⟩ := resolveSlot_get (p := p) (s := s) .noPack []
    · rw [h]; exact (by decide : SlotState.idle ≠ .waiting)
    · rw [h]; exact (by decide : SlotState.resolved ≠ .waiting)
  · assumption

theorem resolveRemoved_keeps (hl : l.lasting = true) : Keeps l s (resolveRemoved p s) :=
  Keeps.ite (fun _ => resolveSlot_keeps hl _ _) fun _ => id

theorem bayRemoval_keeps (hl : l ≠ .flags) : Keeps l s (bayRemoval s) := by
  refine Keeps.trans (t := { s with ppc := { s.ppc with bay := { s.ppc.bay with pending := false } } })
    (bayCount_keeps _ rfl) ?_
  exact Keeps.ite (fun _ => bayLatched_keeps hl) fun _ => id

theorem removalAtPpc_keeps (hl : l ≠ .flags) : Keeps l s (removalAtPpc p s) := by
  cases p
  · exact (redecidePaths_keeps hl).trans chargeRemoval_keeps
  · exact (redecidePaths_keeps hl).trans (chargeRemoval_keeps.trans (bayRemoval_keeps hl))

theorem removalAtPpc_paths : Law.holds .paths (removalAtPpc p s) := by
  cases p
  · exact chargeRemoval_keeps (l := .paths) redecidePaths_paths
  · exact bayRemoval_keeps (by simp) (chargeRemoval_keeps (l := .paths) redecidePaths_paths)

theorem removePack_keeps (hl : l.lasting = true) : Keeps l s (removePack p s) := by
  cases hs : l.settled with
  | true =>
    cases l with
    | soc => exact fun _ => refreshSoc_soc
    | paths => exact fun _ => refreshSoc_keeps (l := .paths) removalAtPpc_paths
    | flags => exact fun _ => decideBattery_flags
    | _ => cases hs
  | false =>
    refine Keeps.trans (Keeps.trans ?_ (removalAtPpc_keeps (by rintro rfl; cases hs))) refreshSoc_keeps
    refine Keeps.trans (Keeps.trans ?_ (route_keeps .packRemoved _ _)) (route_keeps .packLink _ _)
    exact (resolveRemoved_keeps hl).trans (setPort_keeps hs (fun h => h.removed resolveRemoved_slot) fun _ => .inl)

theorem execPackRemoval_keeps (hl : l.lasting = true) : KeepsNext l s (execPackRemoval p s) := by
  unfold execPackRemoval
  dsimp only
  split
  · split
    · next hs =>
      refine keepsNext_next.2 (setPort_keeps_same rfl rfl ?_ fun _ => .inl)
      rintro ⟨here, absent, noRecord, record, silence, stale, ok, errors, timer, held, waiting, due, tx⟩
      exact ⟨fun c => absurd hs c, fun _ => ⟨rfl, (absent hs).2⟩, noRecord, record, silence, stale, ok, errors, timer, held,
        waiting, due, tx⟩
    · exact keepsNext_next.2 (removePack_keeps hl)
  · exact keepsNext_next.2 id

theorem PortOk.silenced (h : PortOk x) (hs : x.state = .identifying ∨ x.state = .active) : PortOk x.silenced := by
  obtain ⟨here, absent, noRecord, record, silence, stale, ok, errors, timer, held, waiting, due, tx⟩ := h
  have present := here (by obtain hs | hs := hs <;> rw [hs] <;> decide)
  have notStale := stale.not.2 (by obtain hs | hs := hs <;> rw [hs] <;> decide)
  unfold Port.silenced
  split
  · next ha =>
    exact ⟨fun _ => present, nofun, by simp, fun _ => record (.inl ha), by simp, by simp, ok, errors, timer, held, nofun,
      due, tx⟩
  · exact ⟨fun _ => present, nofun, by simp, by simp, by simp, by simpa using notStale, ok, errors, timer, held, nofun, due,
      tx⟩

theorem silenced_slot : x.silenced.slot = x.slot := by
  unfold Port.silenced
  split <;> rfl

theorem execSilenceTimerExpiry_keeps : KeepsNext l s (execSilenceTimerExpiry p s) := by
  refine keepsNext_due fun h => Keeps.portChanged fun hl => Keeps.trans ?_ (route_keeps .packLink _ _)
  exact setPort_keeps hl (fun ok => ok.silenced h.2) fun r hr => .inl (by rwa [silenced_slot] at hr)

theorem execStaleTimerExpiry_keeps : KeepsNext l s (execStaleTimerExpiry p s) := by
  refine keepsNext_due fun h => Keeps.portChanged fun hl => Keeps.trans ?_ (route_keeps .packLink _ _)
  refine setPort_keeps hl ?_ fun _ => .inl
  rintro ⟨here, absent, noRecord, record, silence, stale, ok, errors, timer, held, waiting, due, tx⟩
  have noSilence := silence.not.2 (by rw [h.2]; decide)
  exact ⟨fun _ => here (by rw [h.2]; decide), nofun, by simp, by simp, by simpa using noSilence, by simp,
    ok, errors, timer, held, nofun, due, tx⟩

/-! ## A pack line (R36, R37, R42 to R47) -/

theorem PortOk.countError (h : PortOk x) : PortOk x.countError := by
  obtain ⟨here, absent, noRecord, record, silence, stale, ok, errors, rest⟩ := h
  refine ⟨here, absent, noRecord, record, silence, stale, ok, ?_, rest⟩
  simp only [Port.countError, sat255]
  split <;> omega

/-- A listening port's receiver replaced. -/
theorem PortOk.receiving (h : PortOk x) (hs : ¬ (x.state = .absent ∨ x.tx.isSome = true)) (rx : Rx) :
    PortOk { x with rx := rx } := by
  obtain ⟨here, absent, noRecord, record, silence, stale, ok, errors, timer, held, waiting, due, tx⟩ := h
  exact ⟨here, fun c => absurd (.inl c) hs, noRecord, record, silence, stale, ok, errors, timer, held, waiting, due,
    fun c => absurd (.inr c) hs⟩

theorem recordOf_ok {bs : List Byte} (h : telemetryValid bs = true) (now : Stamp) : RecordOk (recordOf bs now) := by
  simp only [telemetryValid, Bool.and_eq_true, decide_eq_true_eq] at h
  obtain ⟨⟨-, low⟩, high⟩ := h
  refine ⟨?_, low, high, ?_⟩
  · simp only [recordOf]; split <;> omega
  · simp only [recordOf]; omega

theorem PortOk.telemetry (h : PortOk x) (hs : x.state ≠ .absent) {r : PackRecord} (hr : RecordOk r) :
    PortOk (x.telemetry r) := by
  obtain ⟨here, absent, -, -, -, -, -, errors, timer, held, waiting, due, tx⟩ := h
  refine ⟨fun _ => here hs, nofun, by simp [Port.telemetry], fun _ => rfl, by simp [Port.telemetry],
    by simp [Port.telemetry], ?_, errors, timer, held, nofun, due, tx⟩
  rintro r' ⟨⟩
  exact hr

theorem alarmEvent_keeps (old new : Alarms) : Keeps l s (alarmEvent p old new s) :=
  Keeps.ite (fun _ => id) fun _ => route_keeps .packAlarm _ _

theorem placeRelay_keeps (raw : List Byte) : Keeps l s (placeRelay p raw s) := evr_keeps (setBulk_queues _ _ _)

theorem takeTelemetry_keeps {f : Frame} (hs : (s.ppt.ports.get p).state ≠ .absent)
    (hv : telemetryValid f.payload = true) : Keeps l s (takeTelemetry p f s) := by
  refine Keeps.portChanged fun hl => Keeps.trans (Keeps.trans ?_ (alarmEvent_keeps _ _)) (placeRelay_keeps _)
  have filled : Keeps l s (setPort p ((s.ppt.ports.get p).telemetry (recordOf f.payload s.tmb.ms)) s) :=
    setPort_keeps hl (fun h => h.telemetry hs (recordOf_ok hv _)) fun _ => .inl
  exact Keeps.ite (fun _ => filled) fun _ => filled.trans (route_keeps .packLink _ _)

theorem takeReply_keeps (hl : l.lasting = true) (payload : List Byte) : Keeps l s (takeReply p payload s) :=
  Keeps.ite (fun _ => resolveSlot_keeps hl _ _) fun _ => route_keeps .passLate _ _

theorem countError_keeps : Keeps l s (setPort p (s.ppt.ports.get p).countError s) :=
  setPort_keeps_same rfl rfl PortOk.countError fun _ => .inl

theorem packFrame_keeps (hl : l.lasting = true) (hs : (s.ppt.ports.get p).state ≠ .absent) (f : Frame) :
    Keeps l s (packFrame p f s) :=
  Keeps.ite (fun _ => Keeps.ite (fun hv => takeTelemetry_keeps hs hv) fun _ => countError_keeps)
    fun _ => Keeps.ite (fun _ => Keeps.ite (fun _ => takeReply_keeps hl _) fun _ => countError_keeps)
      fun _ => countError_keeps

theorem packByte_keeps (hl : l.lasting = true) (b : Byte) : Keeps l s (packByte p s b) := by
  refine Keeps.ite (fun _ => id) fun listening => ?_
  have received : Keeps l s (setPort p { s.ppt.ports.get p with rx := (rxFeed (s.ppt.ports.get p).rx b).1 } s) :=
    setPort_keeps_same rfl rfl (fun h => h.receiving listening _) fun _ => .inl
  have here := setPort_get (s := s) (p := p) (x := { s.ppt.ports.get p with rx := (rxFeed (s.ppt.ports.get p).rx b).1 }) p
  rw [if_pos rfl] at here
  split
  · next f _ =>
    refine received.trans (packFrame_keeps hl ?_ f)
    rw [here]
    exact fun c => listening (.inl c)
  · refine received.trans (Eq.mp (congrArg (fun y => Keeps l _ (setPort p y.countError _)) here) countError_keeps)
  · exact received

theorem receivePack_keeps (hl : l.lasting = true) (bs : List Byte) : Keeps l s (receivePack p bs s) :=
  Keeps.foldl (fun _ b => packByte_keeps hl b) bs s

theorem execPackFrameError_keeps (hl : l.lasting = true) (e : LineFault) :
    KeepsNext l s (execPackFrameError p e s) := by
  cases e with
  | bytes bs => exact keepsNext_next.2 (receivePack_keeps hl bs)
  | gap =>
    refine keepsNext_next.2 ?_
    unfold lineGap
    dsimp only
    split
    · next h =>
      refine setPort_keeps_same rfl rfl (fun ok => PortOk.countError ?_) fun _ => .inl
      obtain ⟨here, absent, noRecord, record, silence, stale, ok, errors, timer, held, waiting, due, tx⟩ := ok
      exact ⟨here, fun c => ⟨(absent c).1, rfl, (absent c).2.2⟩, noRecord, record, silence, stale, ok, errors, timer, held,
        waiting, due, fun _ => rfl⟩
    · exact id

theorem execPackRequestTransmit_keeps : KeepsNext l s (execPackRequestTransmit p s) := by
  unfold execPackRequestTransmit
  dsimp only
  split
  · next payload hd =>
    refine keepsNext_due fun h => setPort_keeps_same rfl rfl ?_ fun _ => .inl
    rintro ⟨here, absent, noRecord, record, silence, stale, ok, errors, timer, held, waiting, due, -⟩
    have waits := due (by rw [hd]; rfl)
    exact ⟨here, fun c => absurd c (waiting waits), noRecord, record, silence, stale, ok, errors, timer, held, waiting, nofun,
      fun _ => h.1⟩
  · exact keepsNext_next.2 id

theorem execPackRequestTransmitted_keeps : KeepsNext l s (execPackRequestTransmitted p s) := by
  unfold execPackRequestTransmitted
  dsimp only
  split
  · refine keepsNext_next.2 (setPort_keeps_same rfl rfl ?_ fun _ => .inl)
    rintro ⟨here, absent, noRecord, record, silence, stale, ok, errors, timer, held, waiting, due, -⟩
    exact ⟨here, fun c => ⟨(absent c).1, rfl, rfl⟩, noRecord, record, silence, stale, ok, errors, timer, held, waiting, due,
      nofun⟩
  · exact keepsNext_next.2 id

end Sys2Proof.Machine


namespace Sys2Proof.Machine

variable {s t : State} {l : Law}

/-! ## The service link: receiving (R182, R184) -/

/-- SLC with the buffer, the replies and the link state left alone. -/
structure SameLink (x y : Slc) : Prop where
  requests : y.requests = x.requests
  replies : y.replies = x.replies
  linkUp : y.linkUp = x.linkUp

theorem slc_keeps {x : Slc} (h : SameLink s.slc x) : Keeps l s { s with slc := x } := by
  cases l with
  | replies k => simp only [Keeps, Law.holds, h.replies, imp_self]
  | link rq rs => simp only [Keeps, Law.holds, h.requests, h.replies, imp_self]
  | queue | keys => simp only [Keeps, Law.holds, QueueLaw, h.requests, h.replies]; exact id
  | system =>
    simp only [Keeps, Law.holds, StateLaw, NoLinkDown, linkDownPending, QueueLaw, h.requests, h.replies, h.linkUp]
    exact id
  | _ => exact id

theorem linkError_keeps (kind : Nat) : Keeps l s (linkError kind s) := route_keeps .linkError _ _

theorem framingError_keeps (kind : Nat) : Keeps l s (framingError kind s) := by
  refine Keeps.trans ?_ (linkError_keeps kind)
  exact slc_keeps ⟨rfl, rfl, rfl⟩

/-- The request buffer replaced keeps every law while it holds at most four (R184). -/
theorem setRequests_keeps (hl : l.linked = false) {rs : List Request} (h : s.slc.requests.length ≤ 4 → rs.length ≤ 4) :
    Keeps l s { s with slc := { s.slc with requests := rs } } := by
  have queue : Keeps .queue s { s with slc := { s.slc with requests := rs } } := fun q =>
    queueLaw_iff.2 ⟨(queueLaw_iff.1 q).1, h (queueLaw_iff.1 q).2.1, (queueLaw_iff.1 q).2.2⟩
  cases l with
  | link _ _ => cases hl
  | queue => exact queue
  | keys => exact fun ⟨law, q⟩ => ⟨law, queue q⟩
  | system => exact fun ⟨law, q⟩ => ⟨law, queue q⟩
  | _ => exact id

theorem bufferRequest_keeps (hl : l.linked = false) (r : Request) : Keeps l s (bufferRequest r s) := by
  refine Keeps.ite (fun room => setRequests_keeps hl fun _ => ?_) fun _ => ?_
  · rw [List.length_append]; exact room
  · refine Keeps.trans ?_ (linkError_keeps 5)
    exact slc_keeps ⟨rfl, rfl, rfl⟩

theorem serviceEvent_keeps (hl : l.linked = false) (e : LineEvent) : Keeps l s (serviceEvent e s) := by
  cases e with
  | lengthError => exact framingError_keeps 2
  | checkError =>
    refine Keeps.trans ?_ (linkError_keeps 1)
    exact slc_keeps ⟨rfl, rfl, rfl⟩
  | frame f =>
    exact Keeps.ite (fun _ => bufferRequest_keeps hl _) fun _ => Keeps.ite (fun _ => bufferRequest_keeps hl _)
      fun _ => framingError_keeps 3

theorem serviceByte_keeps (hl : l.linked = false) (b : Byte) : Keeps l s (serviceByte s b) := by
  have received : Keeps l s { s with slc :=
      { s.slc with rx := (rxFeed s.slc.rx b).1, gapTimer := gapAfter (rxFeed s.slc.rx b).1 } } :=
    slc_keeps ⟨rfl, rfl, rfl⟩
  unfold serviceByte
  dsimp only
  split
  · exact received.trans (serviceEvent_keeps hl _)
  · exact received

theorem receiveService_keeps (hl : l.linked = false) (bs : List Byte) : Keeps l s (receiveService bs s) :=
  Keeps.foldl (fun _ b => serviceByte_keeps hl b) bs s

theorem execServiceGapTimeout_keeps : KeepsNext l s (execServiceGapTimeout s) := by
  unfold execServiceGapTimeout
  split
  · split
    · refine keepsNext_next.2 (Keeps.trans ?_ (framingError_keeps 4))
      exact slc_keeps ⟨rfl, rfl, rfl⟩
    · exact keepsNext_next.2 id
  · exact keepsNext_next.2 id

/-! ## Sending (R174, R176, R177, R185, R187) -/

theorem setTx_keeps (x : Option Tx) : Keeps l s (setTx x s) := slc_keeps ⟨rfl, rfl, rfl⟩

/-- EVR replaced keeps every law but that of the keyboard where it keeps its own. -/
theorem evr_keeps_other {x : Evr} (hl : l ≠ .keys) (ok : EvrOk s.evr → EvrOk x)
    (legal : PolicyLegal s.evr → PolicyLegal x) : Keeps l s { s with evr := x } := by
  have queue : Keeps .queue s { s with evr := x } := fun q =>
    queueLaw_iff.2 ⟨ok (queueLaw_iff.1 q).1, (queueLaw_iff.1 q).2⟩
  cases l with
  | keys => exact absurd rfl hl
  | queue => exact queue
  | system => exact fun ⟨law, q⟩ => ⟨law, queue q⟩
  | dark => exact fun h => ⟨h.1, legal h.2⟩
  | _ => exact id

theorem urgentTail_keeps : Keeps l s { s with evr := { s.evr with urgent := s.evr.urgent.tail } } := by
  have ok (h : EvrOk s.evr) : EvrOk { s.evr with urgent := s.evr.urgent.tail } := by
    obtain ⟨legal, nodup, codes, length, opened⟩ := h
    refine ⟨legal, ?_, le_trans (List.Sublist.length_le ?_) codes, length, opened⟩
    · rw [List.map_tail]; exact nodup.sublist (List.tail_sublist _)
    · refine List.monotone_filter_right _ fun c hc => ?_
      simp only [Bool.or_eq_true, List.any_eq_true] at hc ⊢
      exact hc.imp_right fun ⟨r, hr, h⟩ => ⟨r, List.mem_of_mem_tail hr, h⟩
  by_cases hl : l = .keys
  · subst hl
    exact fun ⟨law, q⟩ => ⟨law, queueLaw_iff.2 ⟨ok (queueLaw_iff.1 q).1, (queueLaw_iff.1 q).2⟩⟩
  · exact evr_keeps_other hl ok id

theorem sendUrgent_keeps (r : EventRecord) : Keeps l s (sendUrgent r s) := by
  refine Keeps.trans ?_ (setTx_keeps _)
  exact urgentTail_keeps

theorem evrOk_afterNormalTake {e : Evr} (h : EvrOk e) (now : Stamp) : EvrOk (e.afterNormalTake now) := by
  obtain ⟨legal, nodup, codes, length, opened⟩ := h
  unfold Evr.afterNormalTake
  split
  · next hd =>
    simp only [Evr.gapDue, Bool.and_eq_true, decide_eq_true_eq] at hd
    refine ⟨legal, nodup, codes, ?_, fun _ => ⟨rfl, rfl⟩⟩
    rw [List.length_append, List.length_singleton]
    omega
  · refine ⟨legal, nodup, codes, ?_, opened⟩
    rw [List.length_tail]
    omega

/-- A take from the normal queue, with the announced marks cleared where its GAP has the key mark (R116, R176). -/
theorem normalTake_keeps (now : Stamp) :
    Keeps l s { s with
      evr := s.evr.afterNormalTake now
      kms := if s.evr.gapDue && s.evr.keyMark then s.kms.unannounced else s.kms } := by
  by_cases hl : l = .keys
  · subst hl
    rintro ⟨⟨⟨gate, stopped, runs, first, exited⟩, records⟩, q⟩
    refine ⟨⟨?_, ?_⟩, queueLaw_iff.2 ⟨evrOk_afterNormalTake (queueLaw_iff.1 q).1 now, (queueLaw_iff.1 q).2⟩⟩
    · split
      · refine ⟨gate, stopped, runs, fun h p => ?_, exited⟩
        simp only [Kms.unannounced, Table.get_map]
        exact first h p
      · exact ⟨gate, stopped, runs, first, exited⟩
    · rw [keyRecordLaw_iff] at records ⊢
      intro p
      have taken := (records p).1.afterNormalTake now
      dsimp only
      split at taken
      · next h =>
        rw [if_pos h]
        simp only [Kms.unannounced, Table.get_map]
        exact ⟨taken, nofun⟩
      · next h =>
        rw [if_neg h]
        exact ⟨taken, (records p).2⟩
  · refine Keeps.trans (t := { s with evr := s.evr.afterNormalTake now })
      (evr_keeps_other hl (fun h => evrOk_afterNormalTake h now) fun h => ?_) (kms_keeps_other _ hl)
    have : (s.evr.afterNormalTake now).policy = s.evr.policy := by unfold Evr.afterNormalTake; split <;> rfl
    simpa only [PolicyLegal, this] using h

theorem sendNormal_keeps (r : NormalRecord) : Keeps l s (sendNormal r s) := by
  refine Keeps.trans ?_ (setTx_keeps _)
  exact normalTake_keeps s.tmb.ms

theorem sendBulk_keeps (b : BulkSlot) : Keeps l s (sendBulk b s) := by
  refine Keeps.trans ?_ (setTx_keeps _)
  refine evr_keeps ?_
  cases b <;> exact ⟨rfl, rfl, rfl, rfl, rfl, rfl⟩

theorem startTransmit_keeps : Keeps l s (startTransmit s) := by
  unfold startTransmit
  split
  · exact id
  split
  · exact setTx_keeps _
  refine Keeps.ite (fun _ => ?_) fun _ => id
  split
  · exact sendUrgent_keeps _
  · exact sendNormal_keeps _
  · exact sendBulk_keeps _
  · exact id

/-- Replies that leave the queue take their link-down with them (R157, R190). -/
theorem LinkLaw.remove {st : SysState} {c d : Slc} {removed : List Reply} (h : LinkLaw st c)
    (pending : linkDownPending c = (linkDownPending d || removed.any fun r => r.linkDown))
    (count : (c.replies.filter fun r => r.linkDown).length =
      (d.replies.filter fun r => r.linkDown).length + (removed.filter fun r => r.linkDown).length)
    (linkUp : d.linkUp = (c.linkUp && !removed.any fun r => r.linkDown)) : LinkLaw st d := by
  obtain ⟨down, run, tied, one⟩ := h
  simp only [NoLinkDown, pending, Bool.or_eq_false_iff] at down run tied
  refine ⟨fun hs => ?_, fun hs => ?_, fun hs => ?_, by omega⟩
  · obtain ⟨up, free, -⟩ := down hs
    exact ⟨by rw [linkUp, up]; rfl, free⟩
  · obtain ⟨up, free, none⟩ := run hs
    exact ⟨by rw [linkUp, up, none]; rfl, free⟩
  · rw [linkUp, tied hs]
    cases hr : removed.any fun r => r.linkDown with
    | false => simp
    | true =>
      have : 0 < (removed.filter fun r => r.linkDown).length :=
        List.length_filter_pos_iff.2 (by simpa using hr)
      have zero : (d.replies.filter fun r => r.linkDown).length = 0 := by omega
      have free : linkDownPending d = false := by
        simpa [linkDownPending] using zero
      simp [free]

/-- SLC replaced keeps every law where it keeps link law and queue sizes. -/
theorem slc_keeps_link (hl : l.linked = false) {x : Slc} (requests : s.slc.requests.length ≤ 4 → x.requests.length ≤ 4)
    (replies : x.replies.length ≤ s.slc.replies.length) (link : LinkLaw s.ssc.state s.slc → LinkLaw s.ssc.state x) :
    Keeps l s { s with slc := x } := by
  have queue : Keeps .queue s { s with slc := x } := fun q =>
    queueLaw_iff.2 ⟨(queueLaw_iff.1 q).1, requests (queueLaw_iff.1 q).2.1, replies.trans (queueLaw_iff.1 q).2.2⟩
  cases l with
  | replies k => exact replies.trans
  | link _ _ => cases hl
  | queue => exact queue
  | keys => exact fun ⟨law, q⟩ => ⟨law, queue q⟩
  | system =>
    rintro ⟨law, q⟩
    obtain ⟨lines, law, held⟩ := stateLaw_iff.1 law
    exact ⟨stateLaw_iff.2 ⟨lines, link law, held⟩, queue q⟩
  | _ => exact id

theorem departReply_keeps (hl : l.linked = false) : Keeps l s { s with slc := departReply s.slc } := by
  unfold departReply
  cases h : s.slc.replies with
  | nil => exact id
  | cons r rest =>
    refine slc_keeps_link hl id (by simp [h]) fun law => law.remove (removed := [r]) ?_ ?_ ?_
    · simp [linkDownPending, h, Bool.or_comm]
    · simp only [h, List.filter_cons, List.filter_nil]
      split <;> simp
    · simp

theorem endTransmit_keeps (hl : l.linked = false) : Keeps l s (endTransmit s) := by
  unfold endTransmit
  split
  · exact id
  split
  · exact setTx_keeps _
  split
  · exact (departReply_keeps hl).trans (setTx_keeps _)
  · exact setTx_keeps _

/-! ## RESTART_LINK (R190) -/

theorem begunReplies_removedReplies (c : Slc) : begunReplies c ++ removedReplies c = c.replies := by
  unfold begunReplies removedReplies
  split
  · exact List.take_append_drop 1 c.replies
  · rfl

theorem restartSlc_keeps (hl : l.linked = false) : Keeps l s { s with slc := restartSlc s.slc } := by
  have all := begunReplies_removedReplies s.slc
  refine slc_keeps_link hl (fun _ => Nat.zero_le 4) ?_ fun law => law.remove (removed := removedReplies s.slc) ?_ ?_ rfl
  · rw [← all, List.length_append]; exact Nat.le_add_right ..
  · simp only [linkDownPending, ← all, List.any_append]; rfl
  · rw [← all, List.filter_append, List.length_append]; rfl

theorem evrOk_restart {e : Evr} (h : EvrOk e) : EvrOk e.restart := by
  obtain ⟨legal, -, codes, -, -⟩ := h
  refine ⟨legal, List.nodup_nil, le_trans (List.Sublist.length_le ?_) codes, Nat.zero_le _, fun _ => ⟨rfl, rfl⟩⟩
  refine List.monotone_filter_right _ fun c hc => ?_
  simp only [Evr.restart, List.any_nil, Bool.or_false] at hc
  exact Bool.or_eq_true_iff.2 (.inl hc)

/-- The queues emptied with every announced mark cleared (R180, R190). -/
theorem restartQueues_keeps : Keeps l s { s with evr := s.evr.restart, kms := s.kms.unannounced } := by
  by_cases hl : l = .keys
  · subst hl
    rintro ⟨⟨⟨gate, stopped, runs, first, exited⟩, -⟩, q⟩
    refine ⟨⟨⟨gate, stopped, runs, fun h p => ?_, exited⟩, keyRecordLaw_iff.2 fun p => ⟨keyOk_of_nil rfl, fun h => ?_⟩⟩,
      queueLaw_iff.2 ⟨evrOk_restart (queueLaw_iff.1 q).1, (queueLaw_iff.1 q).2⟩⟩
    · simp only [Kms.unannounced, Table.get_map]
      exact first h p
    · simp only [Kms.unannounced, Table.get_map] at h
      cases h
  · exact Keeps.trans (t := { s with evr := s.evr.restart }) (evr_keeps_other hl evrOk_restart id)
      (kms_keeps_other _ hl)

theorem PassSlot.restart_held (x : PassSlot) : x.restart.held = x.held ∨ x.restart.held = none := by
  unfold PassSlot.restart
  split
  · exact .inl rfl
  · exact .inr rfl
  · exact .inl rfl

theorem PortOk.slotRestart {x : Port} (h : PortOk x) : PortOk { x with slot := x.slot.restart } := by
  obtain ⟨here, absent, noRecord, record, silence, stale, ok, errors, timer, held, waiting, due, tx⟩ := h
  cases hs : x.slot.state with
  | idle =>
    have same : x.slot.restart = x.slot := by unfold PassSlot.restart; rw [hs]
    rw [same]
    exact ⟨here, absent, noRecord, record, silence, stale, ok, errors, timer, held, waiting, due, tx⟩
  | waiting =>
    have same : x.slot.restart = { x.slot with discard := true } := by simp only [PassSlot.restart, hs]
    rw [same]
    exact ⟨here, absent, noRecord, record, silence, stale, ok, errors, timer, held, waiting, due, tx⟩
  | resolved =>
    have same : x.slot.restart = { x.slot with state := .idle, held := none } := by
      simp only [PassSlot.restart, hs]
    rw [same]
    rw [hs] at timer due
    exact ⟨here, absent, noRecord, record, silence, stale, ok, errors, timer.trans (iff_of_false nofun nofun), by simp, nofun,
      fun c => absurd (due c) (by decide), tx⟩

theorem slotRestart_keeps (p : Pack) :
    Keeps l s (setPort p { s.ppt.ports.get p with slot := (s.ppt.ports.get p).slot.restart } s) := by
  refine setPort_keeps_same rfl rfl PortOk.slotRestart fun r hr => .inl ?_
  obtain h | h := PassSlot.restart_held (s.ppt.ports.get p).slot
  · simpa only [h] using hr
  · simp [h] at hr

theorem restartLink_keeps (hl : l.linked = false) : Keeps l s (restartLink s) := by
  refine Keeps.trans (restartSlc_keeps hl) (Keeps.trans restartQueues_keeps ?_)
  exact Keeps.trans (slotRestart_keeps .a) (slotRestart_keeps .b)

end Sys2Proof.Machine


namespace Sys2Proof.Machine

variable {s t : State} {P : State → Prop}

/-! ## What an owner answers (0.3, R183)

Each request's owner refuses, and then changes nothing and sends no data, or accepts with a state that its rule names.
`Answered P s a` says so of an answer `a`, the accepted states meeting `P`; each owner gets one lemma. -/

inductive Answered (P : State → Prop) (s : State) : Answer → Prop
  | refused (c : ResultCode) (hc : c ≠ .ok ∧ c ≠ .okClamped) : Answered P s (refuse c s)
  | accepted {t : State} (d : List Byte) (h : P t) : Answered P s (accept t d)
  | setting (b : Bool) {t : State} (d : List Byte) (h : P t) : Answered P s (acceptClamped b t d)

namespace Answered

theorem refusal (c : ResultCode) (hc : c ≠ .ok ∧ c ≠ .okClamped := by decide) : Answered P s (refuse c s) := .refused c hc

theorem branch {p : Prop} [Decidable p] {a b : Answer} (h : p → Answered P s a) (k : ¬ p → Answered P s b) :
    Answered P s (if p then a else b) := by
  split
  · exact h ‹_›
  · exact k ‹_›

theorem dbranch {p : Prop} [Decidable p] {a : p → Answer} {b : ¬ p → Answer} (h : ∀ c, Answered P s (a c))
    (k : ∀ c, Answered P s (b c)) : Answered P s (if c : p then a c else b c) := by
  split
  · exact h _
  · exact k _

end Answered

open Answered

variable {bs : List Byte}

/-! ### Requests that only read -/

theorem readStatus_answered (h : P s) : Answered P s (readStatus bs s) := branch (fun _ => refusal _) fun _ => accepted _ h

theorem readChannels_answered (h : P s) : Answered P s (readChannels bs s) :=
  branch (fun _ => refusal _) fun _ => branch (fun _ => accepted _ h) fun _ => branch (fun _ => accepted _ h) fun _ => refusal _

theorem readPack_answered (h : P s) : Answered P s (readPack bs s) := by
  refine branch (fun _ => refusal _) fun _ => ?_
  cases packOf (arg1 bs 0) with
  | none => exact refusal _
  | some p => exact accepted _ h

theorem readAllocation_answered (h : P s) : Answered P s (readAllocation bs s) :=
  branch (fun _ => refusal _) fun _ => accepted _ h

theorem readFaults_answered (h : P s) : Answered P s (readFaults bs s) :=
  branch (fun _ => refusal _) fun _ => branch (fun _ => accepted _ h) fun _ => dbranch (fun _ => accepted _ h) fun _ => refusal _

theorem readKeymap_answered (h : P s) : Answered P s (readKeymap bs s) := branch (fun _ => refusal _) fun _ => accepted _ h

theorem readFans_answered (h : P s) : Answered P s (readFans bs s) := branch (fun _ => refusal _) fun _ => accepted _ h

theorem readWhole_answered (d : List Byte) (h : P s) : Answered P s (readWhole bs d s) :=
  branch (fun _ => refusal _) fun _ => accepted _ h

theorem readLimits_answered (h : P s) : Answered P s (readLimits bs s) :=
  branch (fun _ => refusal _) fun _ => dbranch (fun _ => accepted _ h) fun _ => refusal _

theorem readProfiles_answered (h : P s) : Answered P s (readProfiles bs s) :=
  branch (fun _ => refusal _) fun _ => dbranch (fun _ => accepted _ h) fun _ => refusal _

theorem readTranslation_answered (h : P s) : Answered P s (readTranslation bs s) :=
  branch (fun _ => refusal _) fun _ => dbranch (fun _ => accepted _ h) fun _ => refusal _

theorem readCurves_answered (h : P s) : Answered P s (readCurves bs s) := by
  refine branch (fun _ => refusal _) fun _ => ?_
  cases fanOf (arg1 bs 1) with
  | none => exact refusal _
  | some f => exact dbranch (fun _ => accepted _ h) fun _ => branch (fun _ => accepted _ h) fun _ => refusal _

theorem readTable_answered (h : P s) : Answered P s (readTable bs s) :=
  branch (fun _ => refusal _) fun _ =>
  branch (fun _ => readWhole_answered _ h) fun _ =>
  branch (fun _ => readLimits_answered h) fun _ =>
  branch (fun _ => readProfiles_answered h) fun _ =>
  branch (fun _ => readWhole_answered _ h) fun _ =>
  branch (fun _ => readCurves_answered h) fun _ =>
  branch (fun _ => readWhole_answered _ h) fun _ =>
  branch (fun _ => readTranslation_answered h) fun _ =>
  branch (fun _ => readWhole_answered _ h) fun _ => refusal _

/-! ### Settings -/

theorem setInputLimit_answered (h : ∀ n, P { s with ppc := { s.ppc with iHL := n } }) :
    Answered P s (setInputLimit bs s) :=
  branch (fun _ => refusal _) fun _ => branch (fun _ => accepted _ (h 0)) fun _ => setting _ _ (h _)

theorem setEfficiency_answered (h : ∀ n, P { s with ppc := { s.ppc with eta := n } }) :
    Answered P s (setEfficiency bs s) :=
  branch (fun _ => refusal _) fun _ => setting _ _ (h _)

theorem setBoost_answered (h : ∀ on floor, P { s with ppc := s.ppc.withBoost on floor }) :
    Answered P s (setBoost bs s) :=
  branch (fun _ => refusal _) fun _ => branch (fun _ => refusal _) fun _ => setting _ _ (h _ _)

theorem setChargeInhibit_answered
    (h : ∀ (on : Bool) (ps : List Pack), P { s with ppc := ps.foldl (fun c p => c.inhibitPack on p) s.ppc }) :
    Answered P s (setChargeInhibit bs s) :=
  branch (fun _ => refusal _) fun _ => branch (fun _ => refusal _) fun _ => accepted _ (h _ _)

theorem clampNat_range {lo hi : Nat} (h : lo ≤ hi) (v : Nat) : lo ≤ (clampNat lo hi v).1 ∧ (clampNat lo hi v).1 ≤ hi := by
  unfold clampNat
  split
  · exact ⟨le_rfl, h⟩
  · split
    · exact ⟨h, le_rfl⟩
    · dsimp only; omega

theorem setBatteryThresholds_answered
    (h : ∀ low critical, 5 ≤ low → low ≤ 50 → 2 ≤ critical → critical < low →
      P (decideBattery { s with ssc := { s.ssc with lowThreshold := low, criticalThreshold := critical } })) :
    Answered P s (setBatteryThresholds bs s) := by
  refine branch (fun _ => refusal _) fun _ => setting _ _ ?_
  have low := clampNat_range (lo := 5) (hi := 50) (by decide) (arg1 bs 0)
  have critical := clampNat_range (lo := 2) (hi := (clampNat 5 50 (arg1 bs 0)).1 - 1) (by omega) (arg1 bs 1)
  exact h _ _ low.1 low.2 critical.1 (by omega)

theorem setHostTemps_answered (h : ∀ xs : List (Fin 4 × Int × Bool), P (xs.foldl refreshSlot s)) :
    Answered P s (setHostTemps bs s) :=
  branch (fun _ => refusal _) fun _ => branch (fun _ => refusal _) fun _ =>
    branch (fun _ => refusal _) fun _ => setting _ _ (h _)

theorem setFanOverride_answered (h : ∀ d t, P { s with fnc := { s.fnc with overrideDuty := d, overrideTimer := t } }) :
    Answered P s (setFanOverride bs s) :=
  branch (fun _ => refusal _) fun _ => branch (fun _ => accepted _ (h 0 none)) fun _ => setting _ _ (h _ _)

theorem setKeyDebounce_answered (h : ∀ m n, P { s with kms := { s.kms with pressCount := m, releaseCount := n } }) :
    Answered P s (setKeyDebounce bs s) :=
  branch (fun _ => refusal _) fun _ => setting _ _ (h _ _)

theorem setSwitchDebounce_answered (same : P s) (h : ∀ i n, P (setInput i { s.swi.input i with time := n } s)) :
    Answered P s (setSwitchDebounce bs s) := by
  refine branch (fun _ => refusal _) fun _ => branch (fun _ => branch (fun _ => accepted _ same) fun _ => refusal _) fun _ => ?_
  cases selectorInput (arg1 bs 0) with
  | none => exact refusal _
  | some i => exact branch (fun _ => refusal _) fun _ => setting _ _ (h _ _)

theorem setTelemetry_answered (h : ∀ n, P { s with evr := s.evr.withPeriod n }) : Answered P s (setTelemetry bs s) :=
  branch (fun _ => refusal _) fun _ => branch (fun _ => accepted _ (h 0)) fun _ => setting _ _ (h _)

/-! ### Loads and defaults -/

theorem loadProfile_answered (h : ∀ i x, P (setProfile i x s)) : Answered P s (loadProfile bs s) :=
  branch (fun _ => refusal _) fun _ => dbranch (fun _ => branch (fun _ => refusal _) fun _ => branch (fun _ => refusal _) fun _ =>
    branch (fun _ => accepted _ (h _ _)) fun _ => refusal _) fun _ => refusal _

theorem loadAdapter_answered (h : ∀ i e, P (setAdapterEntry i e s)) : Answered P s (loadAdapter bs s) :=
  branch (fun _ => refusal _) fun _ => dbranch (fun _ => branch (fun _ => accepted _ (h _ _)) fun _ =>
    branch (fun _ => accepted _ (h _ _)) fun _ => refusal _) fun _ => refusal _

theorem loadLimit_answered (h : ∀ ch e, P (loadLimitEntry ch e s)) : Answered P s (loadLimit bs s) := by
  refine branch (fun _ => refusal _) fun _ => dbranch (fun _ => ?_) fun _ => refusal _
  cases allActions[arg1 bs 14]? with
  | none => exact refusal _
  | some a => exact branch (fun _ => accepted _ (h _ _)) fun _ => refusal _

theorem loadSchedule_answered
    (h : ∀ i e, SlotOk e → scheduleFits s.sws.schedule i e = true → P { s with sws := loadSlot i e s.sws }) :
    Answered P s (loadSchedule bs s) := by
  refine branch (fun _ => refusal _) fun _ => dbranch (fun _ => branch (fun _ => refusal _) fun ok =>
    branch (fun fits => ?_) fun _ => refusal _)
    fun _ => refusal _
  refine accepted _ (h _ _ ?_ fits)
  simpa using ok

theorem curveValid_minDuty {mask : Nat} {c : Curve} (h : curveValid mask c = true) : c.minDuty ≤ 1000 := by
  simp only [curveValid, Bool.and_eq_true, decide_eq_true_eq] at h
  exact h.1.1.1.2

theorem loadFanCurve_answered (curve : ∀ f i c, c.minDuty ≤ 1000 → P (loadCurve f i c s))
    (config : ∀ f c, P (loadConfig f c s)) : Answered P s (loadFanCurve bs s) := by
  refine branch (fun _ => refusal _) fun _ => ?_
  cases fanOf (arg1 bs 0) with
  | none => exact refusal _
  | some f =>
    refine dbranch (fun _ => ?_) fun _ => branch (fun _ => ?_) fun _ => refusal _
    · exact branch (fun _ => refusal _) fun _ => branch (fun _ => refusal _) fun _ => branch (fun _ => refusal _) fun _ =>
        branch (fun ok => accepted _ (curve _ _ _ (curveValid_minDuty ok))) fun _ => refusal _
    · exact branch (fun _ => refusal _) fun _ => branch (fun _ => refusal _) fun _ => accepted _ (config _ _)

theorem loadPolicy_answered
    (h : ∀ c p, (p.start = true → c.mayStart = true) → (urgentCodes (setPolicy s.evr c p) s.evr.urgent).length ≤ 8 →
      P { s with evr := { s.evr with policy := setPolicy s.evr c p } }) : Answered P s (loadPolicy bs s) := by
  refine branch (fun _ => refusal _) fun _ => ?_
  cases policyCode (arg1 bs 0) with
  | none => exact refusal _
  | some c =>
    cases classOf (arg1 bs 1) with
    | none => exact refusal _
    | some cls =>
      refine branch (fun _ => refusal _) fun start => branch (fun _ => refusal _) fun few =>
        accepted _ (h _ _ (fun hs => ?_) (by omega))
      rw [Bool.and_eq_true, not_and] at start
      simpa using start hs

theorem loadKeyrow_answered (h : ∀ row, P { s with kms := s.kms.loadRow row bs }) : Answered P s (loadKeyrow bs s) :=
  branch (fun _ => refusal _) fun _ => dbranch (fun _ => branch (fun _ => refusal _) fun _ => branch (fun _ => refusal _) fun _ =>
    accepted _ (h _)) fun _ => refusal _

theorem loadPassFilter_answered (h : ∀ i e, P (setFilter i e s)) : Answered P s (loadPassFilter bs s) := by
  refine branch (fun _ => refusal _) fun _ => dbranch
    (fun _ => branch (fun _ => accepted _ (h _ _)) fun _ => ?_) fun _ => refusal _
  cases verdictOf (arg1 bs 4) with
  | none => exact refusal _
  | some v => exact branch (fun _ => refusal _) fun _ => accepted _ (h _ _)

theorem restoreDefaults_answered (schedule : P (restoreSchedule s)) (limits : P (restoreLimits s))
    (profiles : P (restoreProfiles s)) (adapters : P (restoreAdapters s)) (curves : P (restoreCurves s))
    (policy : (urgentCodes defaultPolicy s.evr.urgent).length ≤ 8 → P { s with evr := { s.evr with policy := defaultPolicy } })
    (translation : P (restoreTranslation s)) (filter : P (restoreFilter s)) : Answered P s (restoreDefaults bs s) :=
  branch (fun _ => refusal _) fun _ => branch (fun _ => refusal _) fun _ => branch (fun _ => refusal _) fun _ =>
  branch (fun _ => accepted _ schedule) fun _ => branch (fun _ => accepted _ limits) fun _ =>
  branch (fun _ => accepted _ profiles) fun _ => branch (fun _ => accepted _ adapters) fun _ =>
  branch (fun _ => accepted _ curves) fun _ =>
  branch (fun _ => branch (fun _ => refusal _) fun few => accepted _ (policy (by omega))) fun _ =>
  branch (fun _ => accepted _ translation) fun _ => accepted _ filter

/-! ### The others -/

theorem clearFaults_answered (h : P (clearAll s)) : Answered P s (clearFaults bs s) :=
  branch (fun _ => refusal _) fun _ => accepted _ h

theorem readTally_answered (h : ∀ cs, P { s with evr := s.evr.clearTallies cs }) : Answered P s (readTally bs s) :=
  branch (fun _ => refusal _) fun _ => accepted _ (h _)

theorem restartRequest_answered (h : P (restartLink s)) : Answered P s (restartRequest bs s) :=
  branch (fun _ => refusal _) fun _ => accepted _ h

theorem releaseBay_answered (h : P (setPending s)) : Answered P s (releaseBay bs s) :=
  branch (fun _ => refusal _) fun _ => branch (fun _ => refusal _) fun _ => accepted _ h

theorem bayCancel_answered (h : P (clearPending s)) : Answered P s (bayCancel bs s) :=
  branch (fun _ => refusal _) fun _ => accepted _ h

theorem onlineRequest_answered (same : P s) (h : s.ssc.state = .booting ∨ s.ssc.state = .waking → P (goOnline s)) :
    Answered P s (onlineRequest bs s) := by
  refine branch (fun _ => refusal _) fun _ => ?_
  cases hs : s.ssc.state <;> simp only
  case booting => exact accepted _ (h (.inl hs))
  case waking => exact accepted _ (h (.inr hs))
  case run => exact accepted _ same
  all_goals exact refusal _

theorem powerOffRequest_answered
    (h : s.ssc.state = .run ∨ s.ssc.state = .booting ∨ s.ssc.state = .waking → P (goHalting s)) :
    Answered P s (powerOffRequest bs s) := by
  refine branch (fun _ => refusal _) fun _ => ?_
  cases hs : s.ssc.state <;> simp only
  case run => exact accepted _ (h (.inl hs))
  case booting => exact accepted _ (h (.inr (.inl hs)))
  case waking => exact accepted _ (h (.inr (.inr hs)))
  all_goals exact refusal _

end Sys2Proof.Machine


namespace Sys2Proof.Machine

variable {s t : State} {l : Law}

/-! ## What the owners of requests keep -/

theorem setBoost_drive (c : Ppc) (on : Bool) (floor : Nat) : SameDrive c (c.withBoost on floor) :=
  ⟨rfl, rfl, rfl, rfl, rfl, rfl, rfl⟩

theorem SameDrive.trans {x y z : Ppc} (h : SameDrive x y) (k : SameDrive y z) : SameDrive x z :=
  ⟨k.figures.trans h.figures, k.adapter.trans h.adapter, k.switch.trans h.switch, k.path.trans h.path, k.bay.trans h.bay,
    k.throttle.trans h.throttle, k.ltr.trans h.ltr⟩

theorem inhibitPack_drive (c : Ppc) (on : Bool) (p : Pack) : SameDrive c (c.inhibitPack on p) := by
  have figures : (c.inhibitPack on p).figures = c.figures := by
    unfold Ppc.inhibitPack
    dsimp only
    cases p <;> split <;> rfl
  refine ⟨figures, ?_, ?_, ?_, ?_, ?_, ?_⟩ <;> (unfold Ppc.inhibitPack; dsimp only; split <;> rfl)

theorem inhibitPacks_drive (on : Bool) (ps : List Pack) (c : Ppc) :
    SameDrive c (ps.foldl (fun c p => c.inhibitPack on p) c) := by
  induction ps generalizing c with
  | nil => exact ⟨rfl, rfl, rfl, rfl, rfl, rfl, rfl⟩
  | cons p ps ih => exact (inhibitPack_drive c on p).trans (ih _)

theorem setThresholds_keeps {low critical : Nat} (h1 : 5 ≤ low) (h2 : low ≤ 50) (h3 : 2 ≤ critical) (h4 : critical < low) :
    Keeps l s (decideBattery { s with ssc := { s.ssc with lowThreshold := low, criticalThreshold := critical } }) := by
  by_cases hl : l = .flags
  · subst hl; exact fun _ => decideBattery_flags
  refine Keeps.trans ?_ decideBattery_keeps
  cases l with
  | flags => exact absurd rfl hl
  | drives => exact fun ⟨switch, ltr, _⟩ => ⟨switch, ltr, h1, h2, h3, h4⟩
  | _ => exact id

theorem refreshSlots_keeps (xs : List (Fin 4 × Int × Bool)) : Keeps l s (xs.foldl refreshSlot s) :=
  Keeps.foldl (fun _ x => setSlot_keeps x.1 _) xs s

theorem setTime_keeps (i : SwitchInput) (n : Nat) : Keeps l s (setInput i { s.swi.input i with time := n } s) :=
  swi_keeps fun _ => by cases i <;> rfl

theorem withPeriod_queues (e : Evr) (n : Nat) : SameQueues e (e.withPeriod n) := by
  unfold Evr.withPeriod
  split
  · exact ⟨rfl, rfl, rfl, rfl, rfl, rfl⟩
  · exact ⟨rfl, rfl, rfl, rfl, rfl, rfl⟩

theorem SlotEntry.conflicts_comm (x y : SlotEntry) : x.conflicts y = y.conflicts x := by
  simp only [SlotEntry.conflicts, min_comm, eq_comm]

/-- An entry that passes check 3 of R10 keeps the schedule free of conflicts. -/
theorem schedule_set {t : Table SlotEntry 8} {i : Fin 8} {e : SlotEntry} (fits : scheduleFits t i e = true)
    (free : ∀ i j : Fin 8, i ≠ j → (t.get i).enable = true → (t.get j).enable = true →
      (t.get i).conflicts (t.get j) = false) (j k : Fin 8) (hjk : j ≠ k) (hj : ((t.set i e).get j).enable = true)
    (hk : ((t.set i e).get k).enable = true) : ((t.set i e).get j).conflicts ((t.set i e).get k) = false := by
  have entry (he : e.enable = true) (m : Fin 8) (hm : m ≠ i) (on : (t.get m).enable = true) :
      e.conflicts (t.get m) = false := by
    simp only [scheduleFits, he, Bool.not_true, Bool.false_or, List.all_eq_true, List.mem_finRange, true_implies] at fits
    simpa [hm, on] using fits m
  simp only [Table.get_set] at hj hk ⊢
  by_cases h1 : j = i
  · have h2 : k ≠ i := fun c => hjk (h1.trans c.symm)
    simp only [h1, h2, if_true, if_false] at hj hk ⊢
    exact entry hj k h2 hk
  · by_cases h2 : k = i
    · simp only [h1, h2, if_true, if_false] at hj hk ⊢
      rw [SlotEntry.conflicts_comm]
      exact entry hk j h1 hj
    · simp only [h1, h2, if_false] at hj hk ⊢
      exact free j k hjk hj hk

theorem loadSlot_keeps {i : Fin 8} {e : SlotEntry} (ok : SlotOk e) (fits : scheduleFits s.sws.schedule i e = true)
    (hs : l.sampling = false) : Keeps l s { s with sws := loadSlot i e s.sws } := by
  refine sws_keeps hs ?_
  rintro ⟨slots, free, counter, going⟩
  have slots' (j : Fin 8) : SlotOk ((s.sws.schedule.set i e).get j) := by
    rw [Table.get_set]
    split
    · exact ok
    · exact slots j
  have drop (w : Sweep) : (w.dropSlot i).number = w.number ∧ (w.dropSlot i).fast = w.fast := by
    unfold Sweep.dropSlot; split <;> exact ⟨rfl, rfl⟩
  unfold loadSlot
  dsimp only
  split
  · refine ⟨slots', schedule_set fits free, counter, fun w hw => ?_⟩
    obtain ⟨v, hv, rfl⟩ := Option.map_eq_some_iff.1 hw
    obtain ⟨number, fast⟩ := drop v
    rw [number, fast]
    exact going v hv
  · exact ⟨slots', schedule_set fits free, counter, going⟩

theorem restoreSchedule_keeps (hs : l.sampling = false) : Keeps l s (restoreSchedule s) := by
  refine sws_keeps hs ?_
  rintro ⟨-, -, counter, going⟩
  obtain ⟨slots, free, -, -⟩ := reset_sweep .powerOn false false []
  exact ⟨slots, free, counter, going⟩

theorem loadCurve_keeps {f : Fan} {i : Fin 3} {c : Curve} (hc : c.minDuty ≤ 1000) : Keeps l s (loadCurve f i c s) := by
  refine fnc_keeps fun _ _ law => ⟨fun j => ?_, law.2⟩
  obtain ⟨one, two⟩ := law.1 j
  cases f with
  | one =>
    refine ⟨?_, two⟩
    simp only [PerFan.set, PerFan.get, Table.get_set]
    split
    · exact hc
    · exact one
  | two =>
    refine ⟨one, ?_⟩
    simp only [PerFan.set, PerFan.get, Table.get_set]
    split
    · exact hc
    · exact two

theorem restoreCurves_keeps : Keeps l s (restoreCurves s) := by
  refine fnc_keeps fun _ _ law => ⟨?_, law.2⟩
  exact (reset_fans .powerOn false false []).1

/-- A policy table with START where it may stand and few enough URGENT codes keeps every law (R170). -/
theorem setPolicy_keeps {t : Table Policy 35}
    (legal : PolicyLegal s.evr → ∀ c ∈ allCodes, (t.get c.idx).start = true → c.mayStart = true)
    (few : (urgentCodes t s.evr.urgent).length ≤ 8) : Keeps l s { s with evr := { s.evr with policy := t } } := by
  have ok (h : EvrOk s.evr) : EvrOk { s.evr with policy := t } := ⟨legal h.1, h.2.1, few, h.2.2.2⟩
  by_cases hl : l = .keys
  · subst hl
    exact fun ⟨law, q⟩ => ⟨law, queueLaw_iff.2 ⟨ok (queueLaw_iff.1 q).1, (queueLaw_iff.1 q).2⟩⟩
  · exact evr_keeps_other hl ok legal

/-- Each code has a number of its own (R169). -/
theorem EventCode.idx_injective {c d : EventCode} (h : c.idx = d.idx) : c = d := by
  have code (e : EventCode) : allCodes[e.idx.val]? = some e := by cases e <;> rfl
  exact Option.some.inj (by rw [← code c, ← code d, h])

theorem loadPolicy_keeps {c : EventCode} {p : Policy} (start : p.start = true → c.mayStart = true)
    (few : (urgentCodes (setPolicy s.evr c p) s.evr.urgent).length ≤ 8) :
    Keeps l s { s with evr := { s.evr with policy := setPolicy s.evr c p } } := by
  refine setPolicy_keeps (fun legal d hd h => ?_) few
  rw [setPolicy, Table.get_set] at h
  split at h
  · next e => rw [EventCode.idx_injective e]; exact start h
  · exact legal d hd h

theorem setPending_keeps : Keeps l s (setPending s) := by
  have pending : Keeps l s { s with ppc := { s.ppc with bay := { s.ppc.bay with pending := true } } } :=
    bayCount_keeps _ rfl
  exact Keeps.ite (fun _ => pending.trans enterReleasing_keeps) fun _ => pending

theorem clearPending_keeps : Keeps l s (clearPending s) := by
  refine Keeps.trans ?_ bayReturn_keeps
  exact bayCount_keeps _ rfl

theorem Charge.clearLatch_fastLimit (c : Charge) : c.clearLatch.fastLimit = c.fastLimit := by
  unfold Charge.clearLatch
  split <;> rfl

theorem Charge.noteProfile_fastLimit (c : Charge) (id : Nat) : (c.noteProfile id).fastLimit = c.fastLimit := by
  unfold Charge.noteProfile
  split <;> rfl

theorem clearLatches_keeps : Keeps l s (clearLatches s) :=
  ppc_keeps ⟨Ppc.figures_iff.2 ⟨rfl, rfl, Charge.clearLatch_fastLimit _, Charge.clearLatch_fastLimit _⟩,
    rfl, rfl, rfl, rfl, rfl, rfl⟩

theorem clearAll_keeps : Keeps l s (clearAll s) := by
  unfold clearAll
  exact clearHeld_keeps.trans (clearLatches_keeps.trans unlockFans_keeps)

/-! ## Moves of the system state by the host (R156 to R158) -/

theorem linkUpCancel_keeps (hl : l ≠ .system) : Keeps l s { s with slc := linkUpCancel s.slc } := by
  have length : (linkUpCancel s.slc).replies.length = s.slc.replies.length := List.length_map _
  have queue : Keeps .queue s { s with slc := linkUpCancel s.slc } := fun q =>
    queueLaw_iff.2 ⟨(queueLaw_iff.1 q).1, (queueLaw_iff.1 q).2.1, length.trans_le (queueLaw_iff.1 q).2.2⟩
  cases l with
  | system => exact absurd rfl hl
  | replies k => exact length.trans_le
  | link rq rs =>
    simp only [Keeps, Law.holds, linkUpCancel, untied_void]
    exact id
  | queue => exact queue
  | keys => exact fun ⟨law, q⟩ => ⟨law, queue q⟩
  | _ => exact id

/-- The state's timers are read by the law of the state alone. -/
theorem timers_keeps {b w h : Timer} (hl : l ≠ .system) :
    Keeps l s { s with ssc := { s.ssc with bootTimer := b, wakeTimer := w, haltTimer := h } } := by
  cases l with
  | system => exact absurd rfl hl
  | _ => exact id

/-- Outside OFF and STANDBY an event is only recorded (R154, R155). -/
theorem route_awake {c : EventCode} {n : Nat} {v : Int} (h1 : s.ssc.state ≠ .off) (h2 : s.ssc.state ≠ .standby) :
    route c n v s = record c n v false s := by
  unfold route
  split
  · next h => exact ((state_of_sscActs h).elim h1 h2).elim
  · rfl

/-- A move between states in which no event acts is its lines and its STATE_CHANGE (R152). -/
theorem moveState_recorded {new : SysState} (hs : s.ssc.state ≠ .off) (h1 : new ≠ .off) (h2 : new ≠ .waking)
    (h3 : new ≠ .standby) :
    moveState new none s = record .stateChange 0 new.num false (driveState new s) := by
  rw [moveState_awake none hs h1 h2]
  exact route_awake h1 h3

/-- An accepted ONLINE from BOOTING or WAKING (R156). -/
theorem goOnline_eq (hs : s.ssc.state ≠ .off) :
    goOnline s =
      { s with
        ssc := { s.ssc with state := .run, sysen := true, wake := false, bootTimer := none, wakeTimer := none }
        evr := s.evr.take .stateChange 0 SysState.run.num false s.tmb.ms
        slc := linkUpCancel s.slc } := by
  have moved := moveState_recorded (s := { s with ssc := { s.ssc with bootTimer := none, wakeTimer := none } })
    (new := .run) hs (by decide) (by decide) (by decide)
  rw [goOnline, moved]
  rfl

/-- An accepted POWER_OFF (R158). -/
theorem goHalting_eq (hs : s.ssc.state ≠ .off) :
    goHalting s =
      { s with
        ssc := { s.ssc with
          state := .halting
          sysen := true
          wake := false
          bootTimer := none
          wakeTimer := none
          haltTimer := some 200 }
        evr := s.evr.take .stateChange 0 SysState.halting.num false s.tmb.ms } := by
  have moved := moveState_recorded (s := { s with ssc := { s.ssc with bootTimer := none, wakeTimer := none } })
    (new := .halting) hs (by decide) (by decide) (by decide)
  rw [goHalting, moved]
  rfl

theorem linkUpCancel_free (c : Slc) : NoLinkDown (linkUpCancel c) := by
  simp [NoLinkDown, linkDownPending, linkUpCancel]

theorem goOnline_system (hs : s.ssc.state = .booting ∨ s.ssc.state = .waking) : Keeps .system s (goOnline s) := by
  rintro ⟨law, q⟩
  have awake : s.ssc.state ≠ .off := by obtain hs | hs := hs <;> rw [hs] <;> decide
  have notHalting : s.ssc.state ≠ .halting := by obtain hs | hs := hs <;> rw [hs] <;> decide
  obtain ⟨⟨-, -, -, -, halt, mode⟩, -, held⟩ := stateLaw_iff.1 law
  rw [goOnline_eq awake]
  refine ⟨stateLaw_iff.2 ⟨⟨rfl, rfl, rfl, rfl, ?_, iff_of_false (fun h => awake (mode.1 h).1) nofun⟩, ?_, held⟩, ?_⟩
  · rw [halt]; exact decide_eq_false notHalting
  · refine ⟨by simp, fun _ => ⟨rfl, linkUpCancel_free _⟩, by simp, ?_⟩
    simp [linkUpCancel, List.filter_map, Function.comp_def]
  · obtain ⟨evr, requests, replies⟩ := queueLaw_iff.1 q
    exact queueLaw_iff.2 ⟨evrOk_take evr .., requests, (List.length_map ..).trans_le replies⟩

theorem goOnline_keeps (hs : s.ssc.state = .booting ∨ s.ssc.state = .waking) : Keeps l s (goOnline s) := by
  by_cases hl : l = .system
  · subst hl; exact goOnline_system hs
  have awake : s.ssc.state ≠ .off := by obtain hs | hs := hs <;> rw [hs] <;> decide
  refine Keeps.trans (Keeps.trans (timers_keeps (b := none) (w := none) (h := s.ssc.haltTimer) hl) ?_) (linkUpCancel_keeps hl)
  exact moveState_awake_keeps nofun awake (by decide) (by decide) hl

theorem goHalting_system (hs : s.ssc.state = .run ∨ s.ssc.state = .booting ∨ s.ssc.state = .waking) :
    Keeps .system s (goHalting s) := by
  rintro ⟨law, q⟩
  have awake : s.ssc.state ≠ .off := by obtain hs | hs | hs := hs <;> rw [hs] <;> decide
  obtain ⟨⟨-, -, -, -, -, mode⟩, ⟨-, -, -, one⟩, held⟩ := stateLaw_iff.1 law
  rw [goHalting_eq awake]
  refine ⟨stateLaw_iff.2 ⟨⟨rfl, rfl, rfl, rfl, rfl, iff_of_false (fun h => awake (mode.1 h).1) nofun⟩, ?_, held⟩, ?_⟩
  · exact ⟨by simp, nofun, by simp, one⟩
  · obtain ⟨evr, link⟩ := queueLaw_iff.1 q
    exact queueLaw_iff.2 ⟨evrOk_take evr .., link⟩

theorem goHalting_keeps (hs : s.ssc.state = .run ∨ s.ssc.state = .booting ∨ s.ssc.state = .waking) :
    Keeps l s (goHalting s) := by
  by_cases hl : l = .system
  · subst hl; exact goHalting_system hs
  have awake : s.ssc.state ≠ .off := by obtain hs | hs | hs := hs <;> rw [hs] <;> decide
  refine Keeps.trans (Keeps.trans (timers_keeps (b := none) (w := none) (h := s.ssc.haltTimer) hl) ?_) (timers_keeps hl)
  exact moveState_awake_keeps nofun awake (by decide) (by decide) hl

/-! ## The timers of the system state (R159, R163) -/

theorem execBootTimeout_keeps : KeepsNext l s (execBootTimeout s) :=
  keepsNext_due fun h => moveState_off_keeps (by rintro x ⟨⟩; exact ⟨nofun, rfl⟩) (by rw [h.1]; decide)

theorem execHaltTimerExpiry_keeps : KeepsNext l s (execHaltTimerExpiry s) :=
  keepsNext_due fun h => moveState_off_keeps nofun (by rw [h.1]; decide)

theorem execCriticalGraceExpiry_keeps : KeepsNext l s (execCriticalGraceExpiry s) := by
  refine keepsNext_due fun _ => Keeps.trans ?_ (forceOff_keeps .critical)
  cases l <;> exact id

/-- WAKING falls back to STANDBY with its timer stopped: the lines and the link of STANDBY (R159). -/
theorem wakeTimeout_system (hs : s.ssc.state = .waking) :
    Keeps .system s (driveState .standby { s with ssc := { s.ssc with wakeTimer := none } }) := by
  rintro ⟨law, q⟩
  obtain ⟨⟨-, -, boot, -, halt, mode⟩, ⟨-, -, tied, one⟩, held⟩ := stateLaw_iff.1 law
  rw [hs] at boot halt mode tied
  refine ⟨stateLaw_iff.2 ⟨⟨rfl, rfl, boot, rfl, halt, iff_of_false (fun h => ?_) (by simp [driveState])⟩, ?_, held⟩, q⟩
  · simpa using mode.1 h
  · exact ⟨by simp [driveState], nofun, fun _ => tied (.inr rfl), one⟩

theorem execWakeTimeout_keeps : KeepsNext l s (execWakeTimeout s) := by
  refine keepsNext_due fun h => ?_
  have awake : s.ssc.state ≠ .off := by rw [h.1]; decide
  by_cases hl : l = .system
  · subst hl
    rw [moveState_awake (s := { s with ssc := { s.ssc with wakeTimer := none } }) (new := .standby) _ awake (by decide)
      (by decide)]
    exact (wakeTimeout_system h.1).trans ((route_keeps .wakeTimeout 0 0).trans (route_keeps .stateChange 0 _))
  · refine Keeps.trans (timers_keeps (b := s.ssc.bootTimer) (w := none) (h := s.ssc.haltTimer) hl) ?_
    exact moveState_awake_keeps (by rintro x ⟨⟩; decide) awake (by decide) (by decide) hl

end Sys2Proof.Machine


namespace Sys2Proof.Machine

variable {s t : State} {l : Law}

/-! ## A request in its turn (R184, R185) -/

theorem popRequest_keeps (hl : l.linked = false) : Keeps l s (popRequest s) :=
  setRequests_keeps hl fun h => by rw [List.length_tail]; omega

theorem Answered.state {P : State → Prop} {a : Answer} (h : Answered P s a) (same : P s) : P a.state := by
  cases h with
  | refused c hc => exact same
  | accepted d h => exact h
  | setting b d h => exact h

theorem Answered.untied {P : State → Prop} {a : Answer} (h : Answered P s a) : a.linkDown = false := by
  cases h <;> rfl

/-- An owner whose answers keep every law but those that it writes. -/
def Keeping (writes : Law → Bool) (owner : List Byte → State → Answer) : Prop :=
  ∀ (l : Law) (s : State) (args : List Byte), writes l = false → Answered (Keeps l s) s (owner args s)

/-- An owner whose answers keep every law. -/
def KeepingAll (owner : List Byte → State → Answer) : Prop :=
  ∀ (l : Law) (s : State) (args : List Byte), Answered (Keeps l s) s (owner args s)

theorem KeepingAll.keeping {owner : List Byte → State → Answer} (h : KeepingAll owner) (writes : Law → Bool) :
    Keeping writes owner :=
  fun l s args _ => h l s args

theorem answerWith_keeps {a : Answer} (hl : l.lasting = true) (room : replyRoom s = true)
    (replies : Answered (Keeps (.replies 3) (popRequest s)) (popRequest s) a)
    (answered : Answered (Keeps l (popRequest s)) (popRequest s) a) (tag : Nat) : Keeps l s (answerWith tag a) := by
  have length : a.state.slc.replies.length ≤ 3 :=
    replies.state id (Nat.le_of_lt_succ (replyRoom_length (s := popRequest s) room))
  refine (popRequest_keeps (Law.linked_of_lasting hl)).trans ((answered.state id).trans ?_)
  exact enqueueReply_keeps hl (by omega) fun _ => answered.untied

theorem runRequest_keeps {owner : List Byte → State → Answer} {writes : Law → Bool} (h : Keeping writes owner)
    (hw : writes l = false) (hr : writes (.replies 3) = false) (hl : l.lasting = true) (num : Nat) :
    Keeps l s (runRequest num owner s) := by
  obtain e | ⟨args, tag, ⟨-, room⟩, e⟩ := runRequest_cases num owner s <;> rw [e]
  · exact id
  · exact answerWith_keeps hl room (h _ _ args hr) (h _ _ args hw) tag

theorem unknownCode_refuses {r : Request} {c : ResultCode} (h : unknownCode r = some c) :
    c ≠ .ok ∧ c ≠ .okClamped := by
  obtain ⟨kind, tag, payload⟩ := r
  cases kind with
  | pass => cases payload <;> cases h
  | request =>
    cases payload with
    | nil => cases h; decide
    | cons n rest =>
      simp only [unknownCode] at h
      split at h <;> cases h
      decide

theorem execUnknownRequest_keeps (hl : l.lasting = true) : KeepsNext l s (execUnknownRequest s) := by
  refine keepsNext_next.2 ?_
  unfold answerUnknown
  split
  · exact id
  split
  · next c hc =>
    exact Keeps.ite (fun room => answerWith_keeps hl room (.refused _ (unknownCode_refuses hc))
      (.refused _ (unknownCode_refuses hc)) _) fun _ => id
  · exact id

/-- Between two states other than OFF a move with no event named is its lines and its STATE_CHANGE (R152). -/
theorem moveState_awake_none {new : SysState} (hs : s.ssc.state ≠ .off) (hn : new ≠ .off) (hw : new ≠ .waking) :
    moveState new none s = route .stateChange 0 new.num (driveState new s) := moveState_awake none hs hn hw

/-- The reply of an accepted SLEEP carries the pending link-down (R157): one reply in a state that has left RUN for STANDBY,
or for WAKING where the policy wakes the system at once (log 16). -/
theorem sleep_system {r : Reply} (hr : r.linkDown = true) (room : s.slc.replies.length < 4)
    (hs : s.ssc.state = .run) : Keeps .system s (enqueueReply r (moveState .standby none s)) := by
  rintro ⟨law, q⟩
  obtain ⟨⟨-, -, boot, wake, halt, mode⟩, ⟨-, run, -, one⟩, held⟩ := stateLaw_iff.1 law
  obtain ⟨up, free⟩ := run hs
  rw [hs] at boot wake halt mode
  have awake : s.ssc.state ≠ .off := by rw [hs]; decide
  have lines : LinesAt s.ppc.adapter.present (driveState .standby s) :=
    ⟨rfl, rfl, boot, wake, halt, iff_of_false (fun h => by simpa using mode.1 h) (by simp [driveState])⟩
  have moved : LinesAt s.ppc.adapter.present (moveState .standby none s) ∧
      ((moveState .standby none s).ssc.state = .standby ∨ (moveState .standby none s).ssc.state = .waking) := by
    rw [moveState_awake_none awake (by decide) (by decide), route]
    split
    · refine ⟨sscAct_keeps_lines (s := record _ _ _ _ _) _ (.inr rfl) lines, .inr ?_⟩
      rw [sscAct_ssc_of_standby (s := record _ _ _ _ _) _ rfl]
    · exact ⟨lines, .inl rfl⟩
  have slc : (moveState .standby none s).slc = s.slc := by
    rw [moveState_awake_none awake (by decide) (by decide), route_slc]; rfl
  have queue : QueueLaw (moveState .standby none s) := moveState_keeps (l := .queue) nofun rfl q
  have free' : ∀ r ∈ s.slc.replies, r.linkDown = false := by simpa [NoLinkDown, linkDownPending] using free
  refine ⟨stateLaw_iff.2 ⟨?_, ?_, ?_⟩, ?_⟩
  · have : (enqueueReply r (moveState .standby none s)).ppc = s.ppc := moveState_ppc ..
    rw [this]
    exact moved.1
  · change LinkLaw (moveState .standby none s).ssc.state (enqueueReply r (moveState .standby none s)).slc
    rw [enqueueReply, slc]
    refine ⟨?_, ?_, fun _ => ?_, ?_⟩
    · obtain h | h := moved.2 <;> rw [h] <;> nofun
    · obtain h | h := moved.2 <;> rw [h] <;> nofun
    · simp [linkDownPending, hr, up]
    · rw [List.filter_append, List.length_append, List.filter_eq_nil_iff.2 (by simpa using free')]
      simp [hr]
  · have : (enqueueReply r (moveState .standby none s)).ppt = s.ppt := moveState_ppt ..
    rw [this]
    exact held
  · obtain ⟨evr, requests, -⟩ := queueLaw_iff.1 queue
    refine queueLaw_iff.2 ⟨evr, requests, ?_⟩
    rw [enqueueReply, slc]
    simpa using room

theorem execSleep_keeps (hl : l.lasting = true) : KeepsNext l s (execSleep s) := by
  refine keepsNext_next.2 ?_
  obtain e | ⟨args, tag, ⟨-, room⟩, e⟩ := runRequest_cases 0x02 sleepRequest s <;> rw [e]
  · exact id
  have refused (c : ResultCode) (hc : c ≠ .ok ∧ c ≠ .okClamped) :
      Keeps l s (answerWith tag (refuse c (popRequest s))) :=
    answerWith_keeps hl room (.refused c hc) (.refused c hc) tag
  unfold sleepRequest
  split
  · exact refused _ (by decide)
  split
  · next hs =>
    refine (popRequest_keeps (Law.linked_of_lasting hl)).trans ?_
    have free : (popRequest s).slc.replies.length < 4 := replyRoom_length (s := s) room
    by_cases hl' : l = .system
    · subst hl'
      exact sleep_system rfl free hs
    · have awake : (popRequest s).ssc.state ≠ .off := by rw [hs]; decide
      refine Keeps.trans (moveState_awake_keeps (named := none) nofun awake (by decide) (by decide) hl')
        (enqueueReply_keeps hl ?_ fun h => absurd h hl')
      rw [moveState_awake_none awake (by decide) (by decide), route_slc]
      exact free
  · exact refused _ (by decide)

theorem passChecks_refuses {bs : List Byte} {c : ResultCode} (h : passChecks bs s = .error c) :
    c ≠ .ok ∧ c ≠ .okClamped := by
  simp only [passChecks] at h
  repeat' split at h
  all_goals cases h
  all_goals decide

/-- A PASS that passes its checks addresses a port with a pack that answers, its slot free (R46). -/
theorem passChecks_reaches {bs : List Byte} {p : Pack} (h : passChecks bs s = .ok p) :
    (s.ppt.ports.get p).state ≠ .absent ∧ (s.ppt.ports.get p).slot.state = .idle := by
  simp only [passChecks] at h
  repeat' split at h
  all_goals cases h
  next reach idle =>
  refine ⟨fun c => reach (by rw [c]; rfl), ?_⟩
  simpa using idle

theorem acceptPass_keeps {p : Pack} (hs : (s.ppt.ports.get p).state ≠ .absent) (tag : Nat) (bs : List Byte) :
    Keeps l s (setPort p ((s.ppt.ports.get p).acceptPass tag bs) s) := by
  refine setPort_keeps_same rfl rfl ?_ fun _ hr => by cases hr
  rintro ⟨here, absent, noRecord, record, silence, stale, ok, errors, timer, held, waiting, due, tx⟩
  exact ⟨here, absent, noRecord, record, silence, stale, ok, errors, by simp [Port.acceptPass], by simp [Port.acceptPass],
    fun _ => hs, fun _ => rfl, tx⟩

theorem execPass_keeps (hl : l.lasting = true) : KeepsNext l s (execPass s) := by
  unfold execPass
  split
  · exact keepsNext_next.2 id
  refine keepsNext_due fun h => ?_
  unfold passHead
  dsimp only
  split
  · next c hc => exact answerWith_keeps hl h.2 (.refused c (passChecks_refuses hc)) (.refused c (passChecks_refuses hc)) _
  · next p hp => exact (popRequest_keeps (Law.linked_of_lasting hl)).trans (acceptPass_keeps (passChecks_reaches hp).1 _ _)

end Sys2Proof.Machine


namespace Sys2Proof.Machine

variable {s t : State} {l : Law}

/-! ## Every command keeps every law -/

theorem execTelemetryPeriodExpiry_keeps : KeepsNext l s (execTelemetryPeriodExpiry s) :=
  keepsNext_due fun _ => evr_keeps ⟨rfl, rfl, rfl, rfl, rfl, rfl⟩

/-- The translation table and the debounce counts enter no law. -/
theorem translation_keeps (l : Law) {x : Table KeyEntry 144} {m n : Nat} :
    Keeps l s { s with kms := { s.kms with translation := x, pressCount := m, releaseCount := n } } := by
  cases l <;> exact id

/-- I_HL enters no law but its own. -/
theorem setInputLimit_keeps (hw : l.writtenBy .setInputLimit = false) {n : Nat} :
    Keeps l s { s with ppc := { s.ppc with iHL := n } } := by
  cases l with
  | inputLimit m => cases hw
  | _ => exact id

/-- The efficiency enters no law but its own. -/
theorem setEfficiency_keeps (hw : l.writtenBy .setEfficiency = false) {n : Nat} :
    Keeps l s { s with ppc := { s.ppc with eta := n } } := by
  cases l with
  | efficiency m => cases hw
  | _ => exact id

/-- The pass filter enters no law. -/
theorem filter_keeps (l : Law) {x : Table (Option FilterEntry) 8} :
    Keeps l s { s with ppt := { s.ppt with filter := x } } := by
  cases l <;> exact id

/-- The owner of RESTART_LINK keeps every law but what waits at the link, which it empties. -/
theorem keeping_of_restart : Keeping Law.linked restartRequest := fun _ _ _ hl => restartRequest_answered (restartLink_keeps hl)

theorem keeping_of_requests :
    KeepingAll onlineRequest ∧ KeepingAll powerOffRequest ∧ KeepingAll readTally ∧ KeepingAll clearFaults ∧
      KeepingAll releaseBay ∧ KeepingAll bayCancel :=
  ⟨fun _ _ _ => onlineRequest_answered id goOnline_keeps,
    fun _ _ _ => powerOffRequest_answered goHalting_keeps,
    fun _ _ _ => readTally_answered fun _ => evr_keeps ⟨rfl, rfl, rfl, rfl, rfl, rfl⟩,
    fun _ _ _ => clearFaults_answered clearAll_keeps,
    fun _ _ _ => releaseBay_answered setPending_keeps,
    fun _ _ _ => bayCancel_answered clearPending_keeps⟩

theorem keeping_of_reads :
    KeepingAll readChannels ∧ KeepingAll readPack ∧ KeepingAll readAllocation ∧ KeepingAll readFaults ∧ KeepingAll readKeymap ∧
      KeepingAll readFans ∧ KeepingAll readStatus ∧ KeepingAll readTable :=
  ⟨fun _ _ _ => readChannels_answered id, fun _ _ _ => readPack_answered id, fun _ _ _ => readAllocation_answered id,
    fun _ _ _ => readFaults_answered id, fun _ _ _ => readKeymap_answered id, fun _ _ _ => readFans_answered id,
    fun _ _ _ => readStatus_answered id, fun _ _ _ => readTable_answered id⟩

theorem keeping_of_loads :
    KeepingAll loadProfile ∧ KeepingAll loadAdapter ∧ KeepingAll loadLimit ∧ Keeping (Law.writtenBy .loadSchedule) loadSchedule ∧
      KeepingAll loadFanCurve ∧ KeepingAll loadPolicy ∧ KeepingAll loadKeyrow ∧ KeepingAll loadPassFilter ∧
      Keeping (Law.writtenBy .restoreDefaults) restoreDefaults :=
  ⟨fun _ _ _ => loadProfile_answered fun _ _ => ppc_keeps
      ⟨Ppc.figures_iff.2 ⟨rfl, rfl, Charge.noteProfile_fastLimit .., Charge.noteProfile_fastLimit ..⟩,
        rfl, rfl, rfl, rfl, rfl, rfl⟩,
    fun _ _ _ => loadAdapter_answered fun _ _ => ppc_keeps ⟨rfl, rfl, rfl, rfl, rfl, rfl, rfl⟩,
    fun _ _ _ => loadLimit_answered loadLimitEntry_keeps,
    fun _ _ _ hw => loadSchedule_answered fun _ _ ok fits =>
      loadSlot_keeps ok fits (Law.sampling_of_writtenBy hw fun _ => rfl),
    fun _ _ _ => loadFanCurve_answered (fun _ _ _ => loadCurve_keeps) fun _ _ => loadConfig_keeps _,
    fun _ _ _ => loadPolicy_answered fun _ _ => loadPolicy_keeps,
    fun l _ _ => loadKeyrow_answered fun _ => translation_keeps l,
    fun l _ _ => loadPassFilter_answered fun _ _ => filter_keeps l,
    fun l _ _ hw => restoreDefaults_answered (restoreSchedule_keeps (Law.sampling_of_writtenBy hw fun _ => rfl))
      restoreLimits_keeps
      (ppc_keeps ⟨rfl, rfl, rfl, rfl, rfl, rfl, rfl⟩) (ppc_keeps ⟨rfl, rfl, rfl, rfl, rfl, rfl, rfl⟩) restoreCurves_keeps
      (setPolicy_keeps fun _ => (reset_queue .powerOn false false []).1) (translation_keeps l) (filter_keeps l)⟩

theorem keeping_of_settings :
    Keeping (Law.writtenBy .setInputLimit) setInputLimit ∧ Keeping (Law.writtenBy .setEfficiency) setEfficiency ∧
      KeepingAll setBoost ∧ KeepingAll setChargeInhibit ∧
      KeepingAll setBatteryThresholds ∧ KeepingAll setHostTemps ∧ KeepingAll setFanOverride ∧ KeepingAll setKeyDebounce ∧
      KeepingAll setSwitchDebounce ∧ KeepingAll setTelemetry :=
  ⟨fun _ _ _ hw => setInputLimit_answered fun _ => setInputLimit_keeps hw,
    fun _ _ _ hw => setEfficiency_answered fun _ => setEfficiency_keeps hw,
    fun _ _ _ => setBoost_answered fun _ _ => ppc_keeps (setBoost_drive _ _ _),
    fun _ _ _ => setChargeInhibit_answered fun _ _ => ppc_keeps (inhibitPacks_drive _ _ _),
    fun _ _ _ => setBatteryThresholds_answered fun _ _ => setThresholds_keeps,
    fun _ _ _ => setHostTemps_answered refreshSlots_keeps,
    fun _ _ _ => setFanOverride_answered fun _ _ => fnc_keeps fun _ _ law => law,
    fun l _ _ => setKeyDebounce_answered fun _ _ => translation_keeps l,
    fun _ _ _ => setSwitchDebounce_answered id setTime_keeps,
    fun _ _ _ => setTelemetry_answered fun _ => evr_keeps (withPeriod_queues _ _)⟩

/-- Every command keeps every law that lasts: the laws of section 0.6, the commands waiting, and OFF under a critical
battery. -/
theorem exec_keeps (hl : l.lasting = true) (hd : l = .dark → s.ssc.critical = true) (c : Instr)
    (hw : l.writtenBy c = false) : KeepsNext l s (exec c s) := by
  have request {owner : List Byte → State → Answer} (h : KeepingAll owner) (n : Nat) :
      KeepsNext l s (.next (runRequest n owner s)) :=
    keepsNext_next.2 (runRequest_keeps (h.keeping fun _ => false) rfl rfl hl n)
  have writer {owner : List Byte → State → Answer} (h : Keeping (Law.writtenBy c) owner) (n : Nat) :
      KeepsNext l s (.next (runRequest n owner s)) := keepsNext_next.2 (runRequest_keeps h hw rfl hl n)
  obtain ⟨online, powerOff, tally, clear, release, cancel⟩ := keeping_of_requests
  obtain ⟨channels, pack, allocation, faults, keymap, fans, status, table⟩ := keeping_of_reads
  obtain ⟨profile, adapter, limit, schedule, curve, policy, keyrow, filter, defaults⟩ := keeping_of_loads
  obtain ⟨inputLimit, efficiency, boost, inhibit, thresholds, temps, override, keys, switch, telemetry⟩ :=
    keeping_of_settings
  cases c with
  | reset rail rstin prsA prsB => exact execReset_keeps rail rstin prsA prsB hl hw
  | tickExpiry raw => exact keepsNext_next.2 (tickState_keeps raw)
  | tachEdge f us => exact execTachEdge_keeps us
  | sweepStart => exact execSweepStart_keeps hw
  | conversionComplete ch value => exact execConversionComplete_keeps ch value hw
  | sweepCompletion => exact execSweepCompletion_keeps hd hw
  | presenceActive p => exact execPresenceActive_keeps
  | presenceTimerExpiry p => exact execPresenceTimerExpiry_keeps
  | packRemoval p => exact execPackRemoval_keeps hl
  | silenceTimerExpiry p => exact execSilenceTimerExpiry_keeps
  | staleTimerExpiry p => exact execStaleTimerExpiry_keeps
  | packTelemetryReceived p bytes => exact keepsNext_next.2 (receivePack_keeps hl bytes)
  | packReplyReceived p bytes => exact keepsNext_next.2 (receivePack_keeps hl bytes)
  | packFrameError p e => exact execPackFrameError_keeps hl e
  | packRequestTransmit p => exact execPackRequestTransmit_keeps
  | packRequestTransmitted p => exact execPackRequestTransmitted_keeps
  | passTimerExpiry p => exact execPassTimerExpiry_keeps hl
  | passReplyQueued p => exact execPassReplyQueued_keeps hl
  | chargeTimeout p => exact keepsNext_next.2 fireTimeout_keeps
  | scanPass image => exact execScanPass_keeps image
  | initialTake i => exact execInitialTake_keeps i
  | lidHingeDebounceComplete i => exact execLidHingeDebounceComplete_keeps i hd
  | pwrbtnDebounceComplete => exact execPwrbtnDebounceComplete_keeps hd
  | baylatchDebounceComplete => exact execBaylatchDebounceComplete_keeps
  | powerButtonHold => exact execPowerButtonHold_keeps
  | hold10sExpiry => exact execHold10sExpiry_keeps
  | fanEvaluation => exact execFanEvaluation_keeps
  | kickEnd f => exact execKickEnd_keeps
  | retryKickEnd f => exact execRetryKickEnd_keeps
  | tachSilenceTimeout f => exact execTachSilenceTimeout_keeps
  | hostTempStale slot => exact execHostTempStale_keeps slot
  | overrideExpiry => exact execOverrideExpiry_keeps
  | bootTimeout => exact execBootTimeout_keeps
  | wakeTimeout => exact execWakeTimeout_keeps
  | haltTimerExpiry => exact execHaltTimerExpiry_keeps
  | criticalGraceExpiry => exact execCriticalGraceExpiry_keeps
  | telemetryPeriodExpiry => exact execTelemetryPeriodExpiry_keeps
  | serviceFrameReceived bytes => exact keepsNext_next.2 (receiveService_keeps (Law.linked_of_lasting hl) bytes)
  | serviceFrameError bytes => exact keepsNext_next.2 (receiveService_keeps (Law.linked_of_lasting hl) bytes)
  | serviceGapTimeout => exact execServiceGapTimeout_keeps
  | transmitStart => exact keepsNext_next.2 startTransmit_keeps
  | transmitEnd => exact keepsNext_next.2 (endTransmit_keeps (Law.linked_of_lasting hl))
  | unknownRequest => exact execUnknownRequest_keeps hl
  | sleep => exact execSleep_keeps hl
  | pass => exact execPass_keeps hl
  | online => exact request online _
  | powerOff => exact request powerOff _
  | restartLink => exact keepsNext_next.2 (runRequest_keeps keeping_of_restart (Law.linked_of_lasting hl) rfl hl _)
  | readChannels => exact request channels _
  | readPack => exact request pack _
  | readAllocation => exact request allocation _
  | readFaults => exact request faults _
  | clearFaults => exact request clear _
  | readKeymap => exact request keymap _
  | readTally => exact request tally _
  | readFans => exact request fans _
  | readStatus => exact request status _
  | loadProfile => exact request profile _
  | loadAdapter => exact request adapter _
  | loadLimit => exact request limit _
  | loadSchedule => exact writer schedule _
  | loadFanCurve => exact request curve _
  | loadPolicy => exact request policy _
  | loadKeyrow => exact request keyrow _
  | loadPassFilter => exact request filter _
  | readTable => exact request table _
  | restoreDefaults => exact writer defaults _
  | setInputLimit => exact writer inputLimit _
  | setEfficiency => exact writer efficiency _
  | setBoost => exact request boost _
  | setChargeInhibit => exact request inhibit _
  | setBatteryThresholds => exact request thresholds _
  | setHostTemps => exact request temps _
  | setFanOverride => exact request override _
  | setKeyDebounce => exact request keys _
  | setSwitchDebounce => exact request switch _
  | setTelemetry => exact request telemetry _
  | releaseBay => exact request release _
  | bayCancel => exact request cancel _

/-- Settles O43: OFF under a critical battery is kept by every command. -/
theorem noStartWhileBatteryIsCritical : Obligations.NoStartWhileBatteryIsCritical :=
  fun c _ t q off critical h => (exec_keeps (l := .dark) rfl (fun _ => critical) c rfl t h ⟨off, q.1⟩).1

/-- Settles O56: the five laws that make up protection and battery are kept by every command. -/
theorem protectionAndBatteryLawsAreKept : Obligations.ProtectionAndBatteryLawsAreKept := by
  intro c _ t protection battery h
  obtain ⟨carried, drives, soc, paths, flags⟩ := protection_iff.1 ⟨protection, battery⟩
  have kept (l : Law) (hl : l.lasting = true) (hd : l ≠ .dark) (hw : l.writtenBy c = false) :
      Keeps l _ t := exec_keeps hl (fun c => absurd c hd) c hw t h
  exact protection_iff.2 ⟨kept _ rfl nofun rfl carried, kept _ rfl nofun rfl drives, kept _ rfl nofun rfl soc,
    kept _ rfl nofun rfl paths,
    kept _ rfl nofun rfl flags⟩

/-- Settles O57: the law of the system state, with that of the queues, is kept by every command. -/
theorem stateLawIsKept : Obligations.StateLawIsKept :=
  fun c _ t state queue h => (exec_keeps (l := .system) rfl nofun c rfl t h ⟨state, queue⟩).1

/-- Settles O58: the two laws of the keyboard, with that of the queues, are kept by every command. -/
theorem keyLawsAreKept : Obligations.KeyLawsAreKept :=
  fun c _ t keys records queue h => (exec_keeps (l := .keys) rfl nofun c rfl t h ⟨⟨keys, records⟩, queue⟩).1

/-- Settles O59: the laws of fans and of ports are kept by every command. -/
theorem fanAndPackLawsAreKept : Obligations.FanAndPackLawsAreKept :=
  fun c _ t h => ⟨exec_keeps (l := .fans) rfl nofun c rfl t h, exec_keeps (l := .packs) rfl nofun c rfl t h⟩

/-- Settles O60: the laws of queues and of the sweep are kept by every command. -/
theorem queueAndSweepLawsAreKept : Obligations.QueueAndSweepLawsAreKept :=
  fun c _ t h => ⟨exec_keeps (l := .queue) rfl nofun c rfl t h, exec_keeps (l := .sweep) rfl nofun c rfl t h⟩

end Sys2Proof.Machine


namespace Sys2Proof.Machine

variable {s t : State} {l : Law}

/-! ## Steps, outcomes and resets -/

/-- Settles O1: both clauses are the definition of a step. -/
theorem stepRunsFrontCommand : Obligations.StepRunsFrontCommand :=
  ⟨fun _ _ _ => rfl, fun s h => by simp only [step, h]⟩

/-- A next state is answered: no fault and no refusal. -/
abbrev Runs (r : Result) : Prop := ∃ t, r = .next t

theorem runs_ite {p : Prop} [Decidable p] {r q : Result} (hr : Runs r) (hq : Runs q) : Runs (if p then r else q) := by
  split
  · exact hr
  · exact hq

theorem runs_next (t : State) : Runs (.next t) := ⟨t, rfl⟩

theorem runs_due {p : Prop} [Decidable p] {t u : State} : Runs (if p then .next t else .next u) :=
  runs_ite (runs_next t) (runs_next u)

/-- Every command answers a next state: each arm ends in one on every way through it (log 30). -/
theorem exec_runs (c : Instr) (s : State) : Runs (exec c s) := by
  cases c with
  | sweepStart | tachEdge | presenceTimerExpiry | passTimerExpiry | silenceTimerExpiry | staleTimerExpiry | scanPass
  | initialTake | powerButtonHold | hold10sExpiry | fanEvaluation | kickEnd | hostTempStale | overrideExpiry | bootTimeout
  | wakeTimeout | haltTimerExpiry | criticalGraceExpiry | telemetryPeriodExpiry => exact runs_due
  | presenceActive => exact runs_ite (runs_next _) runs_due
  | packRemoval => exact runs_ite runs_due (runs_next _)
  | retryKickEnd => exact runs_ite runs_due (runs_next _)
  | tachSilenceTimeout => exact runs_ite runs_due (runs_next _)
  | reset rail rstin => simp only [exec, execReset]; split <;> exact runs_next _
  | conversionComplete => simp only [exec, execConversionComplete]; split <;> [exact runs_due; exact runs_next _]
  | sweepCompletion => simp only [exec, execSweepCompletion]; split <;> [exact runs_due; exact runs_next _]
  | passReplyQueued => simp only [exec, execPassReplyQueued]; split <;> [exact runs_due; exact runs_next _]
  | packFrameError p e => cases e <;> exact runs_next _
  | packRequestTransmit => simp only [exec, execPackRequestTransmit]; split <;> [exact runs_due; exact runs_next _]
  | packRequestTransmitted => simp only [exec, execPackRequestTransmitted]; split <;> exact runs_next _
  | lidHingeDebounceComplete => simp only [exec, execLidHingeDebounceComplete]; split <;> exact runs_next _
  | pwrbtnDebounceComplete => simp only [exec, execPwrbtnDebounceComplete]; split <;> exact runs_next _
  | baylatchDebounceComplete => simp only [exec, execBaylatchDebounceComplete]; split <;> exact runs_next _
  | pass => simp only [exec, execPass]; split <;> [exact runs_next _; exact runs_due]
  | serviceGapTimeout =>
    simp only [exec, execServiceGapTimeout]
    refine runs_ite ?_ (runs_next _)
    split <;> exact runs_next _
  | _ => exact runs_next _

/-- Settles O2: every arm ends in a next state, and that no command moves the waiting ones is one of the laws kept. -/
theorem everyCommandRuns : Obligations.EveryCommandRuns := fun c s =>
  (exec_runs c s).imp fun t h => ⟨h, exec_keeps (l := .waiting s.pending) rfl nofun c rfl t h rfl⟩

theorem reset_setpoints (cause : StartCause) (prsA prsB : Bool) (queue : List Instr) :
    SetpointLaw (State.afterReset cause prsA prsB queue) := by
  have zero : SetpointsOk noSetpoints := ⟨.inl rfl, .inl rfl, rfl⟩
  have figures : FiguresOk resetCharge := by decide
  exact ⟨zero, zero, fun _ => ⟨rfl, rfl⟩, fun _ => rfl, ⟨fun _ => rfl, fun _ => rfl⟩, ⟨fun _ => rfl, fun _ => rfl⟩, figures,
    figures⟩

/-- Settles O5: each law holds of the state after a reset. -/
theorem resetMeetsEveryLaw : Obligations.ResetMeetsEveryLaw :=
  ⟨rfl, fun cause prsA prsB queue =>
    ⟨reset_queue .., reset_setpoints .., (reset_protection ..).1, (reset_protection ..).2, reset_state .., reset_keys ..,
      reset_records cause prsA prsB queue, reset_fans .., ⟨resetPort_ok prsA, resetPort_ok prsB⟩, reset_sweep ..⟩⟩

theorem defaultPolicy_get (c : EventCode) : defaultPolicy.get c.idx = defaultPolicyOf c := by cases c <;> rfl

/-- The default policy of a code that is not GAP, as R169 lists it. -/
theorem defaultPolicyOf_listed {c : EventCode} (hc : c ≠ .gap) :
    defaultPolicyOf c =
      ⟨if c ∈ [.chargeTimeout, .throttleOn, .bayRefused, .limitFault, .fanLockout, .batteryCritical, .stateChange,
          .forcedOff] then .urgent else if c = .keyWake then .none else .normal,
        decide (c ∈ [.limitFault, .lid, .powerButton, .keyWake, .batteryCritical]), decide (c = .powerButton)⟩ := by
  cases c
  case gap => exact absurd rfl hc
  all_goals decide

/-- Settles O4: each field of the state after a reset has the value that its chapter's reset rule gives. -/
theorem resetRestoresEveryBlock : Obligations.ResetRestoresEveryBlock := by
  intro rail rstin prsA prsB s
  refine ⟨fun hr hs => by subst hr hs; rfl, fun h => ?_⟩
  obtain ⟨cause, hc⟩ : ∃ cause, startCauseOf rail rstin = some cause := by
    cases rail with
    | none => exact ⟨.resetPin, by rw [h rfl]; rfl⟩
    | some c => cases c <;> exact ⟨_, rfl⟩
  refine ⟨State.afterReset cause prsA prsB s.pending, by simp only [exec, execReset, hc], rfl,
    fun e => ?_, fun e => ?_, fun e => ?_,
    -- chapter 1
    rfl, rfl, rfl, fun f => by cases f <;> rfl, rfl, rfl, rfl, Table.get_replicate _, Table.get_ofFn _,
    -- chapter 2
    rfl, Table.get_replicate _, rfl, rfl, rfl, rfl, rfl, rfl, rfl, ?_,
    -- chapter 3
    fun p => by cases p <;> rfl, rfl, rfl, rfl, rfl,
    -- chapter 4
    fun p => by cases p <;> exact ⟨rfl, rfl⟩, Table.get_replicate _,
    -- chapter 5
    rfl, rfl, rfl, rfl, rfl, rfl, rfl, rfl, rfl, rfl, rfl, rfl,
    -- chapter 6
    fun p => ⟨Table.get_replicate _ p, Table.get_ofFn _ p⟩, rfl, rfl, rfl, rfl, rfl, rfl,
    -- chapter 7
    rfl,
    -- chapter 8
    fun f => ?_, rfl, rfl, rfl, rfl, Table.get_replicate _,
    -- chapter 9
    rfl, rfl, rfl, rfl, rfl, rfl, rfl, rfl, rfl, rfl, rfl, rfl, rfl, rfl,
    -- chapter 10
    rfl, rfl, rfl, rfl, rfl, rfl, rfl, rfl, rfl, rfl, rfl, rfl, Table.get_replicate _, rfl,
    fun c hc => (defaultPolicy_get c).trans (defaultPolicyOf_listed hc),
    -- chapter 11
    rfl⟩
  · subst e; cases hc; rfl
  · subst e; cases hc; rfl
  · subst e; rw [h rfl] at hc; cases hc; rfl
  · change ∀ ch ∈ ([1, 3, 4, 5, 6, 7, 12, 13, 15] : List (Fin 16)), defaultLimits.get ch = _
    decide
  · cases f <;> exact ⟨rfl, rfl, Table.get_replicate _⟩

end Sys2Proof.Machine


namespace Sys2Proof.Machine

variable {s t : State} {c : Instr} {num tag : Nat} {args : List Byte} {owner : List Byte → State → Answer}

/-! ## Requests answered in turn (R184, R185) -/

/-- The commands that are requests run their owner in the request's turn; all owners but those of SLEEP and RESTART_LINK
keep every law that the command does not write. -/
theorem request_owner (h : requestNumber c = some num) :
    (∃ owner, Keeping (Law.writtenBy c) owner ∧ ∀ s, exec c s = .next (runRequest num owner s)) ∨
      (c = .restartLink ∧ num = 0x04) ∨ (c = .sleep ∧ num = 0x02) := by
  obtain ⟨online, powerOff, tally, clear, release, cancel⟩ := keeping_of_requests
  obtain ⟨channels, pack, allocation, faults, keymap, fans, status, table⟩ := keeping_of_reads
  obtain ⟨profile, adapter, limit, schedule, curve, policy, keyrow, filter, defaults⟩ := keeping_of_loads
  obtain ⟨inputLimit, efficiency, boost, inhibit, thresholds, temps, override, keys, switch, telemetry⟩ :=
    keeping_of_settings
  cases c <;> simp only [requestNumber, Option.some.injEq, reduceCtorEq] at h <;> subst h
  case restartLink => exact .inr (.inl ⟨rfl, rfl⟩)
  case sleep => exact .inr (.inr ⟨rfl, rfl⟩)
  case online => exact .inl ⟨_, online.keeping _, fun _ => rfl⟩
  case powerOff => exact .inl ⟨_, powerOff.keeping _, fun _ => rfl⟩
  case readChannels => exact .inl ⟨_, channels.keeping _, fun _ => rfl⟩
  case readPack => exact .inl ⟨_, pack.keeping _, fun _ => rfl⟩
  case readAllocation => exact .inl ⟨_, allocation.keeping _, fun _ => rfl⟩
  case readFaults => exact .inl ⟨_, faults.keeping _, fun _ => rfl⟩
  case clearFaults => exact .inl ⟨_, clear.keeping _, fun _ => rfl⟩
  case readKeymap => exact .inl ⟨_, keymap.keeping _, fun _ => rfl⟩
  case readTally => exact .inl ⟨_, tally.keeping _, fun _ => rfl⟩
  case readFans => exact .inl ⟨_, fans.keeping _, fun _ => rfl⟩
  case readStatus => exact .inl ⟨_, status.keeping _, fun _ => rfl⟩
  case loadProfile => exact .inl ⟨_, profile.keeping _, fun _ => rfl⟩
  case loadAdapter => exact .inl ⟨_, adapter.keeping _, fun _ => rfl⟩
  case loadLimit => exact .inl ⟨_, limit.keeping _, fun _ => rfl⟩
  case loadSchedule => exact .inl ⟨_, schedule, fun _ => rfl⟩
  case loadFanCurve => exact .inl ⟨_, curve.keeping _, fun _ => rfl⟩
  case loadPolicy => exact .inl ⟨_, policy.keeping _, fun _ => rfl⟩
  case loadKeyrow => exact .inl ⟨_, keyrow.keeping _, fun _ => rfl⟩
  case loadPassFilter => exact .inl ⟨_, filter.keeping _, fun _ => rfl⟩
  case readTable => exact .inl ⟨_, table.keeping _, fun _ => rfl⟩
  case restoreDefaults => exact .inl ⟨_, defaults, fun _ => rfl⟩
  case setInputLimit => exact .inl ⟨_, inputLimit, fun _ => rfl⟩
  case setEfficiency => exact .inl ⟨_, efficiency, fun _ => rfl⟩
  case setBoost => exact .inl ⟨_, boost.keeping _, fun _ => rfl⟩
  case setChargeInhibit => exact .inl ⟨_, inhibit.keeping _, fun _ => rfl⟩
  case setBatteryThresholds => exact .inl ⟨_, thresholds.keeping _, fun _ => rfl⟩
  case setHostTemps => exact .inl ⟨_, temps.keeping _, fun _ => rfl⟩
  case setFanOverride => exact .inl ⟨_, override.keeping _, fun _ => rfl⟩
  case setKeyDebounce => exact .inl ⟨_, keys.keeping _, fun _ => rfl⟩
  case setSwitchDebounce => exact .inl ⟨_, switch.keeping _, fun _ => rfl⟩
  case setTelemetry => exact .inl ⟨_, telemetry.keeping _, fun _ => rfl⟩
  case releaseBay => exact .inl ⟨_, release.keeping _, fun _ => rfl⟩
  case bayCancel => exact .inl ⟨_, cancel.keeping _, fun _ => rfl⟩

/-- The reply of an answer, as it is queued. -/
abbrev replyOf (tag : Nat) (a : Answer) : Reply := ⟨tag, a.code, a.data, a.linkDown⟩

/-- An answer refuses, changing nothing and sending no data, or its code is OK or OK_CLAMPED. -/
abbrev RefusesAlone (s : State) (a : Answer) : Prop := a.code ≠ .ok → a.code ≠ .okClamped → a = refuse a.code s

theorem Answered.refusesAlone {P : State → Prop} {a : Answer} (h : Answered P s a) : RefusesAlone s a := by
  cases h with
  | refused c hc => exact fun _ _ => rfl
  | accepted d h => exact fun c => absurd rfl c
  | setting b d h => cases b <;> intro h1 h2 <;> simp [acceptClamped, okIf] at h1 h2

theorem sleepRequest_refusesAlone : RefusesAlone s (sleepRequest args s) := by
  unfold sleepRequest
  split
  · exact fun _ _ => rfl
  split
  · exact fun c => absurd rfl c
  · exact fun _ _ => rfl

/-- SLEEP leaves the request buffer and the replies queued before as they are (R157). -/
theorem sleepRequest_slc : (sleepRequest args s).state.slc = s.slc := by
  unfold sleepRequest
  split
  · rfl
  split
  · next hs =>
    rw [moveState_awake_none (by rw [hs]; decide) (by decide) (by decide), route_slc]
    rfl
  · rfl

theorem answerWith_getLast (tag : Nat) (a : Answer) : (answerWith tag a).slc.replies.getLast? = some (replyOf tag a) := by
  simp [answerWith, enqueueReply]

theorem answerWith_refused {a : Answer} (h : RefusesAlone (popRequest s) a) (h1 : a.code ≠ .ok) (h2 : a.code ≠ .okClamped) :
    answerWith tag a = answered tag a.code [] s := by
  rw [h h1 h2]
  rfl

/-- An answer that leaves the buffer and the replies alone leaves the buffer's rest and one reply more. -/
theorem answerWith_queues {a : Answer} (hq : a.state.slc.requests = (popRequest s).slc.requests)
    (hr : untied a.state.slc.replies = untied s.slc.replies) :
    (answerWith tag a).slc.requests = s.slc.requests.tail ∧
      untied (answerWith tag a).slc.replies = untied (s.slc.replies ++ [replyOf tag a]) := by
  refine ⟨hq, ?_⟩
  unfold untied at hr ⊢
  rw [answerWith, enqueueReply, List.map_append, hr, List.map_append]

/-- Settles O3: a request is answered in its turn by its owner, which either refuses and changes nothing or leaves the
request buffer and the replies before its own alone. -/
theorem requestsAnsweredInTurn : Obligations.RequestsAnsweredInTurn := by
  intro c num s h
  have turn (owner : List Byte → State → Answer) (run : exec c s = .next (runRequest num owner s))
      (refuses : ∀ args, RefusesAlone (popRequest s) (owner args (popRequest s)))
      (queues : c ≠ .restartLink → ∀ args, (owner args (popRequest s)).state.slc.requests = (popRequest s).slc.requests ∧
        untied (owner args (popRequest s)).state.slc.replies = untied s.slc.replies) :
      ((∀ args tag, ¬ RequestAtHead s num args tag) → exec c s = .next s) ∧
        ∀ args tag, RequestAtHead s num args tag →
          ∃ t r, exec c s = .next t ∧ r.tag = tag ∧ t.slc.replies.getLast? = some r ∧
            (r.code ≠ .ok → r.code ≠ .okClamped → t = answered tag r.code [] s) ∧
            (c ≠ .restartLink →
              t.slc.requests = s.slc.requests.tail ∧ untied t.slc.replies = untied (s.slc.replies ++ [r])) := by
    rw [run]
    refine ⟨fun waits => by rw [runRequest_waits waits], fun args tag head => ?_⟩
    rw [runRequest_at_head head]
    refine ⟨_, replyOf tag (owner args (popRequest s)), rfl, rfl, answerWith_getLast .., ?_, fun hc => ?_⟩
    · exact answerWith_refused (refuses args)
    · exact answerWith_queues (queues hc args).1 (queues hc args).2
  obtain ⟨owner, keeps, run⟩ | ⟨rfl, rfl⟩ | ⟨rfl, rfl⟩ := request_owner h
  · refine turn owner (run s) (fun args => (keeps (.waiting []) _ args rfl).refusesAlone) fun _ args => ?_
    exact (keeps (.link (popRequest s).slc.requests (untied s.slc.replies)) _ args rfl).state id ⟨rfl, rfl⟩
  · refine turn restartRequest rfl (fun args => ?_) fun hc => absurd rfl hc
    exact (restartRequest_answered (P := fun _ => True) trivial).refusesAlone
  · refine turn sleepRequest rfl (fun args => sleepRequest_refusesAlone) fun _ args => ?_
    rw [sleepRequest_slc]
    exact ⟨rfl, rfl⟩

end Sys2Proof.Machine

namespace Sys2Proof.Machine

/-! ## Time: tick expiries and tach edges -/

section
variable {s : State}

theorem PerPack.get_map {α β : Type} (f : α → β) (x : PerPack α) (p : Pack) : (x.map f).get p = f (x.get p) := by
  cases p <;> rfl

theorem PerFan.get_map {α β : Type} (f : α → β) (x : PerFan α) (i : Fan) : (x.map f).get i = f (x.get i) := by
  cases i <;> rfl

theorem PerFan.get_set {α : Type} (x : PerFan α) (i j : Fan) (v : α) :
    (x.set i v).get j = if j = i then v else x.get j := by
  cases i <;> cases j <;> rfl

theorem timerTick_counted (t : Timer) : Counted t (timerTick t) := by
  refine ⟨fun h => by rw [h]; rfl, fun n h => by rw [h]; rfl, fun h => by rw [h]; rfl⟩

/-- The accumulator and the tick's length share 32768 thousandths of a period (R1). -/
theorem tickLength_nextAcc {acc : Nat} (h : acc < 1000) :
    nextAcc acc < 1000 ∧ 1000 * tickLength acc + nextAcc acc = acc + 32768 := by
  unfold nextAcc tickLength
  split <;> omega

theorem exec_tickExpiry (raw : SwitchLevels) : exec (.tickExpiry raw) s = .next (tickState raw s) := rfl

theorem runAll_cons {c : Instr} {cs : List Instr} {t : State} (h : exec c s = .next t) :
    runAll (c :: cs) s = runAll cs t := by
  simp only [runAll, h]

/-- A run of ticks shares out 32768 thousandths of a period per tick (R1, R2). -/
theorem runAll_ticks (raws : List SwitchLevels) (h : s.tmb.acc < 1000) :
    ∃ t, runAll (raws.map Instr.tickExpiry) s = some t ∧ t.tmb.acc < 1000 ∧
      1000 * t.tmb.clockPeriods + t.tmb.acc = 1000 * s.tmb.clockPeriods + s.tmb.acc + 32768 * raws.length ∧
      t.tmb.ms = s.tmb.ms + BitVec.ofNat 32 raws.length := by
  induction raws generalizing s with
  | nil => exact ⟨s, rfl, h, by simp, by simp⟩
  | cons raw raws ih =>
    have htick : (tickState raw s).tmb = s.tmb.tick := by simp only [tickState]
    obtain ⟨hacc, hlen⟩ := tickLength_nextAcc h
    obtain ⟨t, run, acc, clock, ms⟩ := ih (s := tickState raw s) (by simpa only [htick, Tmb.tick] using hacc)
    rw [htick] at clock ms
    simp only [Tmb.tick] at clock ms
    refine ⟨t, (runAll_cons (exec_tickExpiry raw)).trans run, acc, ?_, ?_⟩
    · rw [List.length_cons]
      omega
    · rw [ms, List.length_cons, Nat.add_comm, BitVec.ofNat_add, BitVec.add_assoc]
      rfl

end

/-- Settles O7, by induction on the run. -/
theorem tickRunsKeepTheClock : Obligations.TickRunsKeepTheClock := by
  intro raws s h
  obtain ⟨t, run, acc, clock, ms⟩ := runAll_ticks raws h
  refine ⟨t, run, acc, clock, ms, fun k h0 hk => ?_⟩
  omega

/-- Settles O6: `tickState` counts block by block. -/
theorem tickExpiryCountsEveryTimer : Obligations.TickExpiryCountsEveryTimer := by
  intro raw s
  refine ⟨tickState raw s, exec_tickExpiry raw, ?_⟩
  simp only [tickState, Tmb.tick, Fnc.tick, Ssc.tick, PerPack.get_map, PerFan.get_map, Table.get_map, Port.tick,
    FanState.tick, HostSlot.tick, true_and, and_true]
  have counted := timerTick_counted
  refine ⟨fun p => ⟨counted _, counted _, counted _, counted _⟩, fun h => ?_, fun n h => ?_,
    fun f => ⟨counted _, counted _⟩, fun i => counted _, counted _, counted _, counted _, counted _, counted _,
    counted _, counted _⟩ <;> rw [h] <;> rfl

section
variable {s : State}

/-- An event leaves a fan that is not RUNNING as it is. -/
theorem route_fan_of_ne_running (c : EventCode) (n : Nat) (v : Int) {f : Fan}
    (h : (s.fnc.fans.get f).state ≠ .running) : (route c n v s).fnc.fans.get f = s.fnc.fans.get f := by
  obtain ⟨hf, -⟩ | ⟨hf, -⟩ := route_fans c n v s
  · rw [hf]
  · rw [hf, PerFan.get_map, FanState.wakeFull, if_neg h]

/-- A captured edge (R4). -/
theorem exec_tachEdge_running {f : Fan} {us : Nat} (h : (s.tmb.capture.get f).running = true) :
    exec (.tachEdge f us) s = .next (fanEdge f ((s.tmb.capture.get f).interval us)
      { s with tmb := { s.tmb with capture := s.tmb.capture.set f (s.tmb.capture.get f).edge } }) :=
  if_pos h

theorem fanEdge_of_ne_stallRetry {f : Fan} {i : Option Nat} (h : (s.fnc.fans.get f).state ≠ .stallRetry) :
    fanEdge f i s = setFan f ((s.fnc.fans.get f).tachEdge i) s :=
  if_neg h

/-- A fan in STALL_RETRY recovers into RUNNING (R147). -/
theorem fanEdge_of_stallRetry {f : Fan} {i : Option Nat} (h : (s.fnc.fans.get f).state = .stallRetry) :
    fanEdge f i s =
      setFan f { (s.fnc.fans.get f).tachEdge i with state := .running, retries := 0, kickTimer := none }
        (route .fanRecovered (fanNum f) (s.fnc.fans.get f).retries
          (setFan f ((s.fnc.fans.get f).tachEdge i) s)) := by
  have keep := route_fan_of_ne_running .fanRecovered (fanNum f) (s.fnc.fans.get f).retries (f := f)
    (s := setFan f ((s.fnc.fans.get f).tachEdge i) s) (by rw [setFan_get]; simp [FanState.tachEdge, h])
  rw [setFan_get] at keep
  have recovers (m : PartMode) : ((s.fnc.fans.get f).tachEdge i).recovered m =
      { (s.fnc.fans.get f).tachEdge i with state := .running, retries := 0, kickTimer := none } := by
    cases m <;> rfl
  unfold fanEdge
  rw [if_pos (show ((s.fnc.fans.get f).tachEdge i).state = .stallRetry from h)]
  dsimp only
  rw [show ((s.fnc.fans.get f).tachEdge i).retries = (s.fnc.fans.get f).retries from rfl, keep, recovers]

end

/-- Settles O8: an edge in QUIET, at a fan outside STALL_RETRY and at one in it. -/
theorem tachEdgesAreTimedAndHeard : Obligations.TachEdgesAreTimedAndHeard := by
  intro f us s c x heard captured
  have edge : c.edge = ⟨c.running, 0, true⟩ := rfl
  have hears : x.tachEdge (c.interval us) = heard := by
    simp only [heard, FanState.tachEdge, Capture.interval]
    cases c.reference <;> rfl
  refine ⟨fun h => if_neg (by rw [h]; decide), fun h hs => ?_, fun h hs => ?_⟩
  · refine (exec_tachEdge_running h).trans (congrArg Host.Outcome.next ((fanEdge_of_ne_stallRetry (by exact hs)).trans ?_))
    rw [show s.fnc.fans.get f = x from rfl, show s.tmb.capture.get f = c from rfl, hears, edge, h]
    rfl
  · refine (exec_tachEdge_running h).trans (congrArg Host.Outcome.next ((fanEdge_of_stallRetry (by exact hs)).trans ?_))
    rw [show s.fnc.fans.get f = x from rfl, show s.tmb.capture.get f = c from rfl, hears, edge, h]
    rfl

end Sys2Proof.Machine

namespace Sys2Proof.Machine

/-! ## A sweep starts -/

section
variable {s : State}

/-- The repetitions are the powers of two up to 64 (R9). -/
theorem repetition_pow {r : Nat} (h : r ∈ repetitions) : ∃ k, k ≤ 6 ∧ r = 2 ^ k := by
  revert r
  decide

theorem repetition_dvd_64 {r : Nat} (h : r ∈ repetitions) : r ∣ 64 := by
  obtain ⟨k, hk, rfl⟩ := repetition_pow h
  exact Nat.pow_dvd_pow 2 hk

/-- Of two repetitions the smaller divides the larger. -/
theorem repetition_min_dvd {r q : Nat} (hr : r ∈ repetitions) (hq : q ∈ repetitions) : min r q ∣ r ∧ min r q ∣ q := by
  obtain ⟨j, -, rfl⟩ := repetition_pow hr
  obtain ⟨k, -, rfl⟩ := repetition_pow hq
  obtain h | h := le_total j k
  · have hd := Nat.pow_dvd_pow 2 h
    rw [min_eq_left (Nat.le_of_dvd (by positivity) hd)]
    exact ⟨dvd_rfl, hd⟩
  · have hd := Nat.pow_dvd_pow 2 h
    rw [min_eq_right (Nat.le_of_dvd (by positivity) hd)]
    exact ⟨hd, dvd_rfl⟩

theorem SlotEntry.claims_iff {e : SlotEntry} {n : Nat} : e.claims n = true ↔ e.enable = true ∧ n % e.rep = e.off := by
  simp [SlotEntry.claims]

/-- Two entries that claim one sweep conflict (R10). -/
theorem SlotEntry.conflicts_of_claims {x y : SlotEntry} (hx : SlotOk x) (hy : SlotOk y) {n : Nat}
    (cx : n % x.rep = x.off) (cy : n % y.rep = y.off) : x.conflicts y = true := by
  obtain ⟨dx, dy⟩ := repetition_min_dvd hx.1 hy.1
  simp only [SlotEntry.conflicts, decide_eq_true_eq, ← cx, ← cy, Nat.mod_mod_of_dvd _ dx, Nat.mod_mod_of_dvd _ dy]

theorem chosenSlot_claims {t : Table SlotEntry 8} {n : Nat} {i : Fin 8} (h : chosenSlot t n = some i) :
    (t.get i).claims n = true :=
  List.find?_some (p := fun i => (t.get i).claims n) h

theorem chosenSlot_none {t : Table SlotEntry 8} {n : Nat} (h : chosenSlot t n = none) (i : Fin 8) :
    (t.get i).claims n = false := by
  simpa using List.find?_eq_none.1 h i (List.mem_finRange i)

/-- Under the schedule's law no entry but the chosen one claims the sweep (R9, R10). -/
theorem chosenSlot_unique (law : SweepLaw s) {i : Fin 8} (on : (s.sws.schedule.get i).enable = true)
    (slot : s.sws.counter % (s.sws.schedule.get i).rep = (s.sws.schedule.get i).off) :
    chosenSlot s.sws.schedule s.sws.counter = some i := by
  obtain ⟨ok, free, -, -⟩ := law
  cases h : chosenSlot s.sws.schedule s.sws.counter with
  | none =>
    have no := chosenSlot_none h i
    rw [SlotEntry.claims_iff.2 ⟨on, slot⟩] at no
    cases no
  | some j =>
    obtain ⟨onj, slotj⟩ := SlotEntry.claims_iff.1 (chosenSlot_claims h)
    by_cases hij : j = i
    · rw [hij]
    · have no := free j i hij onj on
      rw [SlotEntry.conflicts_of_claims (ok j) (ok i) slotj slot] at no
      cases no

/-- A permitted entry claims every sweep that differs by 64 from one that it claims (R9). -/
theorem slot_repeats {e : SlotEntry} (ok : SlotOk e) (n : Nat) : (n + 64) % e.rep = n % e.rep := by
  obtain ⟨k, hk⟩ := repetition_dvd_64 ok.1
  rw [hk, Nat.add_mul_mod_self_left]

/-- A permitted entry claims exactly one of every `r` consecutive sweeps (R9). -/
theorem slot_once {e : SlotEntry} (ok : SlotOk e) (n : Nat) :
    ∃ k, k < e.rep ∧ (n + k) % e.rep = e.off ∧ ∀ k', k' < e.rep → (n + k') % e.rep = e.off → k' = k := by
  have hoff := ok.2
  have hlt : n % e.rep < e.rep := Nat.mod_lt _ (by omega)
  have shift (k : Nat) (hk : k < e.rep) : (n + k) % e.rep =
      if n % e.rep + k < e.rep then n % e.rep + k else n % e.rep + k - e.rep := by
    rw [← Nat.mod_add_mod]
    split
    · exact Nat.mod_eq_of_lt ‹_›
    · rw [Nat.mod_eq_sub_mod (by omega), Nat.mod_eq_of_lt (by omega)]
  refine ⟨if n % e.rep ≤ e.off then e.off - n % e.rep else e.off + e.rep - n % e.rep, ?_, ?_, fun k' hk' h' => ?_⟩
  · split <;> omega
  · rw [shift _ (by split <;> omega)]
    split <;> split <;> omega
  · rw [shift _ hk'] at h'
    split at h' <;> split <;> omega

end

/-- Settles O9: the chosen slot by `chosenSlot`'s lemmas, the repetition of an entry by `slot_repeats` and `slot_once`. -/
theorem sweepStartTakesItsSlot : Obligations.SweepStartTakesItsSlot := by
  refine ⟨fun s => ⟨fun h => if_neg ?_, fun count idle => ⟨chosenSlot s.sws.schedule s.sws.counter, ?_,
    fun i h => SlotEntry.claims_iff.1 (chosenSlot_claims h), fun h i on slot => ?_,
    fun law i => chosenSlot_unique law⟩⟩, fun e ok n => ⟨by rw [slot_repeats ok], slot_once ok n⟩⟩
  · rintro ⟨count, idle⟩
    exact h.elim (· count) (· idle)
  · refine (if_pos ⟨count, idle⟩).trans ?_
    cases h : s.ssc.mode <;> simp [sweepPeriod]
  · have no := chosenSlot_none h i
    rw [SlotEntry.claims_iff.2 ⟨on, slot⟩] at no
    cases no

end Sys2Proof.Machine

namespace Sys2Proof.Machine

variable {s t u : State} {p : Pack}

/-! ## Tallies (R172) -/

/-- The tally of a code is left alone. -/
def SameTally (c : EventCode) (s t : State) : Prop := t.evr.tally.get c.idx = s.evr.tally.get c.idx

theorem SameTally.refl (c : EventCode) (s : State) : SameTally c s s := rfl

theorem SameTally.trans {c : EventCode} (h : SameTally c s t) (k : SameTally c t u) : SameTally c s u := Eq.trans k h

theorem SameTally.of_evr {c : EventCode} (h : t.evr = s.evr) : SameTally c s t := by rw [SameTally, h]

theorem SameTally.after {c : EventCode} (k : SameTally c t u) (h : t.evr = s.evr) : SameTally c s u := by
  rw [SameTally, ← h]; exact k

theorem Tallied.same {c : EventCode} (h : Tallied c s t) (k : SameTally c t u) : Tallied c s u := Eq.trans k h

theorem SameTally.tallied {c : EventCode} (h : SameTally c s t) (k : Tallied c t u) : Tallied c s u := by
  rw [Tallied, ← h]; exact k

theorem Evr.take_tally_ne (e : Evr) {c d : EventCode} (h : d ≠ c) (n : Nat) (v : Int) (a : Bool) (now : Stamp) :
    (e.take c n v a now).tally.get d.idx = e.tally.get d.idx := by
  rw [Evr.take_tally, Table.get_set_ne _ _ fun hi => h (EventCode.idx_injective hi)]

/-- An event leaves the tallies of the other codes alone, but for the STATE_CHANGE of a start or a wake. -/
theorem route_sameTally {c d : EventCode} (n : Nat) (v : Int) (h : d ≠ c := by decide)
    (hs : d ≠ .stateChange := by decide) : SameTally d s (route c n v s) := by
  obtain he | ⟨new, he⟩ := route_evr c n v s <;> rw [SameTally, he]
  · exact Evr.take_tally_ne _ h _ _ _ _
  · rw [Evr.take_tally_ne _ hs, Evr.take_tally_ne _ h]

/-- An event is tallied once (R172). -/
theorem route_tallied {c : EventCode} (n : Nat) (v : Int) (hs : c ≠ .stateChange := by decide) :
    Tallied c s (route c n v s) := by
  have once (a : Bool) : (s.evr.take c n v a s.tmb.ms).tally.get c.idx = min 255 (s.evr.tally.get c.idx + 1) := by
    rw [Evr.take_tally, Table.get_set_self, sat255_eq_min]
  obtain he | ⟨new, he⟩ := route_evr c n v s <;> rw [Tallied, he]
  · exact once false
  · rw [Evr.take_tally_ne _ hs]
    exact once true

/-- The codes that SSC produces at its own decisions. -/
def EventCode.ofSsc (c : EventCode) : Bool :=
  decide (c ∈ [EventCode.stateChange, .batteryLow, .batteryCritical])

theorem EventCode.ne_of_ofSsc {c : EventCode} (h : c.ofSsc = false) :
    c ≠ .stateChange ∧ c ≠ .batteryLow ∧ c ≠ .batteryCritical := by
  simpa [EventCode.ofSsc] using h

section

variable {c : EventCode} (hc : c.ofSsc = false)
include hc

theorem decideBattery_sameTally : SameTally c s (decideBattery s) := by
  obtain ⟨hs, low, critical⟩ := EventCode.ne_of_ofSsc hc
  have first : SameTally c s (decideLow s) := by
    unfold decideLow
    split
    · split
      · rfl
      · refine SameTally.after (route_sameTally _ _ low hs) rfl
    · rfl
  refine first.trans ?_
  unfold decideBattery decideCritical
  split
  · split
    · rfl
    · exact SameTally.after (u := startGrace _) (route_sameTally _ _ critical hs) rfl
  · split <;> rfl

theorem repath_sameTally : SameTally c s (repath s) :=
  SameTally.trans (t := redecidePaths s) rfl (decideBattery_sameTally hc)

theorem adapterChanged_sameTally : SameTally c s (adapterChanged s) := by
  refine SameTally.trans (SameTally.of_evr ?_) (decideBattery_sameTally hc)
  split
  · exact setMode_evr ..
  · split
    · exact setMode_evr ..
    · rfl

theorem setPhase_sameTally (h : c ≠ .chargePhase) (ph : Phase) : SameTally c s (setPhase p ph s) := by
  unfold setPhase
  split
  · rfl
  · exact SameTally.after (route_sameTally _ _ h (EventCode.ne_of_ofSsc hc).1) rfl

theorem decidePhase_sameTally (h : c ≠ .chargePhase) (lim : Band) (x : Option StepView) :
    SameTally c s (decidePhase p lim x s) := by
  have phase (ph : Phase) : SameTally c s (setPhase p ph s) := setPhase_sameTally hc h ph
  unfold decidePhase
  cases (s.ppt.ports.get p).state <;> dsimp only
  case active | stale =>
    split
    · exact phase _
    · cases x with
      | none => rfl
      | some v => dsimp only; split; exacts [rfl, phase _]
  all_goals exact phase _

theorem phaseStep_sameTally (h : c ≠ .chargePhase) : SameTally c s (phaseStep p s) := by
  have band : (stepBand p s).evr = s.evr := by unfold stepBand; dsimp only; split <;> rfl
  have figures (lim : Band) (prof : Profile) (u : State) : (handFigures p lim prof u).evr = u.evr := by
    unfold handFigures; dsimp only; split <;> rfl
  exact (SameTally.of_evr band).trans ((decidePhase_sameTally hc h _ _).trans (.of_evr (figures _ _ _)))

theorem examineAid_sameTally (h : c ≠ .adapterClass) : SameTally c s (examineAid s) := by
  unfold examineAid
  dsimp only
  split
  · exact SameTally.after (route_sameTally _ _ h (EventCode.ne_of_ofSsc hc).1) rfl
  · rfl

theorem examineVad_sameTally (ha : c ≠ .adapterAttach) (hd : c ≠ .adapterDetach) : SameTally c s (examineVad s) := by
  obtain ⟨n, h⟩ | h | ⟨-, h⟩ | ⟨-, h⟩ := examineVad_cases s <;> rw [h]
  · rfl
  · rfl
  · refine SameTally.trans ?_ (adapterChanged_sameTally hc)
    exact SameTally.after (route_sameTally _ _ ha (EventCode.ne_of_ofSsc hc).1) rfl
  · refine SameTally.trans ?_ (adapterChanged_sameTally hc)
    exact SameTally.after (route_sameTally _ _ hd (EventCode.ne_of_ofSsc hc).1) rfl

theorem throttleStage_sameTally (hon : c ≠ .throttleOn) (hoff : c ≠ .throttleOff) (n : Nat) :
    SameTally c s (throttleStage n s) := by
  obtain ⟨v, e, rfl | ⟨d, x, hd, rfl⟩⟩ := throttleStage_cases n s <;> rw [e]
  · rfl
  · refine SameTally.after (u := redriveLtr _) (route_sameTally _ _ ?_ (EventCode.ne_of_ofSsc hc).1) rfl
    obtain rfl | rfl := hd
    exacts [hon, hoff]

theorem examineBay_sameTally (h : c ≠ .bayRelease) (h' : c ≠ .bayRefused) : SameTally c s (examineBay s) := by
  have hs := (EventCode.ne_of_ofSsc hc).1
  unfold examineBay bayQuiet bayRefuse
  dsimp only
  split
  · rfl
  split
  · split
    · split
      · rfl
      · refine SameTally.trans ?_ (repath_sameTally hc)
        exact SameTally.after (route_sameTally _ _ h hs) rfl
    · rfl
  · split
    · rfl
    · exact SameTally.after (route_sameTally _ _ h' hs) rfl

omit hc in
theorem endOfPass_sameTally : SameTally c s (endOfPass s) := by
  unfold endOfPass
  split <;> rfl

end

/-! ## A sweep completion, stage by stage (R79 to R97) -/

@[simp] theorem decideBattery_ppt : (decideBattery s).ppt = s.ppt := by
  have low (v : State) : (decideLow v).ppt = v.ppt := by unfold decideLow; repeat' split
                                                         all_goals simp
  unfold decideBattery decideCritical
  repeat' split
  all_goals simp [startGrace, low]

@[simp] theorem repath_ppt : (repath s).ppt = s.ppt := by simp [repath]

@[simp] theorem adapterChanged_ppt : (adapterChanged s).ppt = s.ppt := by
  simp only [adapterChanged, decideBattery_ppt]; repeat' split
  all_goals simp

@[simp] theorem examineVad_ppt : (examineVad s).ppt = s.ppt := by
  obtain ⟨n, h⟩ | h | ⟨-, h⟩ | ⟨-, h⟩ := examineVad_cases s <;> rw [h]
  · rfl
  · simp [attachAdapter]
  · simp [detachAdapter]

@[simp] theorem examineAid_ppt : (examineAid s).ppt = s.ppt := by
  unfold examineAid; dsimp only; split <;> simp

@[simp] theorem setPhase_ppt (ph : Phase) : (setPhase p ph s).ppt = s.ppt := by
  unfold setPhase; split <;> simp

@[simp] theorem decidePhase_ppt (lim : Band) (x : Option StepView) : (decidePhase p lim x s).ppt = s.ppt := by
  unfold decidePhase; dsimp only; repeat' split
  all_goals simp

@[simp] theorem stepBand_ppt : (stepBand p s).ppt = s.ppt := by
  unfold stepBand; dsimp only; split <;> simp

@[simp] theorem handFigures_ppt (lim : Band) (prof : Profile) : (handFigures p lim prof s).ppt = s.ppt := by
  unfold handFigures; dsimp only; split <;> simp

@[simp] theorem phaseStep_ppt : (phaseStep p s).ppt = s.ppt := by simp [phaseStep]

/-- What the adapter examination leaves of PPC: it writes the adapter record, the paths, the setpoints and I_LIM. -/
abbrev Ppc.SameButAdapter (c d : Ppc) : Prop :=
  d = { c with adapter := d.adapter, path := d.path, setpoints := d.setpoints, iLim := d.iLim }

theorem redecidePaths_ppc : (redecidePaths s).ppc =
    { s.ppc with path := (redecidePaths s).ppc.path, setpoints := (redecidePaths s).ppc.setpoints } := rfl

theorem examineVad_ppc : s.ppc.SameButAdapter (examineVad s).ppc := by
  obtain ⟨n, h⟩ | h | ⟨-, h⟩ | ⟨-, h⟩ := examineVad_cases s <;> rw [h]
  · rfl
  · rw [Ppc.SameButAdapter, attachAdapter, adapterChanged_ppc, redecidePaths_ppc, route_ppc]; rfl
  · rw [Ppc.SameButAdapter, detachAdapter, adapterChanged_ppc, redecidePaths_ppc, route_ppc]; rfl

theorem examineAid_ppc : (examineAid s).ppc = { s.ppc with adapter := (examineAid s).ppc.adapter } := by
  unfold examineAid; dsimp only; split
  · rw [route_ppc]; rfl
  · rfl

theorem examined_ppc : s.ppc.SameButAdapter (examineAid (examineVad s)).ppc := by
  rw [Ppc.SameButAdapter, examineAid_ppc, examineVad_ppc]

theorem setPhase_ppc (ph : Phase) :
    (setPhase p ph s).ppc = { s.ppc with charge := (setPhase p ph s).ppc.charge } := by
  unfold setPhase
  split
  · rfl
  · rw [route_ppc]; rfl

theorem decidePhase_ppc (lim : Band) (x : Option StepView) :
    (decidePhase p lim x s).ppc = { s.ppc with charge := (decidePhase p lim x s).ppc.charge } := by
  unfold decidePhase
  cases (s.ppt.ports.get p).state <;> dsimp only
  case active | stale =>
    split
    · exact setPhase_ppc _
    · cases x with
      | none => rfl
      | some v => dsimp only; split; exacts [rfl, setPhase_ppc _]
  all_goals exact setPhase_ppc _

/-- A phase step writes nothing of PPC but charge states. -/
theorem phaseStep_ppc : (phaseStep p s).ppc = { s.ppc with charge := (phaseStep p s).ppc.charge } := by
  have band : (stepBand p s).ppc = { s.ppc with charge := (stepBand p s).ppc.charge } := by
    unfold stepBand; dsimp only; split <;> rfl
  have figures (lim : Band) (prof : Profile) (u : State) :
      (handFigures p lim prof u).ppc = { u.ppc with charge := (handFigures p lim prof u).ppc.charge } := by
    unfold handFigures; dsimp only; split <;> rfl
  unfold phaseStep
  dsimp only
  rw [figures, decidePhase_ppc, band]

/-- SWS but for its countdown is left alone by what keeps every law. -/
theorem sws_of_keeps (h : ∀ w, Keeps (.sampled w) s t) : { t.sws with countdown := 0 } = { s.sws with countdown := 0 } :=
  h _ rfl

theorem sws_fields (h : { t.sws with countdown := 0 } = { s.sws with countdown := 0 }) :
    t.sws.latest = s.sws.latest ∧ t.sws.schedule = s.sws.schedule ∧ t.sws.counter = s.sws.counter ∧
      t.sws.sweep = s.sws.sweep := by
  simp only [Sws.mk.injEq] at h
  tauto

end Sys2Proof.Machine

namespace Sys2Proof.Machine

variable {s t : State} {w : Sweep}

/-! ## What a completion reads and delivers (R87 to R97) -/

/-- The state that the pass of a completion works on: adapter and phases done (R79 to R82, R65). -/
def passed (s : State) : State := phaseStep .b (phaseStep .a (examineAid (examineVad s)))

theorem examined_keeps {l : Law} (hd : l = .dark → s.ssc.critical = true) : Keeps l s (examineAid (examineVad s)) :=
  (examineVad_keeps hd).trans examineAid_keeps

theorem passed_keeps {l : Law} (hd : l = .dark → s.ssc.critical = true) (hw : l.stepped = false) :
    Keeps l s (passed s) :=
  (examined_keeps hd).trans ((phaseStep_keeps hw).trans (phaseStep_keeps hw))

theorem examined_latest : (examineAid (examineVad s)).sws.latest = s.sws.latest :=
  (sws_fields (sws_of_keeps fun _ => examined_keeps nofun)).1

theorem passed_latest : (passed s).sws.latest = s.sws.latest :=
  (sws_fields (sws_of_keeps fun _ => passed_keeps nofun rfl)).1

@[simp] theorem passed_ppt : (passed s).ppt = s.ppt := by simp [passed]

@[simp] theorem passed_lmt : (passed s).lmt = s.lmt := by simp [passed]

/-- The phase steps add charge states to what the adapter examination leaves of PPC. -/
theorem passed_ppc :
    (passed s).ppc = { (examineAid (examineVad s)).ppc with charge := (passed s).ppc.charge } := by
  rw [passed, phaseStep_ppc, phaseStep_ppc]

/-- What the pass reads of PPC and the examination leaves alone. -/
theorem passed_ppc_of :
    (passed s).ppc =
      { s.ppc with
        adapter := (passed s).ppc.adapter
        path := (passed s).ppc.path
        setpoints := (passed s).ppc.setpoints
        iLim := (passed s).ppc.iLim
        charge := (passed s).ppc.charge } := by
  rw [passed_ppc, examined_ppc]

/-- Stage 6 writes the throttle state and LTR (R95, R96). -/
theorem throttleStage_ppc (u : Nat) :
    (throttleStage u s).ppc =
      { s.ppc with throttle := throttleNext s.ppc.throttle u, ltr := (throttleStage u s).ppc.ltr } := by
  obtain ⟨v, e, rfl | ⟨c, x, -, rfl⟩⟩ := throttleStage_cases u s <;> rw [e, redriveLtr]
  dsimp only
  rw [route_ppc]

/-- The result of a pass is delivered whole (R97). -/
theorem allocationPass_ppc :
    (allocationPass w s).ppc =
      { s.ppc with
        throttle := throttleNext s.ppc.throttle (uncovered s)
        ltr := (allocationPass w s).ppc.ltr
        alloc := passFigures s w
        setpoints := passSetpoints s
        iLim := inputLimit s } := by
  rw [allocationPass]
  dsimp only
  rw [throttleStage_ppc]
  rfl

/-- The bay examination writes the bay, the paths and the setpoints they zero (R55). -/
theorem examineBay_ppc :
    (examineBay s).ppc =
      { s.ppc with
        bay := (examineBay s).ppc.bay
        path := (examineBay s).ppc.path
        setpoints := (examineBay s).ppc.setpoints } := by
  unfold examineBay bayQuiet bayRefuse
  dsimp only
  split
  · rfl
  split
  · split
    · split
      · rfl
      · rw [repath_ppc, redecidePaths_ppc, route_ppc]
    · rfl
  · split
    · rfl
    · rw [route_ppc]

/-- SWEEP_COMPLETION with every conversion done (R8, R97). -/
theorem exec_completion (h : SweepDone s w) :
    exec .sweepCompletion s =
      .next { completeAtPpc w s with sws := (completeAtPpc w s).sws.completed } := by
  obtain ⟨sweep, done⟩ := h
  simp only [exec, execSweepCompletion, sweep, Sweep.next_eq_none_iff.2 done, if_true]

theorem completed_ppc (h : SweepDone s w) (ht : exec .sweepCompletion s = .next t) :
    t.ppc = (examineBay (allocationPass w (passed s))).ppc := by
  rw [exec_sweepCompletion_done h ht, completeAtPpc, endOfPass_ppc]
  rfl

/-- What a completion leaves standing at PPC, but for what the bay examination may move. -/
theorem completed_figures (h : SweepDone s w) (ht : exec .sweepCompletion s = .next t) :
    t.ppc.alloc = passFigures (passed s) w ∧ t.ppc.iLim = inputLimit (passed s) ∧
      t.ppc.throttle = throttleNext s.ppc.throttle (uncovered (passed s)) ∧
      t.ppc.ltr = (allocationPass w (passed s)).ppc.ltr ∧ t.ppc.charge = (passed s).ppc.charge ∧
      t.ppc.adapter = (examineAid (examineVad s)).ppc.adapter := by
  have throttle : (passed s).ppc.throttle = s.ppc.throttle := by rw [passed_ppc_of]
  have adapter : (passed s).ppc.adapter = (examineAid (examineVad s)).ppc.adapter := by rw [passed_ppc]
  rw [completed_ppc h ht, examineBay_ppc, allocationPass_ppc, throttle]
  exact ⟨rfl, rfl, rfl, rfl, rfl, adapter⟩

/-- SWS after a completion (R8). -/
theorem completed_sws (h : SweepDone s w) (ht : exec .sweepCompletion s = .next t) :
    t.sws.sweep = none ∧ t.sws.counter = (s.sws.counter + 1) % 64 ∧ t.sws.latest = s.sws.latest := by
  rw [exec_completion h] at ht
  cases ht
  obtain ⟨latest, -, counter, -⟩ := sws_fields (sws_of_keeps fun v =>
    completeAtPpc_keeps (l := .sampled v) (s := s) w nofun rfl)
  simp only [Sws.completed, latest, counter, and_self]

theorem allocMode_adapter : allocMode s = .adapter ↔ s.ppc.adapter.state ≠ .absent ∧ Action.inputOpen ∉ s.lmt.actionSet := by
  simp [allocMode, adapterAway, Adapter.present]

theorem effLimit_eq : effLimit s =
    if allocMode s = .batteryOnly then 0
    else if s.ppc.iHL = 0 then s.ppc.adapter.iAL else min s.ppc.adapter.iAL s.ppc.iHL := by
  unfold effLimit
  cases allocMode s <;> rfl

end Sys2Proof.Machine

namespace Sys2Proof.Machine

/-! ## The statements on a completion -/

section
variable {s t : State} {w : Sweep}

theorem effLimit_le : effLimit s ≤ s.ppc.adapter.iAL := by
  rw [effLimit_eq]
  split
  · exact Nat.zero_le _
  · split <;> omega

/-- Within the clamp ranges and an efficiency of at most 1 the headroom is bounded (R88). -/
theorem headroom_bounds (hv : (s.sws.latest.get 0).value ≤ 30000) (hs : (s.sws.latest.get 2).value ≤ 24000)
    (hi : (s.sws.latest.get 3).value ≤ 20000) (he : s.ppc.eta ≤ 64) (ha : s.ppc.adapter.iAL ≤ 16000) :
    -480000 ≤ headroom s ∧ headroom s ≤ 465000 := by
  have eff := effLimit_le (s := s)
  have lim : inputLimit s ≤ 15500 := by unfold inputLimit; omega
  have vad : chNat s 0 ≤ 30000 := by unfold chNat; omega
  have vsys : chNat s 2 ≤ 24000 := by unfold chNat; omega
  have isys : chNat s 3 ≤ 20000 := by unfold chNat; omega
  have pIn : powerIn s ≤ 465000 := by
    have := Nat.mul_le_mul vad lim
    unfold powerIn; omega
  have pUse : powerUse s ≤ 465000 := by
    have := Nat.mul_le_mul pIn he
    unfold powerUse; omega
  have pSys : powerSys s ≤ 480000 := by
    have := Nat.mul_le_mul vsys isys
    unfold powerSys; omega
  unfold headroom
  omega

/-- What the pass reads that the completion found. -/
theorem passed_reads : (passed s).ppc.iHL = s.ppc.iHL ∧ (passed s).ppc.eta = s.ppc.eta ∧
    (∀ ch, chNat (passed s) ch = ((s.sws.latest.get ch).value).toNat) ∧
    (passed s).ppc.adapter = (examineAid (examineVad s)).ppc.adapter := by
  refine ⟨by rw [passed_ppc_of], by rw [passed_ppc_of], fun ch => ?_, by rw [passed_ppc]⟩
  rw [chNat, passed_latest]

end

/-- Settles O16: the figures are those of the state that the pass works on. -/
theorem completionFormsThePowerFigures : Obligations.CompletionFormsThePowerFigures := by
  intro s
  obtain ⟨iHL, eta, samples, examined⟩ := passed_reads (s := s)
  refine ⟨fun early => ?_, fun w done => ?_⟩
  · obtain ⟨t, ht⟩ := exec_runs .sweepCompletion s
    rw [ht, exec_sweepCompletion_early early ht]
  · have ht := exec_completion done
    refine ⟨_, ht, ?_⟩
    obtain ⟨sweep, counter, latest⟩ := completed_sws done ht
    obtain ⟨alloc, iLim, -, -, -, adapter⟩ := completed_figures done ht
    rw [sweep, counter, latest, alloc, iLim, adapter, ← examined]
    simp only [passFigures, ← iHL, ← eta, ← samples]
    refine ⟨trivial, trivial, trivial, trivial, trivial, trivial, ?_, effLimit_eq, rfl, rfl, rfl, rfl, rfl, ?_⟩
    · rw [allocMode_adapter, passed_lmt]
    · rw [← passed_latest]
      exact headroom_bounds

section
variable {s t : State} {w : Sweep}

/-- A completion tallies a code that neither SSC nor the bay nor the phases produce by its pass and its examination of the
adapter alone. -/
theorem passed_sameTally {c : EventCode} (hc : c.ofSsc = false) (ha : c ≠ .adapterAttach) (hd : c ≠ .adapterDetach)
    (hi : c ≠ .adapterClass) (hp : c ≠ .chargePhase) : SameTally c s (passed s) :=
  (examineVad_sameTally hc ha hd).trans ((examineAid_sameTally hc hi).trans
    ((phaseStep_sameTally hc hp).trans (phaseStep_sameTally hc hp)))

/-- After the pass a completion tallies the bay's codes and SSC's alone. -/
theorem completed_sameTally {c : EventCode} (hc : c.ofSsc = false) (h : c ≠ .bayRelease) (h' : c ≠ .bayRefused)
    (done : SweepDone s w) (ht : exec .sweepCompletion s = .next t) :
    SameTally c (allocationPass w (passed s)) t := by
  rw [exec_completion done] at ht
  cases ht
  exact (examineBay_sameTally hc h h').trans endOfPass_sameTally

/-- The pass adds nothing to stage 6 at EVR. -/
theorem allocationPass_evr : (allocationPass w s).evr = (throttleStage (uncovered s) s).evr := rfl

/-- THROTTLE_ON at every entry to ASSERTED, THROTTLE_OFF at the end of RELEASING (R95). -/
theorem throttleStage_tally (n : Nat) :
    let new := throttleNext s.ppc.throttle n
    let on := new.state = .asserted ∧ s.ppc.throttle.state ≠ .asserted
    let off := new.state = .released ∧ s.ppc.throttle.state = .releasing
    (on → Tallied .throttleOn s (throttleStage n s)) ∧ (¬ on → SameTally .throttleOn s (throttleStage n s)) ∧
      (off → Tallied .throttleOff s (throttleStage n s)) ∧ (¬ off → SameTally .throttleOff s (throttleStage n s)) := by
  intro new on off
  let moved : State := { s with ppc := { s.ppc with throttle := new } }
  have isOn (h : on) : throttleStage n s = redriveLtr (route .throttleOn 0 n moved) := congrArg redriveLtr (if_pos h)
  have isOff (h : ¬ on) (k : off) : throttleStage n s = redriveLtr (route .throttleOff 0 0 moved) :=
    congrArg redriveLtr ((if_neg h).trans (if_pos k))
  have isNot (h : ¬ on) (k : ¬ off) : throttleStage n s = redriveLtr moved :=
    congrArg redriveLtr ((if_neg h).trans (if_neg k))
  have apart (h : on) (k : off) : False := by cases h.1.symm.trans k.1
  refine ⟨fun h => ?_, fun h => ?_, fun k => ?_, fun k => ?_⟩
  · rw [isOn h]
    exact route_tallied (s := moved) (c := .throttleOn) 0 n
  · by_cases k : off
    · rw [isOff h k]
      exact route_sameTally (s := moved) (c := .throttleOff) (d := .throttleOn) 0 0
    · rw [isNot h k]; rfl
  · rw [isOff (fun h => apart h k) k]
    exact route_tallied (s := moved) (c := .throttleOff) 0 0
  · by_cases h : on
    · rw [isOn h]
      exact route_sameTally (s := moved) (c := .throttleOn) (d := .throttleOff) 0 n
    · rw [isNot h k]; rfl

/-- LTR after stage 6 follows the new throttle state and the action set (R96). -/
theorem throttleStage_ltr (n : Nat) : (throttleStage n s).ppc.ltr = true ↔
    (throttleNext s.ppc.throttle n).state = .asserted ∨ (throttleNext s.ppc.throttle n).state = .releasing ∨
      Action.throttle ∈ s.lmt.actionSet := by
  obtain ⟨v, e, rfl | ⟨c, x, -, rfl⟩⟩ := throttleStage_cases n s <;> rw [e, redriveLtr_ltr]
  rw [route_ppc, route_lmt]

end

/-- The table of R95: what a pass makes of the throttle state by its deficit. -/
theorem throttleNext_cases (x : Throttle) (u : Nat) :
    (x.state = .released → throttleNext x u = ⟨if 0 < u then .pending else .released, 0⟩) ∧
    (x.state = .pending → throttleNext x u = ⟨if 0 < u then .asserted else .released, 0⟩) ∧
    (x.state = .asserted → throttleNext x u = if 0 < u then ⟨.asserted, 0⟩ else ⟨.releasing, 1⟩) ∧
    (x.state = .releasing → 0 < u → throttleNext x u = ⟨.asserted, 0⟩) ∧
    (x.state = .releasing → ¬ 0 < u → x.count < 7 → throttleNext x u = ⟨.releasing, x.count + 1⟩) ∧
    (x.state = .releasing → ¬ 0 < u → 7 ≤ x.count → throttleNext x u = ⟨.released, 0⟩) := by
  unfold throttleNext
  refine ⟨fun h => ?_, fun h => ?_, fun h => ?_, fun h hu => ?_, fun h hu hc => ?_, fun h hu hc => ?_⟩ <;>
    rw [h] <;> dsimp only
  · split <;> rfl
  · split <;> rfl
  · rw [if_pos hu]
  · rw [if_neg hu, if_neg (by omega)]
  · rw [if_neg hu, if_pos (by omega)]

/-- The entries to ASSERTED, and the releases, of R95's table. -/
theorem throttleNext_events (x : Throttle) (u : Nat) :
    ((throttleNext x u).state = .asserted ∧ x.state ≠ .asserted ↔ 0 < u ∧ (x.state = .pending ∨ x.state = .releasing)) ∧
      ((throttleNext x u).state = .released ∧ x.state = .releasing ↔ ¬ 0 < u ∧ x.state = .releasing ∧ 7 ≤ x.count) := by
  obtain ⟨st, count⟩ := x
  unfold throttleNext
  cases st <;> by_cases hu : 0 < u <;> simp [hu]
  split <;> simp <;> omega

/-- Settles O17: the pass moves the throttle by R95's table; nothing else of a completion produces its events. -/
theorem throttleFollowsTheDeficit : Obligations.ThrottleFollowsTheDeficit := by
  intro s t w done ht deficit x on off
  obtain ⟨alloc, -, throttle, ltr, -, -⟩ := completed_figures done ht
  have u : t.ppc.alloc.u = uncovered (passed s) := by rw [alloc]; rfl
  have old : (passed s).ppc.throttle = s.ppc.throttle := by rw [passed_ppc_of]
  obtain ⟨c1, c2, c3, c4, c5, c6⟩ := throttleNext_cases x (uncovered (passed s))
  obtain ⟨onIff, offIff⟩ := throttleNext_events x (uncovered (passed s))
  obtain ⟨tOn, sOn, tOff, sOff⟩ := throttleStage_tally (s := passed s) (uncovered (passed s))
  simp only [old] at tOn sOn tOff sOff
  have before (c : EventCode) (h : c = .throttleOn ∨ c = .throttleOff) : SameTally c s (passed s) := by
    obtain rfl | rfl := h <;> exact passed_sameTally rfl nofun nofun nofun nofun
  have after (c : EventCode) (h : c = .throttleOn ∨ c = .throttleOff) :
      SameTally c (throttleStage (uncovered (passed s)) (passed s)) t := by
    refine SameTally.after (completed_sameTally ?_ ?_ ?_ done ht) allocationPass_evr
    all_goals obtain rfl | rfl := h <;> decide
  simp only [on, off, deficit, u, throttle]
  refine ⟨c1, c2, c3, c4, c5, c6, fun h => ?_, fun h => ?_, fun h => ?_, fun h => ?_, ?_⟩
  · exact ((before _ (.inl rfl)).tallied (tOn (onIff.2 h))).same (after _ (.inl rfl))
  · exact (before _ (.inl rfl)).trans ((sOn (mt onIff.1 h)).trans (after _ (.inl rfl)))
  · exact ((before _ (.inr rfl)).tallied (tOff (offIff.2 h))).same (after _ (.inr rfl))
  · exact (before _ (.inr rfl)).trans ((sOff (mt offIff.1 h)).trans (after _ (.inr rfl)))
  · have driven := throttleStage_ltr (s := passed s) (uncovered (passed s))
    rw [old, passed_lmt] at driven
    rw [ltr]
    exact driven

end Sys2Proof.Machine

namespace Sys2Proof.Machine

variable {s t : State} {w : Sweep}

/-! ## The adapter at a completion (R79 to R82) -/

theorem Adapter.present_iff {a : Adapter} : a.present = true ↔ a.state ≠ .absent := by simp [Adapter.present]

theorem stampAfter_iff {x y : Stamp} :
    stampAfter x y = true ↔ 1 ≤ (x - y).toNat ∧ (x - y).toNat ≤ 2147483647 := by
  simp [stampAfter]

/-- AID is examined in PENDING_ID, on a sample later than the attach (R82). -/
theorem examineAid_of_not (h : ¬ (s.ppc.adapter.state = .pendingId ∧ (s.sws.latest.get 13).valid = true ∧
    stampAfter (s.sws.latest.get 13).stamp (s.ppc.adapter.attachStamp.getD 0) = true)) : examineAid s = s := by
  refine if_neg fun c => h ?_
  simpa [and_assoc] using c

theorem examineAid_of (h : s.ppc.adapter.state = .pendingId) (hv : (s.sws.latest.get 13).valid = true)
    (ha : stampAfter (s.sws.latest.get 13).stamp (s.ppc.adapter.attachStamp.getD 0) = true) :
    examineAid s =
      route .adapterClass (identify s.ppc.adapterTable s.ppc.adapter (s.sws.latest.get 13).value).cls
        (identify s.ppc.adapterTable s.ppc.adapter (s.sws.latest.get 13).value).iAL
        (setAdapter (identify s.ppc.adapterTable s.ppc.adapter (s.sws.latest.get 13).value) s) :=
  if_pos (by rw [h, hv, ha]; rfl)

section

variable {table : Table (Option AdapterEntry) 8} {a : Adapter} {v : Int}

theorem aidMatches_iff {e : Option AdapterEntry} :
    aidMatches v e = true ↔ ∃ x, e = some x ∧ (x.low : Int) ≤ v ∧ v ≤ (x.high : Int) := by
  cases e <;> simp [aidMatches]

/-- The first matching entry identifies the adapter (R82). -/
theorem identify_first {i : Fin 8} {e : AdapterEntry} (entry : table.get i = some e)
    (here : aidMatches v (table.get i) = true) (first : ∀ j, j < i → aidMatches v (table.get j) = false) :
    identify table a v = { a with state := .identified, iAL := e.rating, cls := i.val, aid := some v } := by
  have found : (List.finRange 8).find? (fun i => aidMatches v (table.get i)) = some i := by
    refine List.find?_eq_some_iff_getElem.2 ⟨here, i.val, by simp, by simp, fun j hj => ?_⟩
    simpa using first ⟨j, hj.trans i.isLt⟩ hj
  unfold identify
  rw [found]
  simp [entry]

theorem identify_none (h : ∀ i, aidMatches v (table.get i) = false) :
    identify table a v = { a with state := .unknown, aid := some v } := by
  have found : (List.finRange 8).find? (fun i => aidMatches v (table.get i)) = none := by simp [h]
  unfold identify
  rw [found]

end

/-! The examination of VAD, case by case (R80, R81) -/

theorem examineVad_absent_below (h : s.ppc.adapter.state = .absent) (hv : (s.sws.latest.get 0).value < 4500) :
    examineVad s = setAdapter { s.ppc.adapter with run := 0 } s := by
  unfold examineVad
  dsimp only
  rw [if_neg (by rw [Adapter.present_iff]; exact not_not.2 h), if_pos hv]

theorem examineVad_absent_counts (h : s.ppc.adapter.state = .absent) (hv : 4500 ≤ (s.sws.latest.get 0).value)
    (hr : s.ppc.adapter.run < 2) : examineVad s = setAdapter { s.ppc.adapter with run := s.ppc.adapter.run + 1 } s := by
  unfold examineVad
  dsimp only
  rw [if_neg (by rw [Adapter.present_iff]; exact not_not.2 h), if_neg (by omega), if_neg (by omega)]

theorem examineVad_attaches (h : s.ppc.adapter.state = .absent) (hv : 4500 ≤ (s.sws.latest.get 0).value)
    (hr : 2 ≤ s.ppc.adapter.run) : examineVad s = attachAdapter s := by
  unfold examineVad
  dsimp only
  rw [if_neg (by rw [Adapter.present_iff]; exact not_not.2 h), if_neg (by omega), if_pos (by omega)]

theorem examineVad_detaches (h : s.ppc.adapter.state ≠ .absent) (hv : (s.sws.latest.get 0).value < 4000) :
    examineVad s = detachAdapter s := by
  unfold examineVad
  dsimp only
  rw [if_pos (Adapter.present_iff.2 h), if_pos hv]

theorem examineVad_stays (h : s.ppc.adapter.state ≠ .absent) (hv : 4000 ≤ (s.sws.latest.get 0).value) :
    examineVad s = s := by
  unfold examineVad
  dsimp only
  rw [if_pos (Adapter.present_iff.2 h), if_neg (by omega)]

theorem attachAdapter_adapter :
    (attachAdapter s).ppc.adapter = attachedAdapter (s.sws.latest.get 0).stamp := by
  rw [attachAdapter, adapterChanged_ppc, redecidePaths_ppc, route_ppc]; rfl

theorem detachAdapter_adapter : (detachAdapter s).ppc.adapter = noAdapter := by
  rw [detachAdapter, adapterChanged_ppc, redecidePaths_ppc, route_ppc]

theorem attachAdapter_tallied : Tallied .adapterAttach s (attachAdapter s) := by
  have routed : Tallied .adapterAttach s
      (route .adapterAttach 0 0 (setAdapter (attachedAdapter (s.sws.latest.get 0).stamp) s)) :=
    route_tallied (s := setAdapter (attachedAdapter (s.sws.latest.get 0).stamp) s) 0 0
  exact routed.same (adapterChanged_sameTally rfl)

theorem detachAdapter_tallied : Tallied .adapterDetach s (detachAdapter s) := by
  let cleared : State := { s with ppc := { s.ppc.zeroBoth with iLim := 0, adapter := noAdapter } }
  have routed : Tallied .adapterDetach s (route .adapterDetach 0 0 cleared) := route_tallied (s := cleared) 0 0
  exact routed.same (adapterChanged_sameTally rfl)

/-- What stands after a completion of a code that the examination of the adapter produced. -/
theorem examined_tally_stands {c : EventCode} (hc : c = .adapterAttach ∨ c = .adapterDetach ∨ c = .adapterClass)
    (done : SweepDone s w) (ht : exec .sweepCompletion s = .next t) :
    SameTally c (examineAid (examineVad s)) t := by
  have ssc : c.ofSsc = false := by obtain rfl | rfl | rfl := hc <;> rfl
  have phases : SameTally c (examineAid (examineVad s)) (passed s) := by
    refine (phaseStep_sameTally ssc ?_).trans (phaseStep_sameTally ssc ?_)
    all_goals obtain rfl | rfl | rfl := hc <;> decide
  have pass : SameTally c (passed s) (allocationPass w (passed s)) := by
    refine SameTally.trans (throttleStage_sameTally ssc ?_ ?_ (uncovered (passed s))) (SameTally.of_evr allocationPass_evr)
    all_goals obtain rfl | rfl | rfl := hc <;> decide
  refine phases.trans (pass.trans (completed_sameTally ssc ?_ ?_ done ht))
  all_goals obtain rfl | rfl | rfl := hc <;> decide

/-- In BATTERY_ONLY mode every setpoint and the input limit are 0 after a completion (R87, R93). -/
theorem completed_batteryOnly (done : SweepDone s w) (ht : exec .sweepCompletion s = .next t)
    (h : allocMode (passed s) = .batteryOnly) :
    t.ppc.setpoints = ⟨noSetpoints, noSetpoints⟩ ∧ t.ppc.iLim = 0 ∧ t.ppc.alloc.mode = .batteryOnly := by
  obtain ⟨alloc, iLim, -⟩ := completed_figures done ht
  have zero : (allocationPass w (passed s)).ppc.setpoints = ⟨noSetpoints, noSetpoints⟩ := by
    rw [allocationPass_ppc]
    simp only [passSetpoints, h, if_true]
  have lowered (p : Pack) : ((allocationPass w (passed s)).ppc.setpoints.get p).Lowered (t.ppc.setpoints.get p) := by
    rw [completed_ppc done ht]
    exact examineBay_lowers.setpoints p
  rw [zero] at lowered
  refine ⟨?_, ?_, ?_⟩
  · have a := (lowered .a).eq_none
    have b := (lowered .b).eq_none
    cases hp : t.ppc.setpoints with
    | mk x y => rw [hp] at a b; rw [show x = noSetpoints from a, show y = noSetpoints from b]
  · rw [iLim, inputLimit, effLimit_eq, if_pos h]
  · rw [alloc]; exact h

end Sys2Proof.Machine

namespace Sys2Proof.Machine

/-- Settles O15: the examination of VAD by its cases, then that of AID; the rest of a completion leaves the record. -/
theorem completionExaminesTheAdapter : Obligations.CompletionExaminesTheAdapter := by
  intro s t w done ht a vad aid attached after contains
  obtain ⟨-, -, -, -, -, adapter⟩ := completed_figures done ht
  have counts (h : a.state = .absent) (n : Nat) :
      (examineAid (setAdapter { a with run := n } s)).ppc.adapter = { a with run := n } := by
    have still := examineAid_of_not (s := setAdapter { a with run := n } s) fun c => by cases h.symm.trans c.1
    rw [still]
    rfl
  have isIn (i : Fin 8) : aidMatches aid.value (s.ppc.adapterTable.get i) = true ↔ contains i := aidMatches_iff
  rw [adapter]
  refine ⟨fun h hv => ?_, fun h hv hr => ?_, fun h hv hr no => ?_, fun h hv => ?_, fun h hv => ?_,
    fun h hv stamp hs => ?_⟩
  · rw [examineVad_absent_below h hv]
    exact counts h 0
  · rw [examineVad_absent_counts h hv hr]
    exact counts h (a.run + 1)
  · have latest : (attachAdapter s).sws.latest = s.sws.latest :=
      (sws_fields (sws_of_keeps fun v => attachAdapter_keeps (l := .sampled v) rfl nofun)).1
    have still : examineAid (attachAdapter s) = attachAdapter s := by
      refine examineAid_of_not fun ⟨_, valid, later⟩ => no ?_
      rw [latest] at valid later
      rw [attachAdapter_adapter] at later
      exact ⟨valid, stampAfter_iff.1 later⟩
    have stands := examined_tally_stands (.inl rfl) done ht
    rw [examineVad_attaches h hv hr, still] at stands ⊢
    exact ⟨attachAdapter_adapter, attachAdapter_tallied.same stands⟩
  · have still : examineAid (detachAdapter s) = detachAdapter s := by
      refine examineAid_of_not fun c => ?_
      rw [detachAdapter_adapter] at c
      cases c.1
    have stands := examined_tally_stands (.inr (.inl rfl)) done ht
    rw [examineVad_detaches h hv, still] at stands adapter ⊢
    have away : allocMode (passed s) = .batteryOnly := by
      have mode := mt (allocMode_adapter (s := passed s)).1
      rw [passed_ppc, examineVad_detaches h hv, still, detachAdapter_adapter] at mode
      have no := mode fun c => c.1 rfl
      cases hm : allocMode (passed s) with
      | batteryOnly => rfl
      | adapter => exact absurd hm no
    obtain ⟨setpoints, iLim, mode⟩ := completed_batteryOnly done ht away
    exact ⟨detachAdapter_adapter, setpoints, iLim, mode, detachAdapter_tallied.same stands⟩
  · have here : a.state ≠ .absent := by obtain h | h := h <;> rw [h] <;> decide
    have known : a.state ≠ .pendingId := by obtain h | h := h <;> rw [h] <;> decide
    rw [examineVad_stays here hv, examineAid_of_not fun c => known c.1]
  · have here : a.state ≠ .absent := by rw [h]; decide
    have since : s.ppc.adapter.attachStamp.getD 0 = stamp := by rw [hs]; rfl
    rw [examineVad_stays here hv]
    refine ⟨fun no => ?_, fun valid later => ?_⟩
    · rw [examineAid_of_not]
      rintro ⟨-, valid, later⟩
      rw [since] at later
      exact no ⟨valid, stampAfter_iff.1 later⟩
    · have identified := examineAid_of h valid (by rw [since]; exact stampAfter_iff.2 later)
      have stands := examined_tally_stands (.inr (.inr rfl)) done ht
      rw [examineVad_stays here hv, identified] at stands
      rw [identified, route_ppc]
      refine ⟨fun i e entry holds first => ?_, fun no => ?_, ?_⟩
      · exact identify_first entry ((isIn i).2 holds) fun j hj => Bool.eq_false_iff.2 (mt (isIn j).1 (first j hj))
      · exact identify_none fun i => Bool.eq_false_iff.2 (mt (isIn i).1 (no i))
      · refine Tallied.same ?_ stands
        exact route_tallied (s := setAdapter (identify s.ppc.adapterTable a aid.value) s) (c := .adapterClass) _ _

end Sys2Proof.Machine

namespace Sys2Proof.Machine

/-! ## Requests answered, byte by byte -/

section
variable {s u : State} {num tag : Nat} {args : List Byte} {owner : List Byte → State → Answer} {c : Instr}
  {code : ResultCode} {data : List Byte}

/-- A request in its turn, answered by what its owner makes of the state it has left (R184). -/
theorem exec_answered (run : exec c s = .next (runRequest num owner s)) (head : RequestAtHead s num args tag)
    (h : owner args (popRequest s) = ⟨popRequest u, code, data, false⟩) :
    exec c s = .next (answered tag code data u) := by
  rw [run, runRequest_at_head head, h]
  rfl

/-- A 2-byte field of a natural number travels high byte first (R183). -/
theorem put2_nat (n : Nat) : put2 (n : Int) = [BitVec.ofNat 8 (n / 256), BitVec.ofNat 8 (n % 256)] := by
  have hi : (BitVec.ofInt 16 (n : Int) >>> 8).setWidth 8 = BitVec.ofNat 8 (n / 256) := by
    apply BitVec.eq_of_toNat_eq
    simp only [BitVec.ofInt_natCast, BitVec.toNat_setWidth, BitVec.toNat_ushiftRight, BitVec.toNat_ofNat,
      Nat.shiftRight_eq_div_pow]
    omega
  have lo : (BitVec.ofInt 16 (n : Int)).setWidth 8 = BitVec.ofNat 8 (n % 256) := by
    apply BitVec.eq_of_toNat_eq
    simp only [BitVec.ofInt_natCast, BitVec.toNat_setWidth, BitVec.toNat_ofNat]
    omega
  rw [put2, hi, lo]

/-- A setting brought into its range (0.3). -/
theorem clampNat_eq (lo hi v : Nat) : clampNat lo hi v =
    (if v < lo then lo else if hi < v then hi else v, decide (v < lo ∨ hi < v)) := by
  unfold clampNat
  split
  · next h => simp [h]
  · next h =>
    split
    · next h' => simp [h']
    · next h' => simp [h, h']

end

/-! ## The input limit and the efficiency (R84, R85) -/

/-- Settles O53: the two requests by their answers, the completion by the figures of its pass, and all other commands by
what they keep. -/
theorem inputLimitAndEfficiencyAreUsed : Obligations.InputLimitAndEfficiencyAreUsed := by
  refine ⟨fun _ _ _ _ => ⟨rfl, rfl⟩, fun s tag args => ⟨fun head len => ?_, fun head len => ?_⟩,
    fun s tag high low head => ?_, fun s tag eta head => ?_, fun s t w done ht => ?_,
    fun c s t ht reset => ⟨fun hc => ?_, fun hc => ?_⟩⟩
  · exact exec_answered (owner := setInputLimit) rfl head (if_pos len)
  · exact exec_answered (owner := setEfficiency) rfl head (if_pos len)
  · intro v n code
    refine exec_answered (owner := setInputLimit) (u := { s with ppc := { s.ppc with iHL := n } }) rfl head ?_
    have field : arg2 [high, low] 0 = v := rfl
    by_cases hv : v = 0
    · have n0 : n = 0 := if_pos hv
      have ok : code = .ok := if_neg (by omega)
      rw [setInputLimit, if_neg (by simp), field, if_pos hv, n0, ok]
      rfl
    · have clamps : clampNat 500 20000 v = (n, decide (v < 500 ∨ 20000 < v)) := by
        rw [clampNat_eq, show n = _ from if_neg hv]
      have said : code = okIf (decide (v < 500 ∨ 20000 < v)) := by
        simp only [code, okIf, decide_eq_true_eq, show 1 ≤ v ∧ v ≤ 499 ∨ 20000 < v ↔ v < 500 ∨ 20000 < v by omega]
      rw [setInputLimit, if_neg (by simp), field, if_neg hv, clamps, said, ← put2_nat]
      rfl
  · intro n code
    refine exec_answered (owner := setEfficiency) (u := { s with ppc := { s.ppc with eta := n } }) rfl head ?_
    have clamps : clampNat 48 64 (arg1 [eta] 0) = (n, decide (eta.toNat < 48 ∨ 64 < eta.toNat)) := clampNat_eq _ _ _
    have said : code = okIf (decide (eta.toNat < 48 ∨ 64 < eta.toNat)) := by
      simp only [code, okIf, decide_eq_true_eq]
    rw [setEfficiency, if_neg (by simp), clamps, said]
    rfl
  · obtain ⟨alloc, iLim, -, -, -, adapter⟩ := completed_figures done ht
    obtain ⟨iHL, eta, -, examined⟩ := passed_reads (s := s)
    rw [alloc, iLim, adapter, ← examined]
    simp only [passFigures, ← iHL, ← eta]
    refine ⟨fun h => ?_, fun h => ?_, rfl, rfl⟩
    · rw [effLimit_eq, if_neg (by rw [h]; decide)]
    · rw [effLimit_eq, if_pos h]
  · refine exec_keeps (l := .inputLimit s.ppc.iHL) rfl nofun c ?_ t ht rfl
    cases c
    case setInputLimit => exact absurd rfl hc
    case reset => exact absurd rfl (reset _ _ _ _)
    all_goals rfl
  · refine exec_keeps (l := .efficiency s.ppc.eta) rfl nofun c ?_ t ht rfl
    cases c
    case setEfficiency => exact absurd rfl hc
    case reset => exact absurd rfl (reset _ _ _ _)
    all_goals rfl

end Sys2Proof.Machine

namespace Sys2Proof.Machine

/-! ## A conversion (R5, R6, R8) -/

section
variable {s t : State} {w : Sweep} {ch : Fin 16}

theorem Sweep.inTurn_of_next (h : w.next = some ch) : InTurn w ch := by
  unfold Sweep.next at h
  split at h
  · next hf => cases h; exact .inl ⟨hf, rfl⟩
  · next hf =>
    split at h
    · cases h
    · next hd =>
      obtain ⟨i, hi, rfl⟩ := Option.map_eq_some_iff.1 h
      exact .inr ⟨by omega, by simpa using hd, i, hi, rfl⟩

/-- A conversion out of turn changes nothing (log 7). -/
theorem exec_conversion_outOfTurn (v : Int) (h : ∀ w, s.sws.sweep = some w → ¬ InTurn w ch) :
    exec (.conversionComplete ch v) s = .next s := by
  change execConversionComplete ch v s = .next s
  unfold execConversionComplete
  split
  · next w hw => exact if_neg fun hn => h w hw (Sweep.inTurn_of_next hn)
  · rfl

theorem judgeSample_disabled {v : Int} (h : (s.lmt.entries.get ch).enable = false) : judgeSample ch v s = s := by
  unfold judgeSample
  simp [h]

/-- The limit monitor leaves SWS alone but for its countdown. -/
theorem judgeSample_sws (ch : Fin 16) (v : Int) :
    (judgeSample ch v s).sws.latest = s.sws.latest ∧ (judgeSample ch v s).sws.schedule = s.sws.schedule ∧
      (judgeSample ch v s).sws.counter = s.sws.counter ∧ (judgeSample ch v s).sws.sweep = s.sws.sweep :=
  sws_fields (sws_of_keeps fun _ => judgeSample_keeps_law ch v)

theorem clamped_cases (ch : Fin 16) (v : Int) :
    ((clampRange ch).1 ≤ v → v ≤ (clampRange ch).2 → clamped ch v = v) ∧
      (v < (clampRange ch).1 → clamped ch v = (clampRange ch).1) ∧
      ((clampRange ch).2 < v → clamped ch v = (clampRange ch).2) := by
  have range := clampRange_le ch
  unfold clamped
  omega

end

/-- Settles O10: a conversion in its turn stores its sample, and the monitor leaves the samples alone. -/
theorem conversionsAreClampedAndKept : Obligations.ConversionsAreClampedAndKept := by
  refine ⟨by decide, fun ch v s => ⟨exec_conversion_outOfTurn v, fun w hw turn => ?_⟩⟩
  have taken := exec_conversion_inTurn v hw turn
  refine ⟨fun off => ?_, _, taken, ?_⟩
  · rw [taken, judgeSample_disabled (s := stored ch v w s) off]
  · obtain ⟨latest, schedule, counter, -⟩ := judgeSample_sws (s := stored ch v w s) ch (clamped ch v)
    obtain ⟨inside, below, above⟩ := clamped_cases ch v
    rw [latest, schedule, counter]
    exact ⟨Table.get_set_self .., inside, below, above, fun c hc => Table.get_set_ne _ _ hc, rfl, rfl⟩

end Sys2Proof.Machine

namespace Sys2Proof.Machine

variable {s t : State} {w : Sweep} {p : Pack}

/-! ## What the bay examination leaves of the pass's setpoints (R53, R55) -/

theorem pathSetpoints_same (m : PathMode) (x : Setpoints) : pathSetpoints m m x = x := if_pos rfl

theorem pathSetpoints_none (old new : PathMode) : pathSetpoints old new noSetpoints = noSetpoints := by
  unfold pathSetpoints
  split
  · rfl
  · cases new <;> rfl

/-- Between two states of the bay other than LATCHED pack A's path stays as it is (R51, R52). -/
theorem pathOf_a_of_bay {x : Bay} (h : s.ppc.bay.state ≠ .latched) (hx : x.state ≠ .latched) :
    pathOf { s with ppc := { s.ppc with bay := x } } .a = pathOf s .a := by
  simp [pathOf, pathForcedOpen, altSupply, canSupply, otherPack, adapterAway, h, hx]

/-- The release of the bay re-decides the paths and leaves the setpoints, pack B's being 0 already (R53, R55). -/
theorem releasedBay_setpoints (releasing : s.ppc.bay.state = .releasing) (hp : Law.holds .paths s)
    (hb : s.ppc.setpoints.b = noSetpoints) (hl : t.lmt = s.lmt) (ht : t.ppt = s.ppt)
    (hc : t.ppc = { s.ppc with bay := { s.ppc.bay with state := .released, quiet := 2 } }) :
    (redecidePaths t).ppc.setpoints = s.ppc.setpoints := by
  have path : pathOf t .a = s.ppc.path.a := by
    rw [hp, ← pathOf_a_of_bay (s := s) (x := { s.ppc.bay with state := .released, quiet := 2 })
      (by rw [releasing]; decide) (show BayState.released ≠ .latched by decide)]
    exact pathOf_congr (s := { s with ppc := _ }) hl ht hc
  simp only [redecidePaths, path, hc, pathSetpoints_same, hb, pathSetpoints_none]
  rw [← hb]

theorem examineBay_setpoints (hp : Law.holds .paths s)
    (hb : s.ppc.bay.state = .releasing → s.ppc.setpoints.b = noSetpoints) :
    (examineBay s).ppc.setpoints = s.ppc.setpoints := by
  unfold examineBay bayQuiet bayRefuse
  dsimp only
  split
  · rfl
  next hs =>
  have releasing : s.ppc.bay.state = .releasing := not_not.1 hs
  split
  · split
    · split
      · rfl
      · rw [repath_ppc]
        exact releasedBay_setpoints releasing hp (hb releasing) (by simp) (by simp) (by simp)
    · rfl
  · split
    · rfl
    · rw [route_ppc]

/-- The setpoints that stand after a completion, where the paths stood as decided (R97). -/
theorem completed_setpoints (law : ProtectionLaw s) (done : SweepDone s w)
    (ht : exec .sweepCompletion s = .next t) : t.ppc.setpoints = passSetpoints (passed s) := by
  have paths : Law.holds .paths (allocationPass w (passed s)) := by
    obtain ⟨-, -, paths, -⟩ := law
    exact allocationPass_keeps w (l := .paths) (passed_keeps (l := .paths) nofun rfl paths)
  rw [completed_ppc done ht, examineBay_setpoints paths, allocationPass_ppc]
  intro releasing
  rw [allocationPass_ppc] at releasing ⊢
  have bay : (passed s).ppc.bay.state = .releasing := releasing
  exact passSetpoints_bay (p := .b) (by simp [bayAllows, bay])

/-- Whatever the paths, the completion leaves the pass's setpoints or lowers them. -/
theorem completed_lowered (done : SweepDone s w) (ht : exec .sweepCompletion s = .next t) (p : Pack) :
    ((passSetpoints (passed s)).get p).Lowered (t.ppc.setpoints.get p) := by
  have lowered := (examineBay_lowers (s := allocationPass w (passed s))).setpoints p
  rw [← completed_ppc done ht, allocationPass_ppc] at lowered
  exact lowered

/-! ## Powers shared and delivered (R90, R92) -/

/-- The pack that takes first, as a pack. -/
theorem share_get (first : Pack) (capA capB total : Nat) (p : Pack) :
    (share (decide (first = .b)) capA capB total).get p =
      let cap : Pack → Nat := fun q => match q with | .a => capA | .b => capB
      if p = first then min (cap p) total else min (cap p) (total - min (cap first) total) := by
  cases first <;> cases p <;> rfl

/-- The two shares fit the total. -/
theorem share_sum_le (bFirst : Bool) (capA capB total : Nat) :
    (share bFirst capA capB total).a + (share bFirst capA capB total).b ≤ total := by
  cases bFirst <;> simp only [share] <;> simp <;> omega

/-- A current rounded down takes at most the power that it was worked out from. -/
theorem chargeCurrent_power (power volt : Nat) : volt * chargeCurrent power volt / 1000 ≤ power := by
  have down := qDown_le (power * 1000 / volt)
  have le : chargeCurrent power volt ≤ power * 1000 / volt := by
    unfold chargeCurrent; split <;> omega
  have := Nat.mul_le_mul_left volt le
  have := Nat.mul_div_le (power * 1000) volt
  omega

theorem le_mul_ceilDiv (a : Nat) {b : Nat} (hb : 0 < b) : a ≤ b * ceilDiv a b := by
  have := Nat.lt_mul_div_succ (a + b - 1) hb
  rw [Nat.mul_add_one] at this
  unfold ceilDiv
  omega

/-- A boost setpoint covers the power that it was worked out from, within the power of its cap. -/
theorem boostCurrent_power {power cap : Nat} (h : power ≤ capPower s p cap) (hc : OnGrid cap) :
    power ≤ packVolt s p * boostCurrent power (packVolt s p) cap / 1000 := by
  obtain rfl | hpos := Nat.eq_zero_or_pos power
  · exact Nat.zero_le _
  have volt : 0 < packVolt s p := by
    refine Nat.pos_of_ne_zero fun hv => ?_
    rw [capPower, hv, Nat.zero_mul] at h
    omega
  have written := boostCurrent_eq h hc
  dsimp only at written
  rw [if_neg (by rw [ceilDiv_eq_zero_iff h]; omega)] at written
  rw [Nat.le_div_iff_mul_le (by decide)]
  have up := le_mul_ceilDiv (power * 1000) volt
  have reach : ceilDiv (power * 1000) (packVolt s p) ≤ boostCurrent power (packVolt s p) cap ∨
      cap ≤ boostCurrent power (packVolt s p) cap := by omega
  obtain enough | capped := reach
  · exact up.trans (Nat.mul_le_mul_left _ enough)
  · have := Nat.mul_le_mul_left (packVolt s p) capped
    unfold capPower at h
    omega

/-! ## Settled: stages 3 to 5 -/

theorem chargeEligible_iff : chargeEligible s p = true ↔
    ((s.ppc.charge.get p).phase = .precharge ∨ (s.ppc.charge.get p).phase = .bulk ∨
      (s.ppc.charge.get p).phase = .taper) ∧
      (s.ppc.path.get p).mode = .full ∧ 5000 ≤ packVolt s p ∧ (p = .b → s.ppc.bay.state = .latched) := by
  have bay : bayAllows s p = true ↔ (p = .b → s.ppc.bay.state = .latched) := by cases p <;> simp [bayAllows]
  unfold chargeEligible
  cases (s.ppc.charge.get p).phase <;> simp [bay, and_assoc]

theorem passFigures_get (s : State) (w : Sweep) (p : Pack) :
    (passFigures s w).packs.get p = ⟨chargeEligible s p, boostEligible s p, chargeCap s p, boostCap s p⟩ := by
  cases p <;> rfl

/-- What the pass reads of samples, ports and bay is what the completion found. -/
theorem passed_pack : packVolt (passed s) p = packVolt s p ∧ packSoc (passed s) p = packSoc s p ∧
    (passed s).ppc.bay = s.ppc.bay :=
  ⟨by rw [packVolt, passed_latest]; rfl, by simp only [packSoc, passed_ppt], by rw [passed_ppc_of]⟩

/-- With a headroom and in ADAPTER mode a pass shares the headroom out (R90). -/
theorem passSetpoints_surplus (hm : allocMode s = .adapter) (hh : 0 ≤ headroom s) (p : Pack) :
    (passSetpoints s).get p = chargeSetpoint s p
      ((share (chargeBFirst s) (capPower s .a (chargeCap s .a)) (capPower s .b (chargeCap s .b))
        (headroom s).toNat).get p) := by
  unfold passSetpoints
  rw [if_neg (by rw [hm]; decide), if_pos hh]
  cases p <;> rfl

theorem chargeSetpoint_power (power : Nat) : packVolt s p * (chargeSetpoint s p power).chargeI / 1000 ≤ power :=
  chargeCurrent_power power _

theorem Setpoints.Lowered.chargeI_le {x y : Setpoints} (h : x.Lowered y) : y.chargeI ≤ x.chargeI := by
  obtain ⟨⟨i, -⟩ | ⟨i, -⟩, -⟩ := h <;> omega

theorem Setpoints.Lowered.boost_le {x y : Setpoints} (h : x.Lowered y) : y.boost ≤ x.boost := by
  obtain ⟨-, b | b⟩ := h <;> omega

/-- The charge powers that a pass writes fit the headroom (R90). -/
theorem passSetpoints_fit (hh : 0 ≤ headroom s) :
    packVolt s .a * (passSetpoints s).a.chargeI / 1000 + packVolt s .b * (passSetpoints s).b.chargeI / 1000 ≤
      (headroom s).toNat := by
  cases hm : allocMode s with
  | batteryOnly => simp [passSetpoints, hm, noSetpoints]
  | adapter =>
    have a := passSetpoints_surplus hm hh .a
    have b := passSetpoints_surplus hm hh .b
    simp only [PerPack.get] at a b
    rw [a, b]
    exact (Nat.add_le_add (chargeSetpoint_power _) (chargeSetpoint_power _)).trans (share_sum_le ..)

theorem uncovered_surplus (hh : 0 ≤ headroom s) : uncovered s = 0 := by
  have zero : (-headroom s).toNat = 0 := by omega
  unfold uncovered
  cases allocMode s <;> simp [zero]

/-- Settles O18: eligibility and caps are the pass's figures, its setpoints are those of the shared headroom, and what
follows the pass in a completion leaves or lowers them. -/
theorem chargeFitsTheHeadroom : Obligations.ChargeFitsTheHeadroom := by
  intro s t w done ht vp soc pc h pass eligible first share' given
  obtain ⟨alloc, -, -, -, charge, -⟩ := completed_figures done ht
  have volt (p : Pack) : packVolt (passed s) p = vp p := by cases p <;> exact passed_pack.1
  have socs (p : Pack) : packSoc (passed s) p = soc p := passed_pack.2.1
  have bay : (passed s).ppc.bay = s.ppc.bay := (passed_pack (p := .a)).2.2
  have figures (p : Pack) := passFigures_get (passed s) w p
  simp only [← alloc] at figures
  have isEligible (p : Pack) : chargeEligible (passed s) p = true ↔ eligible p := by
    rw [chargeEligible_iff, volt, bay, ← charge]
    exact Iff.rfl
  have lowered := completed_lowered done ht
  have bounds := passSetpoints_bounds (passed s)
  have head : headroom (passed s) = t.ppc.alloc.h := by rw [alloc]; rfl
  refine ⟨fun p => ⟨?_, fun e => ?_, fun e => ?_⟩, fun hh => ⟨?_, ?_, ?_, ?_, fun mode => ?_, fun p => ⟨?_, ?_⟩,
    fun law mode p => ?_⟩⟩
  · rw [figures]; exact isEligible p
  · rw [figures, charge]; exact if_pos ((isEligible p).2 e)
  · rw [figures]; exact if_neg (mt (isEligible p).1 e)
  all_goals rw [← head] at hh
  · refine le_trans ?_ (head ▸ passSetpoints_fit hh)
    rw [volt, volt]
    have a := Nat.mul_le_mul_left (vp .a) (lowered .a).chargeI_le
    have b := Nat.mul_le_mul_left (vp .b) (lowered .b).chargeI_le
    simp only [PerPack.get] at a b
    omega
  · exact Nat.le_zero.1 ((lowered .a).boost_le.trans_eq ((bounds .a).surplus hh))
  · exact Nat.le_zero.1 ((lowered .b).boost_le.trans_eq ((bounds .b).surplus hh))
  · rw [alloc]; exact uncovered_surplus hh
  · exact (completed_batteryOnly done ht (by rw [alloc] at mode; exact mode)).1
  · rw [figures]
    exact (lowered p).chargeI_le.trans (bounds p).charge_le
  · rw [figures]; exact chargeCap_le
  · rw [completed_setpoints law done ht]
    have adapter : allocMode (passed s) = .adapter := by rw [alloc] at mode; exact mode
    have cap (q : Pack) : capPower (passed s) q (chargeCap (passed s) q) = pc q := by
      simp only [capPower, volt, pc, figures]
    have turn : chargeBFirst (passed s) = decide (first = .b) := by
      simp only [chargeBFirst, socs, first]
      by_cases c : soc .b < soc .a <;> simp [c]
    have shared : (share (chargeBFirst (passed s)) (capPower (passed s) .a (chargeCap (passed s) .a))
        (capPower (passed s) .b (chargeCap (passed s) .b)) (headroom (passed s)).toNat).get p = share' p := by
      rw [turn, share_get, cap, cap, head]
      cases p <;> cases hf : first <;> simp [share', hf, h]
    rw [passSetpoints_surplus adapter hh, shared, chargeSetpoint, volt, charge]
    exact ⟨rfl, fun on => if_neg on, fun off => if_pos off⟩

end Sys2Proof.Machine

namespace Sys2Proof.Machine

/-! ## Stages 3 and 5 settled -/

section
variable {s t : State} {w : Sweep} {p : Pack}

theorem canGive_iff : canGive s p = true ↔
    (s.ppc.path.get p).mode ≠ .opened ∧ (s.ppt.ports.get p).state = .active := by
  simp [canGive]

theorem boostEligible_iff : boostEligible s p = true ↔
    allocMode s = .adapter ∧ s.ppc.boostOn = true ∧
      ((s.ppc.path.get p).mode ≠ .opened ∧ (s.ppt.ports.get p).state = .active) ∧ s.ppc.boostFloor ≤ packSoc s p ∧
      5000 ≤ packVolt s p ∧ 128 ≤ min ((s.ppc.charge.get p).iDmax / 32 * 32) 8064 ∧
      (p = .b → s.ppc.bay.state = .latched) := by
  have bay : bayAllows s p = true ↔ (p = .b → s.ppc.bay.state = .latched) := by cases p <;> simp [bayAllows]
  simp only [boostEligible, Bool.and_eq_true, decide_eq_true_eq, canGive_iff, bay, qDown, ge_iff_le, and_assoc]

/-- With a deficit and in ADAPTER mode a pass shares the deficit out (R92). -/
theorem passSetpoints_deficit (hm : allocMode s = .adapter) (hh : headroom s < 0) (p : Pack) :
    (passSetpoints s).get p = ⟨0, 0, boostCurrent
      ((share (boostBFirst s) (capPower s .a (boostCap s .a)) (capPower s .b (boostCap s .b))
        (-headroom s).toNat).get p) (packVolt s p) (boostCap s p)⟩ := by
  unfold passSetpoints
  rw [if_neg (by rw [hm]; decide), if_neg (by omega)]
  cases p <;> rfl

theorem uncovered_adapter (hm : allocMode s = .adapter) :
    let ps := share (boostBFirst s) (capPower s .a (boostCap s .a)) (capPower s .b (boostCap s .b)) (-headroom s).toNat
    uncovered s = (-headroom s).toNat - (ps.a + ps.b) := by
  unfold uncovered
  rw [hm]

theorem uncovered_batteryOnly (hm : allocMode s = .batteryOnly) :
    uncovered s = (-headroom s).toNat - (supplyPower s .a + supplyPower s .b) := by
  unfold uncovered
  rw [hm]

end

/-- Settles O19: eligibility and caps are the pass's figures, and its boost setpoints are those of the shared deficit. -/
theorem boostCoversTheDeficit : Obligations.BoostCoversTheDeficit := by
  intro s t w done ht vp soc pb d pass gives cap eligible supply first share'
  obtain ⟨alloc, -, -, -, charge, -⟩ := completed_figures done ht
  have volt (p : Pack) : packVolt (passed s) p = vp p := by cases p <;> exact passed_pack.1
  have socs (p : Pack) : packSoc (passed s) p = soc p := passed_pack.2.1
  have bay : (passed s).ppc.bay = s.ppc.bay := (passed_pack (p := .a)).2.2
  have figures (p : Pack) := passFigures_get (passed s) w p
  simp only [← alloc] at figures
  have mode : t.ppc.alloc.mode = allocMode (passed s) := by rw [alloc]; rfl
  have boostOn : (passed s).ppc.boostOn = s.ppc.boostOn := by rw [passed_ppc_of]
  have floor : (passed s).ppc.boostFloor = s.ppc.boostFloor := by rw [passed_ppc_of]
  have isEligible (p : Pack) : boostEligible (passed s) p = true ↔ eligible p := by
    rw [boostEligible_iff, volt, socs, bay, boostOn, floor, ← charge, ← mode, passed_ppt]
    exact Iff.rfl
  have bounds := passSetpoints_bounds (passed s)
  have head : headroom (passed s) = t.ppc.alloc.h := by rw [alloc]; rfl
  have hd : (-headroom (passed s)).toNat = d := by rw [head]
  refine ⟨fun p => ⟨?_, fun e => ?_, fun e => ?_⟩, fun hh law => ?_⟩
  · rw [figures]; exact isEligible p
  · rw [figures, charge]; exact if_pos ((isEligible p).2 e)
  · rw [figures]; exact if_neg (mt (isEligible p).1 e)
  rw [← head] at hh
  rw [completed_setpoints law done ht]
  refine ⟨fun p => ⟨(bounds p).deficit hh, ?_, ?_, ?_⟩, fun adapter => ?_, fun battery => ?_⟩
  · rw [passSetpoints_chargeV, if_pos ((bounds p).deficit hh)]
  · rw [figures]; exact (bounds p).boost_le
  · rw [figures]
    have grid := boostCap_grid (s := passed s) (p := p)
    unfold OnGrid at grid
    dsimp only
    omega
  · rw [mode] at adapter
    have capped (q : Pack) : capPower (passed s) q (boostCap (passed s) q) = pb q := by
      simp only [capPower, volt, pb, figures]
    have turn : boostBFirst (passed s) = decide (first = .b) := by
      simp only [boostBFirst, socs, first]
      by_cases c : soc .a < soc .b <;> simp [c]
    have shared (p : Pack) : (share (boostBFirst (passed s)) (capPower (passed s) .a (boostCap (passed s) .a))
        (capPower (passed s) .b (boostCap (passed s) .b)) (-headroom (passed s)).toNat).get p = share' p := by
      rw [turn, share_get, capped, capped, hd]
      cases p <;> cases hf : first <;> simp [share', hf]
    have within (p : Pack) : share' p ≤ capPower (passed s) p (boostCap (passed s) p) := by
      rw [← shared]
      exact share_le _ _ (fun q => capPower (passed s) q (boostCap (passed s) q)) p
    have boost (p : Pack) : ((passSetpoints (passed s)).get p).boost =
        boostCurrent (share' p) (packVolt (passed s) p) (boostCap (passed s) p) := by
      rw [passSetpoints_deficit adapter hh, shared]
    have covers (p : Pack) : share' p ≤ vp p * ((passSetpoints (passed s)).get p).boost / 1000 := by
      rw [boost, ← volt]
      exact boostCurrent_power (within p) boostCap_grid
    have written (p : Pack) (hp : 0 < share' p) : ((passSetpoints (passed s)).get p).boost =
        max 128 (min (t.ppc.alloc.packs.get p).b (((share' p * 1000 + vp p - 1) / vp p + 31) / 32 * 32)) := by
      have eq := boostCurrent_eq (within p) (boostCap_grid (s := passed s) (p := p))
      dsimp only at eq
      rw [if_neg (by rw [ceilDiv_eq_zero_iff (within p)]; omega)] at eq
      rw [boost, eq, figures, ceilDiv, volt]
    have u := uncovered_adapter adapter
    have sa := shared .a
    have sb := shared .b
    simp only [PerPack.get] at sa sb
    dsimp only at u
    rw [sa, sb, hd] at u
    have left : t.ppc.alloc.u = d - (share' .a + share' .b) := by rw [alloc]; exact u
    refine ⟨left, fun p hp => ?_, written, fun p hp => ⟨?_, covers p⟩, ?_⟩
    · have eq := boostCurrent_eq (within p) (boostCap_grid (s := passed s) (p := p))
      dsimp only at eq
      rw [boost, eq, if_pos ((ceilDiv_eq_zero_iff (within p)).2 hp)]
    · rw [written p hp]; exact Nat.le_max_left _ _
    · have a := covers .a
      have b := covers .b
      simp only [PerPack.get] at a b
      omega
  · rw [mode] at battery
    have supplies (p : Pack) : supplyPower (passed s) p = supply p := by
      simp only [supplyPower, canGive_iff, volt, supply, charge, cap, qDown, passed_ppt]
      rfl
    have u : t.ppc.alloc.u = d - (supply .a + supply .b) := by
      rw [← supplies, ← supplies, ← hd, ← uncovered_batteryOnly battery, alloc]
      rfl
    refine ⟨?_, u, by omega, fun none => ?_⟩
    · unfold passSetpoints
      rw [if_pos battery]
      rfl
    · have zero (p : Pack) : supply p = 0 := if_neg fun c => none p c.2
      rw [u, zero, zero]
      rfl

end Sys2Proof.Machine

namespace Sys2Proof.Machine

variable {s t : State} {p : Pack}

/-! ## A phase step, piece by piece (R62 to R77) -/

/-- The charge state after the band's step (R60, R63). -/
theorem stepBand_charge_of_record {r : PackRecord} (h : (s.ppt.ports.get p).record = some r) :
    (stepBand p s).ppc.charge.get p =
      { s.ppc.charge.get p with
        band := nextBand (s.ppc.charge.get p) (profileAt s.ppc.profiles r.profile) r.profile (governingTemp s p)
        lastProfile := some r.profile
        profileFresh := false
        fastLimit := (profileAt s.ppc.profiles r.profile).fastLimit } := by
  unfold stepBand
  simp only [h, setCharge_charge]

theorem stepBand_charge_of_none (h : (s.ppt.ports.get p).record = none) :
    (stepBand p s).ppc.charge.get p =
      { s.ppc.charge.get p with band := none, lastProfile := none, profileFresh := false } := by
  unfold stepBand
  simp only [h, setCharge_charge]

/-- The band's step writes the charge state alone. -/
theorem stepBand_eq : stepBand p s = setCharge p ((stepBand p s).ppc.charge.get p) s := by
  unfold stepBand
  dsimp only
  split <;> rw [setCharge_charge]

/-- The figures handed on (R75 to R77) leave the rest of the charge state. -/
theorem handFigures_charge (lim : Band) (prof : Profile) :
    (handFigures p lim prof s).ppc.charge.get p =
      { s.ppc.charge.get p with
        cap := ((handFigures p lim prof s).ppc.charge.get p).cap
        vChg := ((handFigures p lim prof s).ppc.charge.get p).vChg
        iDmax := ((handFigures p lim prof s).ppc.charge.get p).iDmax
        supplyCap := ((handFigures p lim prof s).ppc.charge.get p).supplyCap } := by
  unfold handFigures
  dsimp only
  split <;> simp only [setCharge_charge]

theorem handFigures_of_none (lim : Band) (prof : Profile) (h : (s.ppt.ports.get p).record = none) :
    (handFigures p lim prof s).ppc.charge.get p =
      { s.ppc.charge.get p with cap := 0, vChg := 0, iDmax := 0, supplyCap := 0 } := by
  unfold handFigures
  simp only [h, setCharge_charge]

theorem handFigures_of_record {r : PackRecord} (lim : Band) (prof : Profile) (h : (s.ppt.ports.get p).record = some r) :
    (handFigures p lim prof s).ppc.charge.get p =
      { s.ppc.charge.get p with
        cap := capOf (s.ppc.charge.get p).phase prof lim r (chargeVoltage r (s.ppc.charge.get p).band lim)
        vChg := chargeVoltage r (s.ppc.charge.get p).band lim
        iDmax := if r.soc < s.ppc.boostFloor then 0 else supplyCapOf s p (s.ppc.charge.get p).band lim r
        supplyCap := supplyCapOf s p (s.ppc.charge.get p).band lim r } := by
  unfold handFigures
  simp only [h, setCharge_charge]

theorem handFigures_evr (lim : Band) (prof : Profile) : (handFigures p lim prof s).evr = s.evr := by
  unfold handFigures
  dsimp only
  split <;> rfl

/-! The phase (R65) -/

theorem setPhase_of_eq {ph : Phase} (h : (s.ppc.charge.get p).phase = ph) : setPhase p ph s = s := if_pos h

theorem setPhase_of_ne {ph : Phase} (h : (s.ppc.charge.get p).phase ≠ ph) :
    setPhase p ph s = route .chargePhase (packNum p) ph.num (setCharge p ((s.ppc.charge.get p).enter ph) s) := if_neg h

/-- What a decision on the phase leaves of a charge state: all but the phase, the counts, the done memory and the timers. -/
structure SameBand (c d : Charge) : Prop where
  band : d.band = c.band
  lastProfile : d.lastProfile = c.lastProfile
  fastLimit : d.fastLimit = c.fastLimit

theorem enter_sameBand (c : Charge) (ph : Phase) : SameBand c (c.enter ph) := by
  cases ph <;> exact ⟨rfl, rfl, rfl⟩

theorem stepCounts_sameBand (c : Charge) (x : StepView) : SameBand c (stepCounts c x) := by
  unfold stepCounts
  split <;> exact ⟨rfl, rfl, rfl⟩

theorem setPhase_charge (ph : Phase) : (setPhase p ph s).ppc.charge.get p =
    if (s.ppc.charge.get p).phase = ph then s.ppc.charge.get p else (s.ppc.charge.get p).enter ph := by
  split
  · next h => rw [setPhase_of_eq h]
  · next h => rw [setPhase_of_ne h, route_ppc, setCharge_charge]

theorem enter_phase (c : Charge) (ph : Phase) : (c.enter ph).phase = ph := by cases ph <;> rfl

theorem setPhase_phase (ph : Phase) : ((setPhase p ph s).ppc.charge.get p).phase = ph := by
  rw [setPhase_charge]
  split
  · assumption
  · exact enter_phase _ _

/-- The port reports no pack (R65). -/
abbrev NoPack (x : Port) : Prop := x.state = .absent ∨ x.state = .identifying ∨ x.state = .unresponsive

variable {lim : Band} {x : Option StepView} {v : StepView}

theorem decidePhase_of_noPack (h : NoPack (s.ppt.ports.get p)) : decidePhase p lim x s = setPhase p .none s := by
  unfold decidePhase
  obtain h | h | h := h <;> rw [h]

theorem decidePhase_of_inhibited (h : ¬ NoPack (s.ppt.ports.get p))
    (hi : inhibited s p (s.ppc.charge.get p).band lim = true) : decidePhase p lim x s = setPhase p .hold s := by
  unfold decidePhase
  cases hs : (s.ppt.ports.get p).state <;> simp_all [NoPack]

theorem decidePhase_of_view (h : ¬ NoPack (s.ppt.ports.get p))
    (hi : inhibited s p (s.ppc.charge.get p).band lim = false) :
    decidePhase p lim (some v) s =
      if stepPhase (s.ppc.charge.get p) v = (s.ppc.charge.get p).phase
      then setCharge p (stepCounts (s.ppc.charge.get p) v) s
      else setPhase p (stepPhase (s.ppc.charge.get p) v) s := by
  unfold decidePhase
  cases hs : (s.ppt.ports.get p).state <;> simp_all [NoPack]

/-- A decision is a phase set, or the counts of the phase kept, or nothing. -/
theorem decidePhase_cases (p : Pack) (lim : Band) (x : Option StepView) (s : State) :
    (∃ ph, decidePhase p lim x s = setPhase p ph s) ∨
      (∃ v, decidePhase p lim x s = setCharge p (stepCounts (s.ppc.charge.get p) v) s) ∨ decidePhase p lim x s = s := by
  by_cases h : NoPack (s.ppt.ports.get p)
  · exact .inl ⟨_, decidePhase_of_noPack h⟩
  cases hi : inhibited s p (s.ppc.charge.get p).band lim with
  | true => exact .inl ⟨_, decidePhase_of_inhibited h hi⟩
  | false =>
    cases x with
    | none =>
      right; right
      unfold decidePhase
      cases hs : (s.ppt.ports.get p).state <;> simp_all [NoPack]
    | some v =>
      rw [decidePhase_of_view h hi]
      split
      · exact .inr (.inl ⟨v, rfl⟩)
      · exact .inl ⟨_, rfl⟩

theorem decidePhase_sameBand : SameBand (s.ppc.charge.get p) ((decidePhase p lim x s).ppc.charge.get p) := by
  obtain ⟨ph, e⟩ | ⟨v, e⟩ | e := decidePhase_cases p lim x s <;> rw [e]
  · rw [setPhase_charge]
    split
    · exact ⟨rfl, rfl, rfl⟩
    · exact enter_sameBand _ _
  · rw [setCharge_charge]
    exact stepCounts_sameBand _ _
  · exact ⟨rfl, rfl, rfl⟩

theorem stepCounts_phase (c : Charge) (v : StepView) : (stepCounts c v).phase = c.phase := by
  unfold stepCounts
  cases h : c.phase <;> simp [h]

/-- What goes with a change of phase at the charge state (R65, R71). -/
abbrev Entered (d : Charge) : Prop :=
  d.taperCount = 0 ∧ d.doneCount = 0 ∧ (d.phase = .done → d.doneMemory = true ∧ d.preTimer = 0 ∧ d.fastTimer = 0) ∧
    (d.phase = .precharge ∨ d.phase = .bulk ∨ d.phase = .taper → d.doneMemory = false)

theorem enter_entered (c : Charge) (ph : Phase) : Entered (c.enter ph) := by
  cases ph <;> simp [Entered, Charge.enter]

/-- CHARGE_PHASE is produced exactly when the phase changes (R65). -/
theorem decidePhase_changes :
    let c := s.ppc.charge.get p
    let d := (decidePhase p lim x s).ppc.charge.get p
    (d.phase = c.phase → (decidePhase p lim x s).evr = s.evr) ∧
      (d.phase ≠ c.phase → Tallied .chargePhase s (decidePhase p lim x s) ∧ Entered d) := by
  obtain ⟨ph, e⟩ | ⟨v, e⟩ | e := decidePhase_cases p lim x s <;> rw [e]
  · dsimp only
    rw [setPhase_phase]
    refine ⟨fun h => by rw [setPhase_of_eq h.symm], fun h => ?_⟩
    have h' : (s.ppc.charge.get p).phase ≠ ph := fun c => h c.symm
    rw [setPhase_charge, if_neg h', setPhase_of_ne h']
    exact ⟨route_tallied (s := setCharge p ((s.ppc.charge.get p).enter ph) s) (c := .chargePhase) _ _, enter_entered _ _⟩
  · dsimp only
    rw [setCharge_charge, stepCounts_phase]
    exact ⟨fun _ => rfl, fun h => absurd rfl h⟩
  · exact ⟨fun _ => rfl, fun h => absurd rfl h⟩

end Sys2Proof.Machine

namespace Sys2Proof.Machine

/-! ## A phase step as a whole -/

section
variable {s t : State} {p : Pack}

/-- The band limits that a phase step works with (R64). -/
def stepLimits (p : Pack) (s : State) : Band :=
  bandLimits (packProfile s p) ((stepBand p s).ppc.charge.get p).band (anyLockout s)

/-- What the phase rules of a step read (R66 to R69); with an empty record nothing. -/
def stepView (p : Pack) (s : State) : Option StepView :=
  (s.ppt.ports.get p).record.map fun r =>
    { record := r
      prof := packProfile s p
      vChg := chargeVoltage r ((stepBand p s).ppc.charge.get p).band (stepLimits p s)
      volt := packVolt s p
      current := (s.sws.latest.get (currentOf p)).value
      setpoint := (s.ppc.setpoints.get p).chargeI }

/-- A step up to its decision on the phase. -/
def decided (p : Pack) (s : State) : State := decidePhase p (stepLimits p s) (stepView p s) (stepBand p s)

theorem phaseStep_eq : phaseStep p s = handFigures p (stepLimits p s) (packProfile s p) (decided p s) := rfl

theorem stepBand_ppc : (stepBand p s).ppc = { s.ppc with charge := (stepBand p s).ppc.charge } := by
  unfold stepBand; dsimp only; split <;> rfl

theorem decided_ppc : (decided p s).ppc = { s.ppc with charge := (decided p s).ppc.charge } := by
  rw [decided, decidePhase_ppc, stepBand_ppc]

@[simp] theorem decided_ppt : (decided p s).ppt = s.ppt := by simp [decided]

theorem stepBand_keepsPhase : ((stepBand p s).ppc.charge.get p).phase = (s.ppc.charge.get p).phase := by
  cases h : (s.ppt.ports.get p).record with
  | none => rw [stepBand_charge_of_none h]
  | some r => rw [stepBand_charge_of_record h]

/-- The band and the limit in force after a step are those of its band step. -/
theorem phaseStep_sameBand : SameBand ((stepBand p s).ppc.charge.get p) ((phaseStep p s).ppc.charge.get p) := by
  obtain ⟨band, last, limit⟩ := decidePhase_sameBand (p := p) (lim := stepLimits p s) (x := stepView p s) (s := stepBand p s)
  rw [phaseStep_eq, handFigures_charge]
  exact ⟨band, last, limit⟩

theorem phaseStep_phase : ((phaseStep p s).ppc.charge.get p).phase = ((decided p s).ppc.charge.get p).phase := by
  rw [phaseStep_eq, handFigures_charge]

theorem decided_band : ((decided p s).ppc.charge.get p).band = ((phaseStep p s).ppc.charge.get p).band := by
  rw [phaseStep_eq, handFigures_charge]

/-- The cap of a phase once V_CHG is high enough (R75). -/
def phaseCap (prof : Profile) (lim : Band) (r : PackRecord) : Phase → Nat
  | .precharge => prof.preCurrent
  | .bulk | .taper => min lim.chargeLimit r.reqCurrent
  | .none | .hold | .done => 0

theorem capOf_of_high {ph : Phase} {prof : Profile} {lim : Band} {r : PackRecord} {v : Nat} (h : 5000 ≤ v) :
    capOf ph prof lim r v = phaseCap prof lim r ph := by
  unfold capOf
  rw [if_neg (by omega)]
  cases ph <;> rfl

theorem packProfile_of_record {r : PackRecord} (h : (s.ppt.ports.get p).record = some r) :
    packProfile s p = profileAt s.ppc.profiles r.profile := by
  unfold packProfile
  rw [h]

theorem anyLockout_iff : anyLockout s = true ↔
    s.fnc.fans.one.state = .stallLockout ∨ s.fnc.fans.two.state = .stallLockout := by
  simp [anyLockout]

/-- The limits of a known band (R64). -/
theorem stepLimits_of_band {r : PackRecord} {i : Nat} (h : (s.ppt.ports.get p).record = some r)
    (hb : ((phaseStep p s).ppc.charge.get p).band = some i) :
    stepLimits p s =
      let b := (profileAt s.ppc.profiles r.profile).bands.getD i ⟨0, 0, 0⟩
      if s.fnc.fans.one.state = .stallLockout ∨ s.fnc.fans.two.state = .stallLockout
      then { b with chargeLimit := b.chargeLimit / 2 } else b := by
  rw [phaseStep_sameBand.band] at hb
  unfold stepLimits bandLimits
  rw [hb, packProfile_of_record h]
  simp only [anyLockout_iff]

end

/-- Settles O22: no command but a completion or a reset writes the limit in force (`exec_keeps`); the figures are those of
`handFigures`. -/
theorem phaseStepHandsItsFigures : Obligations.PhaseStepHandsItsFigures := by
  refine ⟨fun c s t p ht hc hr => ?_, fun p s => ?_⟩
  · have kept : Law.holds (.fastLimits s.ppc.charge.a.fastLimit s.ppc.charge.b.fastLimit) t := by
      refine exec_keeps (l := .fastLimits _ _) rfl nofun c ?_ t ht ⟨rfl, rfl⟩
      cases c
      case sweepCompletion => exact absurd rfl hc
      case reset => exact absurd rfl (hr _ _ _ _)
      all_goals rfl
    cases p
    exacts [kept.1, kept.2]
  intro d lockout
  refine ⟨fun empty => ?_, fun r record => ?_⟩
  · have handed := handFigures_of_none (p := p) (s := decided p s) (stepLimits p s) (packProfile s p) (by simpa using empty)
    rw [← phaseStep_eq] at handed
    simp only [d]
    rw [handed]
    exact ⟨rfl, rfl, rfl, rfl⟩
  · intro prof
    have handed := handFigures_of_record (p := p) (s := decided p s) (stepLimits p s) (packProfile s p) (by simpa using record)
    rw [← phaseStep_eq, decided_band, ← phaseStep_phase, packProfile_of_record record] at handed
    have floor : (decided p s).ppc.boostFloor = s.ppc.boostFloor := by rw [decided_ppc]
    have path : (decided p s).ppc.path = s.ppc.path := by rw [decided_ppc]
    have voltage : d.vChg = chargeVoltage r d.band (stepLimits p s) := congrArg Charge.vChg handed
    have cap : d.cap = capOf d.phase prof (stepLimits p s) r d.vChg :=
      (congrArg Charge.cap handed).trans (by rw [voltage])
    have supply : d.supplyCap = supplyCapOf (decided p s) p d.band (stepLimits p s) r := congrArg Charge.supplyCap handed
    have discharge : d.iDmax = if r.soc < s.ppc.boostFloor then 0 else d.supplyCap := by
      rw [supply, ← floor]
      exact congrArg Charge.iDmax handed
    refine ⟨?_, fun band => ?_, fun i band => ?_⟩
    · exact phaseStep_sameBand.fastLimit.trans (by rw [stepBand_charge_of_record record])
    · have zero : d.vChg = 0 := by rw [voltage, band]; rfl
      have none : d.supplyCap = 0 := by rw [supply, band]; simp [supplyCapOf]
      refine ⟨by rw [cap, zero]; rfl, zero, ?_, none⟩
      rw [discharge, none, ite_self]
    · intro b limit
      have limits := stepLimits_of_band record band
      have charge : (stepLimits p s).chargeLimit = limit := by
        rw [limits]; simp only [limit, b]; split <;> rfl
      have cell : (stepLimits p s).cellVoltage = b.cellVoltage := by
        rw [limits]; simp only [b]; split <;> rfl
      have dis : (stepLimits p s).dischargeLimit = b.dischargeLimit := by
        rw [limits]; simp only [b]; split <;> rfl
      refine ⟨?_, fun low => ?_, fun high => ⟨fun ph => ?_, fun ph => ?_, fun ph => ?_⟩, ?_, discharge⟩
      · rw [voltage, band, chargeVoltage, cell]
      · rw [cap]; exact if_pos low
      · rw [cap, capOf_of_high high, ph, phaseCap]
      · rw [cap, capOf_of_high high, ← charge]
        obtain ph | ph := ph <;> rw [ph, phaseCap]
      · rw [cap, capOf_of_high high]
        obtain ph | ph | ph := ph <;> rw [ph, phaseCap]
      · rw [supply, supplyCapOf, path, decided_ppt, band, dis]
        simp only [reduceCtorEq, or_false]

end Sys2Proof.Machine

namespace Sys2Proof.Machine

/-! ## The temperature band (R59, R62, R63) -/

section
variable {s : State} {p : Pack} {bounds : List Int} {temp : Int} {hyst i : Nat}

theorem rawBand_eq (bounds : List Int) (temp : Int) : rawBand bounds temp = bounds.countP fun b => decide (b ≤ temp) :=
  List.countP_eq_length_filter.symm

/-- The stretch that `takeWhile` takes, and what ends it. -/
theorem takeWhile_getElem {α : Type} (q : α → Bool) (xs : List α) :
    (∀ k, k < (xs.takeWhile q).length → ∀ x, xs[k]? = some x → q x = true) ∧
      ∀ x, xs[(xs.takeWhile q).length]? = some x → q x = false := by
  induction xs with
  | nil => simp
  | cons y ys ih =>
    obtain ⟨taken, ends⟩ := ih
    cases hy : q y with
    | false => simp [List.takeWhile, hy]
    | true =>
      rw [List.takeWhile_cons_of_pos hy]
      refine ⟨fun k hk x hx => ?_, fun x hx => ends x (by simpa using hx)⟩
      cases k with
      | zero => simp only [List.getElem?_cons_zero, Option.some.injEq] at hx; rwa [← hx]
      | succ k => exact taken k (by simpa using hk) x (by simpa using hx)

/-- A rise crosses every upper boundary up to the temperature (R63). -/
theorem riseBand_spec : i ≤ riseBand bounds temp i ∧
    (∀ k, i ≤ k → k < riseBand bounds temp i → ∀ x, bounds[k]? = some x → x ≤ temp) ∧
      ∀ x, bounds[riseBand bounds temp i]? = some x → temp < x := by
  obtain ⟨taken, ends⟩ := takeWhile_getElem (fun b => decide (temp ≥ b)) (bounds.drop i)
  unfold riseBand
  refine ⟨Nat.le_add_right _ _, fun k hi hk x hx => ?_, fun x hx => ?_⟩
  · have := taken (k - i) (by omega) x (by rw [List.getElem?_drop, Nat.add_sub_cancel' hi]; exact hx)
    simpa using this
  · have := ends x (by rw [List.getElem?_drop]; exact hx)
    simpa using this

/-- A band rises exactly when the temperature has reached its upper boundary (R63). -/
theorem riseBand_eq_iff : riseBand bounds temp i = i ↔ ∀ b, bounds[i]? = some b → temp < b := by
  obtain ⟨-, taken, ends⟩ := riseBand_spec (bounds := bounds) (temp := temp) (i := i)
  constructor
  · intro h b hb
    exact ends b (by rw [h]; exact hb)
  · intro h
    unfold riseBand
    cases hd : bounds.drop i with
    | nil => rfl
    | cons y ys =>
      have hy : bounds[i]? = some y := by
        have := List.getElem?_drop (xs := bounds) (i := i) (j := 0)
        rw [hd] at this
        simpa using this.symm
      have := h y hy
      rw [List.takeWhile_cons_of_neg (by simpa using this)]
      rfl

/-- A fall crosses every lower boundary that the temperature is below by more than the hysteresis (R63). -/
theorem fallBand_spec : fallBand bounds temp hyst i ≤ i ∧
    (i ≤ bounds.length → ∀ k, fallBand bounds temp hyst i ≤ k → k < i → ∀ x, bounds[k]? = some x → temp < x - hyst) ∧
      (0 < fallBand bounds temp hyst i → ∀ x, bounds[fallBand bounds temp hyst i - 1]? = some x → x - hyst ≤ temp) := by
  induction i with
  | zero => exact ⟨Nat.le_refl _, fun _ k _ hk => absurd hk (Nat.not_lt_zero k), fun h => absurd h (Nat.lt_irrefl _)⟩
  | succ i ih =>
    obtain ⟨le, crossed, stays⟩ := ih
    unfold fallBand
    split
    · next h =>
      refine ⟨by omega, fun hi k hk hki x hx => ?_, stays⟩
      obtain hlt | rfl := Nat.lt_succ_iff_lt_or_eq.1 hki
      · exact crossed (by omega) k hk hlt x hx
      · rw [List.getD_eq_getElem?_getD, hx] at h
        exact h
    · next h =>
      refine ⟨Nat.le_refl _, fun _ k hk hki => by omega, fun _ x hx => ?_⟩
      rw [Nat.add_sub_cancel] at hx
      rw [List.getD_eq_getElem?_getD, hx] at h
      exact not_lt.1 h

/-- A thermistor gives a temperature when its sample is valid and not clamped (R6). -/
theorem usableTemp_of (h : (s.sws.latest.get (thermistorOf p)).valid = true ∧
    (s.sws.latest.get (thermistorOf p)).clamped = false) :
    usableTemp s (thermistorOf p) = some (s.sws.latest.get (thermistorOf p)).value := by
  simp [usableTemp, h]

theorem usableTemp_of_not (h : ¬ ((s.sws.latest.get (thermistorOf p)).valid = true ∧
    (s.sws.latest.get (thermistorOf p)).clamped = false)) : usableTemp s (thermistorOf p) = none := by
  unfold usableTemp
  rw [if_neg]
  simpa using h

theorem governingTemp_of_record {r : PackRecord} (h : (s.ppt.ports.get p).record = some r) :
    governingTemp s p = higher (if (s.ppt.ports.get p).state = .active then some r.temp else none)
      (usableTemp s (thermistorOf p)) := by
  unfold governingTemp
  rw [h]

end

/-- Settles O20: the band step is `nextBand` on the governing temperature, a rise or a fall. -/
theorem bandFollowsTheTemperature : Obligations.BandFollowsTheTemperature := by
  intro p s t c band sensed usable
  have same : band = ((stepBand p s).ppc.charge.get p).band := phaseStep_sameBand.band
  have thermistor : sensed = s.sws.latest.get (thermistorOf p) := by cases p <;> rfl
  refine ⟨fun empty => ?_, fun r record => ?_⟩
  · rw [same, stepBand_charge_of_none empty]
  intro prof active
  have next : band = nextBand c prof r.profile (governingTemp s p) := by
    rw [same, stepBand_charge_of_record record]
  rw [governingTemp_of_record record] at next
  refine ⟨fun hu ha => ?_, fun temp both own sample some' => ?_⟩
  · rw [next, if_neg ha, usableTemp_of_not (by rw [← thermistor]; exact hu)]
    rfl
  have governs : higher (if (s.ppt.ports.get p).state = .active then some r.temp else none)
      (usableTemp s (thermistorOf p)) = some temp := by
    by_cases ha : active <;> by_cases hu : usable
    · rw [if_pos ha, usableTemp_of (by rw [← thermistor]; exact hu), both ha hu, ← thermistor]
      rfl
    · rw [if_pos ha, usableTemp_of_not (by rw [← thermistor]; exact hu), own ha hu]
      rfl
    · rw [if_neg ha, usableTemp_of (by rw [← thermistor]; exact hu), sample ha hu, ← thermistor]
      rfl
    · exact absurd some' (by tauto)
  rw [governs] at next
  refine ⟨fun fresh => ?_, fun i known old kept => ?_⟩
  · rw [next, ← rawBand_eq]
    unfold nextBand
    cases hb : c.band with
    | none => rfl
    | some i =>
      exact if_pos (fresh.resolve_left (by rw [hb]; nofun))
  · have moved : band = some (moveBand prof temp i) := by
      rw [next]
      unfold nextBand
      rw [known]
      exact if_neg (by simp [old, kept])
    refine ⟨_, moved, fun b hb le => ?_, fun below => ?_⟩
    · have rises : riseBand prof.bounds temp i ≠ i := fun e => absurd le (not_le.2 (riseBand_eq_iff.1 e b hb))
      obtain ⟨up, crossed, ends⟩ := riseBand_spec (bounds := prof.bounds) (temp := temp) (i := i)
      rw [show moveBand prof temp i = _ from if_neg rises]
      exact ⟨by omega, crossed, ends⟩
    · obtain ⟨down, crossed, stays⟩ := fallBand_spec (bounds := prof.bounds) (temp := temp) (hyst := prof.hyst) (i := i)
      rw [show moveBand prof temp i = _ from if_pos (riseBand_eq_iff.2 below)]
      exact ⟨down, fun hi => ⟨crossed hi, stays⟩⟩

end Sys2Proof.Machine

namespace Sys2Proof.Machine

/-! ## The phase rules (R65 to R69) -/

section
variable {s t : State} {p : Pack} {c : Charge} {v : StepView}

theorem stepBand_inhibited {lim : Band} {band : Option Nat} :
    inhibited (stepBand p s) p band lim = true ↔
      (s.ppt.ports.get p).state = .stale ∨ band = none ∨ lim.chargeLimit = 0 ∨ (s.ppc.charge.get p).inhibit = true ∨
        chargeStopped s.lmt.actionSet p = true ∨ (s.ppt.ports.get p).alarms.terminateCharge = true ∨
        (s.ppc.path.get p).mode ≠ .full ∨ adapterAway s = true ∨ (s.ppc.charge.get p).latch ≠ none := by
  have charge : ((stepBand p s).ppc.charge.get p).inhibit = (s.ppc.charge.get p).inhibit ∧
      ((stepBand p s).ppc.charge.get p).latch = (s.ppc.charge.get p).latch := by
    cases h : (s.ppt.ports.get p).record with
    | none => rw [stepBand_charge_of_none h]; exact ⟨rfl, rfl⟩
    | some r => rw [stepBand_charge_of_record h]; exact ⟨rfl, rfl⟩
  have away : adapterAway (stepBand p s) = adapterAway s := by
    simp only [adapterAway, stepBand_lmt]
    rw [stepBand_ppc]
  have path : (stepBand p s).ppc.path = s.ppc.path := by rw [stepBand_ppc]
  unfold inhibited
  rw [charge.1, charge.2, away, path, stepBand_ppt, stepBand_lmt]
  simp only [Bool.or_eq_true, decide_eq_true_eq, Option.isNone_iff_eq_none, Option.isSome_iff_ne_none, or_assoc]

/-- The rules of a phase read its own counts and the done memory only. -/
theorem stepPhase_congr {d : Charge} (ph : d.phase = c.phase) (memory : d.doneMemory = c.doneMemory)
    (taper : d.taperCount = c.taperCount) (done : d.doneCount = c.doneCount) : stepPhase d v = stepPhase c v := by
  unfold stepPhase
  rw [ph, memory, taper, done]

theorem rechargeDue_iff : v.rechargeDue = true ↔
    v.volt + v.prof.rechargeDelta * v.record.cells < v.vChg ∨ v.record.soc < v.prof.rechargeSoc := by
  simp [StepView.rechargeDue]

theorem atVoltage_iff : v.atVoltage = true ↔ v.vChg ≤ v.volt + 16 * v.record.cells := by simp [StepView.atVoltage]

theorem tapered_iff : v.tapered = true ↔ v.current < v.prof.taperCurrent ∧ v.prof.taperCurrent < v.setpoint := by
  simp [StepView.tapered]

/-- The phase rules, phase by phase (R66 to R69). -/
theorem stepPhase_cases (c : Charge) (v : StepView) :
    (c.phase = .none ∨ c.phase = .hold → stepPhase c v =
      if v.cell < v.prof.preThreshold then .precharge
      else if c.doneMemory = true ∧ ¬ v.rechargeDue = true then .done else .bulk) ∧
    (c.phase = .precharge → stepPhase c v = if v.prof.preThreshold + 100 ≤ v.cell then .bulk else .precharge) ∧
    (c.phase = .bulk → stepPhase c v = if v.atVoltage = true ∧ 2 ≤ c.taperCount then .taper else .bulk) ∧
    (c.phase = .taper → stepPhase c v = if v.tapered = true ∧ 7 ≤ c.doneCount then .done else .taper) ∧
    (c.phase = .done → stepPhase c v = if v.rechargeDue = true then .bulk else .done) := by
  unfold stepPhase
  refine ⟨fun h => ?_, fun h => ?_, fun h => ?_, fun h => ?_, fun h => ?_⟩
  · obtain h | h := h <;> rw [h] <;> simp
  · rw [h]
  · rw [h]; simp
  · rw [h]; simp
  · rw [h]

theorem stepCounts_bulk (h : c.phase = .bulk) :
    (stepCounts c v).taperCount = if v.atVoltage = true then c.taperCount + 1 else 0 := by
  unfold stepCounts
  rw [h]

theorem stepCounts_taper (h : c.phase = .taper) :
    (stepCounts c v).doneCount = if v.tapered = true then c.doneCount + 1 else 0 := by
  unfold stepCounts
  rw [h]

/-- With no inhibit the phase after a step is the rules' phase, and a phase kept takes the step's counts. -/
theorem decidePhase_view {lim : Band} (h : ¬ NoPack (s.ppt.ports.get p))
    (hi : inhibited s p (s.ppc.charge.get p).band lim = false) :
    let d := (decidePhase p lim (some v) s).ppc.charge.get p
    d.phase = stepPhase (s.ppc.charge.get p) v ∧
      (d.phase = (s.ppc.charge.get p).phase → d = stepCounts (s.ppc.charge.get p) v) := by
  rw [decidePhase_of_view h hi]
  split
  · next e =>
    dsimp only
    rw [setCharge_charge, stepCounts_phase]
    exact ⟨e.symm, fun _ => rfl⟩
  · next e =>
    dsimp only
    rw [setPhase_phase]
    exact ⟨rfl, fun h => absurd h e⟩

/-- What the decision leaves stands after the step (R75 to R77 write their figures alone). -/
theorem phaseStep_decided :
    let d := (phaseStep p s).ppc.charge.get p
    let m := (decided p s).ppc.charge.get p
    d.phase = m.phase ∧ d.band = m.band ∧ d.taperCount = m.taperCount ∧ d.doneCount = m.doneCount ∧
      (Entered m → Entered d) := by
  dsimp only
  rw [phaseStep_eq, handFigures_charge]
  exact ⟨rfl, rfl, rfl, rfl, id⟩

/-- V_CHG after a step is what its phase rules read (R76). -/
theorem phaseStep_vChg {r : PackRecord} (record : (s.ppt.ports.get p).record = some r) :
    ((phaseStep p s).ppc.charge.get p).vChg =
      chargeVoltage r ((phaseStep p s).ppc.charge.get p).band (stepLimits p s) := by
  have handed := handFigures_of_record (p := p) (s := decided p s) (stepLimits p s) (packProfile s p) (by simpa using record)
  rw [← phaseStep_eq, decided_band] at handed
  exact congrArg Charge.vChg handed

theorem chargeStopped_iff {acts : List Action} : chargeStopped acts p = true ↔
    chargeStopOf p ∈ acts ∨ Action.chargeStopAll ∈ acts := by
  simp [chargeStopped]

theorem adapterAway_iff : adapterAway s = true ↔
    s.ppc.adapter.state = .absent ∨ Action.inputOpen ∈ s.lmt.actionSet := by
  simp [adapterAway, Adapter.present]

/-- The charge limit of band `i`, halved while a fan is locked out (R64). -/
def bandCharge (s : State) (prof : Profile) (i : Nat) : Nat :=
  if s.fnc.fans.one.state = .stallLockout ∨ s.fnc.fans.two.state = .stallLockout
  then (prof.bands.getD i ⟨0, 0, 0⟩).chargeLimit / 2 else (prof.bands.getD i ⟨0, 0, 0⟩).chargeLimit

/-- No current is permitted: the band is unknown, or its limit in force is 0 (R64, R65). -/
theorem noCurrent_iff {r : PackRecord} (record : (s.ppt.ports.get p).record = some r) {band : Option Nat}
    (hb : ((phaseStep p s).ppc.charge.get p).band = band) :
    (band = none ∨ (stepLimits p s).chargeLimit = 0) ↔
      (band = none ∨ ∃ i, band = some i ∧ bandCharge s (profileAt s.ppc.profiles r.profile) i = 0) := by
  cases band with
  | none => simp
  | some i =>
    rw [stepLimits_of_band record hb]
    simp only [bandCharge, reduceCtorEq, false_or, Option.some.injEq, exists_eq_left']
    split <;> rfl

/-- The inhibits that a step finds (R65). -/
theorem stepInhibited_iff {r : PackRecord} (record : (s.ppt.ports.get p).record = some r) {band : Option Nat}
    (hb : ((phaseStep p s).ppc.charge.get p).band = band) :
    inhibited (stepBand p s) p ((stepBand p s).ppc.charge.get p).band (stepLimits p s) = true ↔
      (s.ppt.ports.get p).state = .stale ∨ band = none ∨
        (∃ i, band = some i ∧ bandCharge s (profileAt s.ppc.profiles r.profile) i = 0) ∨
        (s.ppc.charge.get p).inhibit = true ∨ chargeStopOf p ∈ s.lmt.actionSet ∨
        Action.chargeStopAll ∈ s.lmt.actionSet ∨ r.alarms.terminateCharge = true ∨ (s.ppc.path.get p).mode ≠ .full ∨
        s.ppc.adapter.state = .absent ∨ Action.inputOpen ∈ s.lmt.actionSet ∨ (s.ppc.charge.get p).latch ≠ none := by
  have alarms : (s.ppt.ports.get p).alarms = r.alarms := by unfold Port.alarms; rw [record]
  have current := noCurrent_iff record hb
  rw [stepBand_inhibited, ← phaseStep_sameBand.band, hb, alarms, chargeStopped_iff, adapterAway_iff,
    ← or_assoc (a := band = none), current]
  simp only [or_assoc]

/-- What the phase rules of a step read, with V_CHG as the step hands it on (R66 to R69). -/
def viewOf (p : Pack) (s : State) (r : PackRecord) : StepView where
  record := r
  prof := profileAt s.ppc.profiles r.profile
  vChg := ((phaseStep p s).ppc.charge.get p).vChg
  volt := packVolt s p
  current := (s.sws.latest.get (currentOf p)).value
  setpoint := (s.ppc.setpoints.get p).chargeI

theorem stepView_of_record {r : PackRecord} (record : (s.ppt.ports.get p).record = some r) :
    stepView p s = some (viewOf p s r) := by
  unfold stepView viewOf
  rw [record, phaseStep_vChg record, ← phaseStep_sameBand.band, packProfile_of_record record]
  rfl

theorem stepCounts_congr {d : Charge} (ph : d.phase = c.phase) (taper : d.taperCount = c.taperCount)
    (done : d.doneCount = c.doneCount) : (stepCounts d v).taperCount = (stepCounts c v).taperCount ∧
      (stepCounts d v).doneCount = (stepCounts c v).doneCount := by
  unfold stepCounts
  rw [ph, taper, done]
  cases c.phase <;> exact ⟨by simp [taper], by simp [done]⟩

/-- With no inhibit a step takes the phase of the rules, and keeps a phase with its step's counts (R66 to R69). -/
theorem phaseStep_view {r : PackRecord} (record : (s.ppt.ports.get p).record = some r)
    (here : ¬ NoPack (s.ppt.ports.get p))
    (free : inhibited (stepBand p s) p ((stepBand p s).ppc.charge.get p).band (stepLimits p s) = false) :
    let c := s.ppc.charge.get p
    let d := (phaseStep p s).ppc.charge.get p
    d.phase = stepPhase c (viewOf p s r) ∧
      (d.phase = c.phase → d.taperCount = (stepCounts c (viewOf p s r)).taperCount ∧
        d.doneCount = (stepCounts c (viewOf p s r)).doneCount) := by
  intro c d
  obtain ⟨phase, -, taper, done, -⟩ := phaseStep_decided (p := p) (s := s)
  obtain ⟨rule, counts⟩ := decidePhase_view (v := viewOf p s r) (by rw [stepBand_ppt]; exact here) free
  have old : ((stepBand p s).ppc.charge.get p).phase = c.phase ∧
      ((stepBand p s).ppc.charge.get p).doneMemory = c.doneMemory ∧
      ((stepBand p s).ppc.charge.get p).taperCount = c.taperCount ∧
      ((stepBand p s).ppc.charge.get p).doneCount = c.doneCount := by
    rw [stepBand_charge_of_record record]; exact ⟨rfl, rfl, rfl, rfl⟩
  obtain ⟨oldPhase, oldMemory, oldTaper, oldDone⟩ := old
  have decides : decided p s = decidePhase p (stepLimits p s) (some (viewOf p s r)) (stepBand p s) := by
    rw [decided, stepView_of_record record]
  rw [← decides] at rule counts
  refine ⟨?_, fun h => ?_⟩
  · rw [← stepPhase_congr oldPhase oldMemory oldTaper oldDone, ← rule]
    exact phase
  · obtain ⟨t1, t2⟩ := stepCounts_congr (v := viewOf p s r) oldPhase oldTaper oldDone
    have kept := counts (by rw [oldPhase, ← h]; exact phase.symm)
    rw [← t1, ← t2, ← kept]
    exact ⟨taper, done⟩

end

/-- A completion in stages: the examination, the phase steps, the pass, the bay and the hand-over (R97). -/
theorem completion_stages (s : State) (w : Sweep) (done : SweepDone s w) :
    let ended := endOfPass (examineBay (allocationPass w (passed s)))
    ∃ t, exec .sweepCompletion s = .next t ∧ t.ppc.adapter = (examineAid (examineVad s)).ppc.adapter ∧
      t.ppc.charge = (passed s).ppc.charge ∧ t.ppc.alloc = (allocationPass w (passed s)).ppc.alloc ∧
      t = { ended with sws := { ended.sws with counter := (s.sws.counter + 1) % 64, sweep := none } } := by
  intro ended
  have run := exec_completion done
  obtain ⟨alloc, -, -, -, charge, adapter⟩ := completed_figures done run
  obtain ⟨-, -, counter, -⟩ := sws_fields (sws_of_keeps fun v =>
    completeAtPpc_keeps (l := .sampled v) (s := s) w nofun rfl)
  refine ⟨_, run, adapter, charge, by rw [alloc, allocationPass_ppc], ?_⟩
  rw [← counter]
  rfl

end Sys2Proof.Machine

namespace Sys2Proof.Machine

/-- Settles O21: a completion by its stages, a step by the first case of its decision. -/
theorem phaseStepTakesTheFirstCase : Obligations.PhaseStepTakesTheFirstCase := by
  refine ⟨fun s w done => ?_, fun p s => ?_⟩
  · intro examined stepped ended
    have ppc : examined.ppc = _ := examined_ppc
    refine ⟨examined_latest, by simp [examined], by simp [examined], ?_, ?_, completion_stages s w done⟩
    · rw [ppc]
    · rw [ppc]
  intro t x c d noPack lockout
  obtain ⟨phase, band, taper, doneCount, entered⟩ := phaseStep_decided (p := p) (s := s)
  have port : (stepBand p s).ppt.ports.get p = x := by rw [stepBand_ppt]
  have before : ((stepBand p s).ppc.charge.get p).phase = c.phase := stepBand_keepsPhase
  obtain ⟨same, changed⟩ := decidePhase_changes (p := p) (lim := stepLimits p s) (x := stepView p s) (s := stepBand p s)
  have evr : t.evr = (decided p s).evr := handFigures_evr _ _
  have bandEvr : (stepBand p s).evr = s.evr := by rw [stepBand_eq]; rfl
  have bandOf : ((stepBand p s).ppc.charge.get p).band = d.band := phaseStep_sameBand.band.symm
  refine ⟨fun h => ?_, fun h empty => ?_, fun r record => ?_, fun h => ?_, fun h => ?_⟩
  · rw [phase, decided, decidePhase_of_noPack (by rw [port]; exact h), setPhase_phase]
  · have inhibit : inhibited (stepBand p s) p ((stepBand p s).ppc.charge.get p).band (stepLimits p s) = true :=
      stepBand_inhibited.2 (.inr (.inl (by rw [stepBand_charge_of_none empty])))
    rw [phase, decided, decidePhase_of_inhibited (by rw [port]; exact h) inhibit, setPhase_phase]
  · intro prof figure limit stop inhibit vp ip recharge atVoltage tapered
    have inhibits := stepInhibited_iff record (band := d.band) rfl
    have inhibits : inhibited (stepBand p s) p ((stepBand p s).ppc.charge.get p).band (stepLimits p s) = true ↔ inhibit :=
      inhibits.trans (by cases p <;> exact Iff.rfl)
    refine ⟨fun h hi => ?_, fun h hi => ?_⟩
    · rw [phase, decided, decidePhase_of_inhibited (by rw [port]; exact h) (inhibits.2 hi), setPhase_phase]
    · have free := Bool.eq_false_iff.2 (mt inhibits.1 hi)
      obtain ⟨rule, counts⟩ := phaseStep_view record h free
      obtain ⟨fresh, pre, bulk, taper, done⟩ := stepPhase_cases c (viewOf p s r)
      have volt : (viewOf p s r).volt = vp := by cases p <;> rfl
      have current : (viewOf p s r).current = ip := by cases p <;> rfl
      have recharges : (viewOf p s r).rechargeDue = true ↔ recharge := by rw [rechargeDue_iff, volt]; exact Iff.rfl
      have atVolt : (viewOf p s r).atVoltage = true ↔ atVoltage := by rw [atVoltage_iff, volt]; exact Iff.rfl
      have tapers : (viewOf p s r).tapered = true ↔ tapered := by rw [tapered_iff, current]; exact Iff.rfl
      have cell : (viewOf p s r).cell = vp / r.cells := by rw [StepView.cell, volt]; rfl
      simp only [recharges] at fresh done
      simp only [atVolt] at bulk
      simp only [tapers] at taper
      rw [cell] at fresh pre
      refine ⟨fun hp => rule.trans (fresh hp), fun hp => rule.trans (pre hp), fun hp => ⟨rule.trans (bulk hp), fun hd => ?_⟩,
        fun hp => ⟨rule.trans (taper hp), fun hd => ?_⟩, fun hp => rule.trans (done hp)⟩
      · rw [(counts (hd.trans hp.symm)).1, stepCounts_bulk hp]
        simp only [atVolt]
      · rw [(counts (hd.trans hp.symm)).2, stepCounts_taper hp]
        simp only [tapers]
  · rw [evr, ← bandEvr]
    exact same (by rw [before]; exact phase.symm.trans h)
  · obtain ⟨tallied, ent⟩ := changed (by rw [before]; exact fun e => h (phase.trans e))
    have tally : Tallied .chargePhase s t := by
      rw [Tallied, evr, ← bandEvr]; exact tallied
    obtain ⟨e1, e2, e3, e4⟩ := entered ent
    exact ⟨tally, e1, e2, e3, e4⟩

end Sys2Proof.Machine

namespace Sys2Proof.Machine

/-! ## Events: what they tally, place and move (R154, R155, R168 to R175) -/

section
variable {s : State} {c : EventCode} {n : Nat} {v : Int}

theorem Evr.take_frame (e : Evr) (a : Bool) (now : Stamp) : e.take c n v a now =
    { e with
      tally := (e.take c n v a now).tally
      urgent := (e.take c n v a now).urgent
      normal := (e.take c n v a now).normal
      normalState := (e.take c n v a now).normalState
      discarded := (e.take c n v a now).discarded
      keyMark := (e.take c n v a now).keyMark } := by
  unfold Evr.take Evr.place
  cases (e.policyOf c).cls with
  | none => rfl
  | urgent => rfl
  | normal =>
    unfold Evr.placeNormal
    cases (e.addTally c).normalState with
    | overflowed => rfl
    | opened => dsimp only; split <;> rfl

theorem placeUrgent_new {q : List EventRecord} {r : EventRecord} (h : ∀ x ∈ q, x.code ≠ r.code) :
    placeUrgent q r = q ++ [r] := if_neg (by simpa using h)

theorem placeUrgent_queued {q : List EventRecord} {r : EventRecord} (h : ∃ x ∈ q, x.code = r.code) :
    placeUrgent q r = q.map fun x => if x.code = r.code then gatherUrgent x r else x := if_pos (by simpa using h)

/-! ### One occurrence taken, by its class -/

/-- The record of one occurrence (R168). -/
def Evr.occurrence (e : Evr) (c : EventCode) (n : Nat) (v : Int) (a : Bool) (now : Stamp) : EventRecord :=
  ⟨c, n, 1, (e.policyOf c).wake, (e.policyOf c).start, a, now, v⟩

theorem Evr.take_eq (e : Evr) (a : Bool) (now : Stamp) :
    e.take c n v a now = (e.addTally c).place (e.policyOf c).cls (e.occurrence c n v a now) := rfl

section
variable {e : Evr} {a : Bool} {now : Stamp}

theorem Evr.take_none (h : (e.policyOf c).cls = .none) : e.take c n v a now = e.addTally c := by
  rw [Evr.take_eq, h]; rfl

theorem Evr.take_normal_room (h : (e.policyOf c).cls = .normal) (ho : e.normalState = .opened)
    (hl : e.normal.length < 32) :
    e.take c n v a now = { e.addTally c with normal := e.normal ++ [.event (e.occurrence c n v a now)] } := by
  rw [Evr.take_eq, h]
  exact Evr.placeNormal_room (e := e.addTally c) ho hl _

theorem Evr.take_normal_full (h : (e.policyOf c).cls = .normal) (ho : e.normalState = .opened)
    (hl : 32 ≤ e.normal.length) :
    e.take c n v a now = { e.addTally c with normalState := .overflowed, discarded := 1, keyMark := false } := by
  rw [Evr.take_eq, h]
  exact Evr.placeNormal_full (e := e.addTally c) ho (Nat.not_lt.2 hl) _

theorem Evr.take_normal_overflowed (h : (e.policyOf c).cls = .normal) (ho : e.normalState = .overflowed) :
    e.take c n v a now = { e.addTally c with discarded := sat255 e.discarded } := by
  rw [Evr.take_eq, h]
  refine (Evr.placeNormal_overflowed (e := e.addTally c) ho _).trans ?_
  simp [NormalRecord.isKey, Evr.addTally]

theorem Evr.take_urgent_new (h : (e.policyOf c).cls = .urgent) (hq : ∀ x ∈ e.urgent, x.code ≠ c) :
    e.take c n v a now = { e.addTally c with urgent := e.urgent ++ [e.occurrence c n v a now] } := by
  rw [Evr.take_eq, h]
  exact congrArg (fun q => { e.addTally c with urgent := q }) (placeUrgent_new (r := e.occurrence c n v a now) hq)

theorem Evr.take_urgent_queued (h : (e.policyOf c).cls = .urgent) (hq : ∃ x ∈ e.urgent, x.code = c) :
    e.take c n v a now = { e.addTally c with
      urgent := e.urgent.map fun x => if x.code = c then gatherUrgent x (e.occurrence c n v a now) else x } := by
  rw [Evr.take_eq, h]
  exact congrArg (fun q => { e.addTally c with urgent := q }) (placeUrgent_queued (r := e.occurrence c n v a now) hq)

/-- An URGENT event that SSC acts on has its record, marked ACTED, in the urgent queue (R173). -/
theorem Evr.take_urgent_acted (h : (e.policyOf c).cls = .urgent) :
    ∃ x ∈ (e.take c n v true now).urgent, x.code = c ∧ x.acted = true := by
  by_cases hq : ∃ x ∈ e.urgent, x.code = c
  · rw [Evr.take_urgent_queued h hq]
    obtain ⟨x, hx, hc⟩ := hq
    exact ⟨_, List.mem_map_of_mem hx, by simp [hc, gatherUrgent], by simp [hc, gatherUrgent, Evr.occurrence]⟩
  · rw [Evr.take_urgent_new h fun x hx hc => hq ⟨x, hx, hc⟩]
    exact ⟨_, List.mem_append_right _ (List.mem_singleton_self _), rfl, rfl⟩

/-- An event leaves the urgent records of the other codes as they are. -/
theorem Evr.mem_take_urgent {x : EventRecord} (hx : x ∈ e.urgent) (hc : x.code ≠ c) :
    x ∈ (e.take c n v a now).urgent := by
  rw [Evr.take_eq]
  unfold Evr.place
  cases (e.policyOf c).cls with
  | none => exact hx
  | normal => dsimp only; rw [Evr.placeNormal_urgent]; exact hx
  | urgent =>
    change x ∈ placeUrgent e.urgent _
    unfold placeUrgent
    split
    · exact List.mem_map.2 ⟨x, hx, if_neg hc⟩
    · exact List.mem_append_left _ hx

end

/-! ### SSC acting -/

theorem qualifies_iff : qualifies c v = true ↔ (c = .powerButton → v = 1) ∧ (c = .lid ∨ c = .tablet → v = 0) := by
  cases c <;> simp [qualifies]

theorem sscActs_iff {p : Policy} {x : Ssc} : sscActs p c v x = true ↔
    qualifies c v = true ∧ ((x.state = .off ∧ p.start = true ∧ x.critical = false) ∨ (x.state = .standby ∧ p.wake = true)) := by
  unfold sscActs
  cases x.state <;> simp <;> tauto

theorem setMode_full_bootTimer (b : Timer) :
    { setMode .full s with ssc := { (setMode .full s).ssc with bootTimer := b } } =
      setMode .full { s with ssc := { s.ssc with bootTimer := b } } := by
  by_cases h : PartMode.full = s.ssc.mode
  · rw [setMode, if_pos h, setMode, if_pos h]
  · rw [setMode, if_neg h, setMode, if_neg h]

theorem handMove_off_booting :
    handMove .off .booting s = { s with kms := if s.kms.gated then s.kms else s.kms.started } := by
  simp only [handMove, reduceCtorEq, if_false, if_true]
  split <;> rfl

/-- A start from OFF (R154), written out. -/
theorem sscAct_of_off (h : s.ssc.state = .off) : sscAct c s =
    setMode .full { s with
      evr := s.evr.take .stateChange 0 1 false s.tmb.ms
      kms := if s.kms.gated then s.kms else s.kms.started
      ssc := { s.ssc with
        state := .booting
        sysen := true
        wake := false
        bootTimer := some 30000
        wakeCause := c.num } } := by
  unfold sscAct
  rw [if_pos h]
  dsimp only [moveOnEvent]
  rw [h, handMove_off_booting]
  exact setMode_full_bootTimer (some 30000)

/-- A wake from STANDBY (R155), written out. -/
theorem sscAct_of_standby (h : s.ssc.state = .standby) : sscAct c s =
    { s with
      evr := s.evr.take .stateChange 0 5 false s.tmb.ms
      kms := { s.kms with countdown := s.kms.countdown.map (min · 1) }
      ssc := { s.ssc with
        state := .waking
        sysen := true
        wake := true
        wakeTimer := some 10000
        wakeCause := c.num } } := by
  unfold sscAct
  rw [if_neg (by rw [h]; decide)]
  dsimp only [moveOnEvent]
  rw [h]
  rfl

theorem route_acts (h : sscActs (s.evr.policyOf c) c v s.ssc = true) :
    route c n v s = sscAct c (record c n v true s) := if_pos h

theorem route_acts_not (h : sscActs (s.evr.policyOf c) c v s.ssc ≠ true) :
    route c n v s = record c n v false s := if_neg h

theorem setMode_full_frame : ∃ capture countdown fans eval, setMode .full s =
    { s with
      ssc := { s.ssc with mode := .full }
      tmb := { s.tmb with capture := capture }
      sws := { s.sws with countdown := countdown }
      fnc := { s.fnc with fans := fans, evalCountdown := eval } } := by
  unfold setMode
  split
  · next h => exact ⟨s.tmb.capture, s.sws.countdown, s.fnc.fans, s.fnc.evalCountdown, by rw [h]⟩
  · exact ⟨_, _, _, _, rfl⟩

/-- An event taken twice over leaves what EVR keeps beside tallies and queues. -/
theorem EventFrame.of_take {t : State} {e : Evr} {a : Bool} (he : e = s.evr.take c n v a s.tmb.ms)
    (h : t = { s with evr := e }) : EventFrame s t := by
  subst h he
  exact ⟨rfl, rfl, rfl, rfl, rfl, rfl, rfl, rfl, rfl, rfl, Evr.take_frame _ _ _, rfl, fun _ _ => ⟨rfl, rfl, rfl, rfl, rfl⟩⟩

/-- The STATE_CHANGE of a start or a wake after the event that made it. -/
def Evr.takeTwice (e : Evr) (c : EventCode) (n : Nat) (v : Int) (new : SysState) (now : Stamp) : Evr :=
  (e.take c n v true now).take .stateChange 0 new.num false now

theorem Evr.takeTwice_frame (e : Evr) (new : SysState) (now : Stamp) : e.takeTwice c n v new now =
    { e with
      tally := (e.takeTwice c n v new now).tally
      urgent := (e.takeTwice c n v new now).urgent
      normal := (e.takeTwice c n v new now).normal
      normalState := (e.takeTwice c n v new now).normalState
      discarded := (e.takeTwice c n v new now).discarded
      keyMark := (e.takeTwice c n v new now).keyMark } := by
  refine (Evr.take_frame (e.take c n v true now) false now).trans ?_
  simp only [Evr.takeTwice, Evr.take_policy, Evr.take_relayA, Evr.take_relayB, Evr.take_telemetry, Evr.take_rotation,
    Evr.take_period, Evr.take_periodTimer, Evr.take_due]

/-- A start from OFF on an event (R154, R168). -/
theorem route_of_off (ho : s.ssc.state = .off) (h : sscActs (s.evr.policyOf c) c v s.ssc = true) :
    route c n v s = setMode .full { s with
      evr := s.evr.takeTwice c n v .booting s.tmb.ms
      kms := if s.kms.gated then s.kms else s.kms.started
      ssc := { s.ssc with
        state := .booting
        sysen := true
        wake := false
        bootTimer := some 30000
        wakeCause := c.num } } :=
  (route_acts h).trans (sscAct_of_off (s := record c n v true s) ho)

/-- A wake from STANDBY on an event (R155, R168). -/
theorem route_of_standby (hs : s.ssc.state = .standby) (h : sscActs (s.evr.policyOf c) c v s.ssc = true) :
    route c n v s = { s with
      evr := s.evr.takeTwice c n v .waking s.tmb.ms
      kms := { s.kms with countdown := s.kms.countdown.map (min · 1) }
      ssc := { s.ssc with
        state := .waking
        sysen := true
        wake := true
        wakeTimer := some 10000
        wakeCause := c.num } } :=
  (route_acts h).trans (sscAct_of_standby (s := record c n v true s) hs)

theorem route_eventFrame : EventFrame s (route c n v s) := by
  by_cases h : sscActs (s.evr.policyOf c) c v s.ssc = true
  · obtain ho | hs := state_of_sscActs h
    · rw [route_of_off ho h]
      obtain ⟨capture, countdown, fans, eval, e⟩ := setMode_full_frame (s := { s with
        evr := s.evr.takeTwice c n v .booting s.tmb.ms
        kms := if s.kms.gated then s.kms else s.kms.started
        ssc := { s.ssc with
          state := .booting
          sysen := true
          wake := false
          bootTimer := some 30000
          wakeCause := c.num } })
      rw [e]
      refine ⟨rfl, rfl, rfl, rfl, rfl, rfl, rfl, rfl, ?_, rfl, Evr.takeTwice_frame _ _ _, rfl,
        fun h => absurd ho h⟩
      dsimp only
      split <;> rfl
    · rw [route_of_standby hs h]
      exact ⟨rfl, rfl, rfl, rfl, rfl, rfl, rfl, rfl, rfl, rfl, Evr.takeTwice_frame _ _ _, rfl,
        fun _ h => absurd hs h⟩
  · rw [route_acts_not h]
    exact .of_take rfl rfl

theorem route_acts_evr (h : sscActs (s.evr.policyOf c) c v s.ssc = true) : (route c n v s).evr =
    s.evr.takeTwice c n v (if s.ssc.state = .off then .booting else .waking) s.tmb.ms := by
  obtain ho | hs := state_of_sscActs h
  · rw [route_of_off ho h, setMode_evr, ho]; rfl
  · rw [route_of_standby hs h, hs]; rfl

end

/-- Settles O41: the take by its class, at an event that SSC acts on and at one that it does not. -/
theorem eventsAreTalliedAndPlaced : Obligations.EventsAreTalliedAndPlaced := by
  refine ⟨fun e k => ⟨fun ho hl => Evr.placeNormal_room ho hl _, fun ho hl => Evr.placeNormal_full ho (Nat.not_lt.2 hl) _,
    fun ho => ?_⟩, fun c source value s => ?_⟩
  · refine (Evr.placeNormal_overflowed ho _).trans ?_
    rw [NormalRecord.isKey, Bool.or_true]
    rfl
  intro t policy qualified acts tallied r started moved
  have hacts : acts ↔ sscActs (s.evr.policyOf c) c value s.ssc = true :=
    (sscActs_iff.trans (and_congr_left' qualifies_iff)).symm
  have acted (h : acts) {e : Evr} (he : s.evr.take c source value true s.tmb.ms = e) : t.evr = (moved e).evr := by
    have acts := hacts.1 h
    refine (route_acts_evr acts).trans ?_
    subst he
    obtain ho | hs := state_of_sscActs acts
    · simp only [moved, started, ho, if_true]
      rw [route_awake (by simp) (by simp)]
      rfl
    · simp only [moved, started, hs, reduceCtorEq, if_false]
      rw [route_awake (by simp) (by simp)]
      rfl
  have passed (h : ¬ acts) {e : Evr} (he : s.evr.take c source value false s.tmb.ms = e) : t = { s with evr := e } := by
    subst he
    exact route_acts_not fun k => h (hacts.2 k)
  have gathered (a : Bool) (h : policy.cls = .urgent) (hq : ∃ x ∈ s.evr.urgent, x.code = c) :
      s.evr.take c source value a s.tmb.ms = { tallied with
        urgent := s.evr.urgent.map fun x => if x.code = c then
          { x with
            count := if x.count < 255 then x.count + 1 else 255
            source := source
            value := value
            wake := x.wake || policy.wake
            start := x.start || policy.start
            acted := x.acted || a } else x } := Evr.take_urgent_queued h hq
  refine ⟨route_eventFrame, fun h => ⟨fun k => acted h (Evr.take_none k), fun k ho hl => acted h (Evr.take_normal_room k ho hl),
    fun k ho hl => acted h (Evr.take_normal_full k ho hl), fun k ho => acted h (Evr.take_normal_overflowed k ho),
    fun k hq => acted h (Evr.take_urgent_new k hq), fun k hq => acted h ?_⟩, fun h => ⟨fun k => passed h (Evr.take_none k),
    fun k ho hl => passed h (Evr.take_normal_room k ho hl), fun k ho hl => passed h (Evr.take_normal_full k ho hl),
    fun k ho => passed h (Evr.take_normal_overflowed k ho), fun k hq => passed h (Evr.take_urgent_new k hq),
    fun k hq => passed h ?_⟩, fun h hc k => ?_⟩
  · simpa only [Bool.or_true] using gathered true k hq
  · simpa only [Bool.or_false] using gathered false k hq
  · rw [show t.evr = _ from route_acts_evr (hacts.1 h)]
    obtain ⟨x, hx, code, marked⟩ := Evr.take_urgent_acted (n := source) (v := value) (now := s.tmb.ms) k
    exact ⟨x, Evr.mem_take_urgent hx (by rwa [code]), code, marked⟩

section
variable {s : State} {c : EventCode} {n : Nat} {v : Int}

/-- A start or a wake tallies its event and STATE_CHANGE (R152, R172). -/
theorem route_acts_tallied (h : sscActs (s.evr.policyOf c) c v s.ssc = true) (hc : c ≠ .stateChange) :
    Tallied c s (route c n v s) ∧ Tallied .stateChange s (route c n v s) := by
  refine ⟨route_tallied n v hc, ?_⟩
  rw [Tallied, route_acts_evr h, Evr.takeTwice, Evr.take_tally, Table.get_set_self, sat255_eq_min,
    Evr.take_tally_ne _ hc.symm]

end

/-- Settles O42: the start, the wake and the event that moves nothing are `route`'s three forms. -/
theorem eventsStartAndWakeTheSystem : Obligations.EventsStartAndWakeTheSystem := by
  intro c source value s t policy qualified
  have qual : qualified ↔ qualifies c value = true := qualifies_iff.symm
  refine ⟨fun ho hp hq hcrit => ?_, fun hs hp hq => ?_, fun h1 h2 => ?_⟩
  · have acts : sscActs (s.evr.policyOf c) c value s.ssc = true := sscActs_iff.2 ⟨qual.1 hq, .inl ⟨ho, hp, hcrit⟩⟩
    have ht : t = _ := route_of_off ho acts
    refine ⟨?_, fun hg => ?_, fun hg => ?_, fun hm => ?_, route_acts_tallied acts⟩
    · rw [ht, setMode_ssc]
    · rw [ht, setMode_kms, hg]; rfl
    · rw [ht, setMode_kms, hg]; rfl
    · have full : t = _ := ht.trans (if_neg (by simp [hm]))
      rw [full]
      exact ⟨rfl, rfl, rfl⟩
  · have acts : sscActs (s.evr.policyOf c) c value s.ssc = true := sscActs_iff.2 ⟨qual.1 hq, .inr ⟨hs, hp⟩⟩
    have ht : t = _ := route_of_standby hs acts
    refine ⟨?_, ?_, ?_, ?_, route_acts_tallied acts⟩ <;> rw [ht]
  · have idle : sscActs (s.evr.policyOf c) c value s.ssc ≠ true := fun h => by
      obtain ⟨hq, ⟨ho, hp, hcrit⟩ | ⟨hs, hp⟩⟩ := sscActs_iff.1 h
      · exact h1 ho ⟨hp, qual.2 hq, hcrit⟩
      · exact h2 hs ⟨hp, qual.2 hq⟩
    rw [show t = _ from route_acts_not idle]
    rfl

end Sys2Proof.Machine

namespace Sys2Proof.Machine

/-! ## Fans: demand, kicks, stalls, host slots, the override (R139, R143 to R147) -/

section
variable {s : State}

theorem timerDue_iff {t : Timer} : timerDue t = true ↔ t = some 0 := by simp [timerDue]

/-- An event whose policy gives no START leaves the fan controller alone. -/
theorem route_fnc_of_no_start {c : EventCode} (h : (s.evr.policyOf c).start = false) (n : Nat) (v : Int) :
    (route c n v s).fnc = s.fnc := by
  by_cases acts : sscActs (s.evr.policyOf c) c v s.ssc = true
  · obtain ⟨-, ⟨-, start, -⟩ | ⟨standby, -⟩⟩ := sscActs_iff.1 acts
    · rw [h] at start; cases start
    · rw [route_of_standby standby acts]
  · rw [route_acts_not acts]; rfl

theorem FanState.enterRunning_eq (x : FanState) (m : PartMode) : x.enterRunning m =
    { x with state := .running, silenceTimer := if m = .full then some 1000 else x.silenceTimer } := by
  cases m <;> rfl

theorem setFan_setFan (f : Fan) (x y : FanState) : setFan f y (setFan f x s) = setFan f y s := by
  cases f <;> rfl

end

/-- Settles O39: drive duty and demand by the fan's state, the end of a kick by its demand. -/
theorem demandActsByTheFanState : Obligations.DemandActsByTheFanState := by
  refine ⟨fun x d => ⟨?_, ?_, ?_, ?_, ?_, ?_, ?_⟩, fun f s => ?_⟩
  · rintro (h | h) <;> simp only [FanState.drive, h]
  · rintro (h | h) <;> simp only [FanState.drive, h]
  · intro h; simp only [FanState.drive, h]
  · intro h hd; simp only [FanState.setDemand, h, if_neg hd]
  · intro h hd; simp only [FanState.setDemand, h, hd, if_true]
  · intro h hd; simp only [FanState.setDemand, h, hd, if_true]
  · rintro (h | h | ⟨h, hd⟩ | ⟨h, hd⟩ | ⟨h, hd⟩) <;> simp only [FanState.setDemand, h]
    exacts [if_pos hd, if_neg hd, if_neg hd]
  intro x
  refine ⟨fun h => if_neg fun k => h.elim (· k.1) (· (timerDue_iff.1 k.2)),
    fun h due => ⟨fun hd => ?_, fun hd => ?_⟩⟩
  all_goals
    refine (if_pos ⟨h, timerDue_iff.2 due⟩).trans (congrArg (fun y => Host.Outcome.next (setFan f y s)) ?_)
    unfold FanState.kickEnd
  · rw [if_pos hd]
  · rw [if_neg hd, FanState.enterRunning_eq]

/-- Settles O40: each expiry by its timer, the stall's event under a legal policy leaving the fan as it found it. -/
theorem fanAndHostTimersExpire : Obligations.FanAndHostTimersExpire := by
  refine ⟨fun f s => ?_, fun i s => ?_, fun s => ?_⟩
  · intro x silent
    refine ⟨fun h => if_neg (mt timerDue_iff.1 h), fun due h => ?_, fun due hr hc legal => ?_,
      fun h => if_neg fun k => h.elim (· k.1) (· (timerDue_iff.1 k.2)), fun hr due lt => ?_, fun hr due ge => ?_⟩
    · refine (if_pos (timerDue_iff.2 due)).trans (if_neg fun k => ?_)
      exact h.elim (· k.1) fun off => Bool.false_ne_true (off.symm.trans k.2)
    · refine (if_pos (timerDue_iff.2 due)).trans ((if_pos ⟨hr, hc⟩).trans ?_)
      have fnc := route_fnc_of_no_start (s := silent) (PolicyLegal.policyOf_start (c := .fanStall) legal rfl) (fanNum f) 0
      change Host.Outcome.next (setFan f ((route .fanStall (fanNum f) 0 silent).fnc.fans.get f).stalled
        (route .fanStall (fanNum f) 0 silent)) = _
      rw [fnc, setFan_get]
      rfl
    · refine (if_pos ⟨hr, timerDue_iff.2 due⟩).trans ((if_pos lt).trans ?_)
      exact congrArg (fun y => Host.Outcome.next (setFan f y s)) (if_pos lt)
    · refine (if_pos ⟨hr, timerDue_iff.2 due⟩).trans ((if_neg (Nat.not_lt.2 ge)).trans ?_)
      exact congrArg (fun y => Host.Outcome.next (route .fanLockout (fanNum f) 3 (setFan f y s))) (if_neg (Nat.not_lt.2 ge))
  · exact ⟨fun h => if_neg (mt timerDue_iff.1 h), fun h => if_pos (timerDue_iff.2 h)⟩
  · exact ⟨fun h => if_neg (mt timerDue_iff.1 h), fun h => if_pos (timerDue_iff.2 h)⟩

/-! ## The reading of a curve (R141, R142) -/

section

/-- The segment from one point to the next, rounded toward the first (R142), stays between their duties. -/
theorem segment_between {a w : Int} {d e : Nat} (ha : 0 ≤ a) (haw : a < w) :
    (min d e : Nat) ≤ (d : Int) + (a * ((e : Int) - d)).tdiv w ∧
      (d : Int) + (a * ((e : Int) - d)).tdiv w ≤ (max d e : Nat) := by
  have share (g : Int) (hg : 0 ≤ g) : 0 ≤ (a * g).tdiv w ∧ (a * g).tdiv w ≤ g := by
    rw [Int.tdiv_eq_ediv_of_nonneg (mul_nonneg ha hg)]
    refine ⟨Int.ediv_nonneg (mul_nonneg ha hg) (by omega), Int.ediv_le_of_le_mul (by omega) ?_⟩
    rw [mul_comm g w]
    exact mul_le_mul_of_nonneg_right haw.le hg
  obtain h | h := le_total d e
  · obtain ⟨lo, hi⟩ := share (e - d) (by omega)
    omega
  · obtain ⟨lo, hi⟩ := share (d - e) (by omega)
    have neg : (a * ((e : Int) - d)).tdiv w = -(a * ((d : Int) - e)).tdiv w := by
      rw [← Int.neg_tdiv, ← mul_neg, neg_sub]
    omega

theorem ascending_iff {l : List (Int × Nat)} : ascending l = true ↔ l.Pairwise fun x y => x.1 < y.1 := by
  induction l with
  | nil => exact iff_of_true rfl .nil
  | cons x l ih =>
    cases l with
    | nil => exact iff_of_true rfl (List.pairwise_singleton _ _)
    | cons y l =>
      rw [ascending, Bool.and_eq_true, decide_eq_true_eq, ih, List.pairwise_cons (a := x)]
      refine ⟨fun ⟨hxy, h⟩ => ⟨fun z hz => ?_, h⟩, fun ⟨hx, h⟩ => ⟨hx y (List.mem_cons_self ..), h⟩⟩
      obtain rfl | hz := List.mem_cons.1 hz
      · exact hxy
      · exact hxy.trans ((List.pairwise_cons.1 h).1 z hz)

variable {r : Int}

theorem curveSegment_cons_cons {x y : Int × Nat} {l : List (Int × Nat)} : curveSegment r (x :: y :: l) =
    if r < y.1 then ((x.2 : Int) + ((r - x.1) * ((y.2 : Int) - x.2)).tdiv (y.1 - x.1)).toNat
    else curveSegment r (y :: l) := rfl

theorem curveSegment_last {l : List (Int × Nat)} (asc : l.Pairwise fun x y => x.1 < y.1) {p : Int × Nat}
    (hp : l.getLast? = some p) (hr : p.1 ≤ r) : curveSegment r l = p.2 := by
  induction l with
  | nil => cases hp
  | cons x l ih =>
    cases l with
    | nil => obtain rfl : x = p := by simpa using hp
             rfl
    | cons y l =>
      rw [List.getLast?_cons_cons] at hp
      obtain ⟨-, asc⟩ := List.pairwise_cons.1 asc
      have hy : y.1 ≤ p.1 := by
        obtain rfl | hm := List.mem_cons.1 (List.mem_of_getLast? hp)
        · exact le_rfl
        · exact ((List.pairwise_cons.1 asc).1 p hm).le
      rw [curveSegment_cons_cons, if_neg (not_lt.2 (hy.trans hr)), ih asc hp]

theorem curveSegment_between {l : List (Int × Nat)} (asc : l.Pairwise fun x y => x.1 < y.1) {i : Nat}
    {p q : Int × Nat} (hp : l[i]? = some p) (hq : l[i + 1]? = some q) (hpr : p.1 ≤ r) (hrq : r < q.1) :
    (curveSegment r l : Int) = p.2 + ((r - p.1) * ((q.2 : Int) - p.2)).tdiv (q.1 - p.1) := by
  induction l generalizing i with
  | nil => cases hp
  | cons x l ih =>
    cases l with
    | nil => cases hq
    | cons y l =>
      obtain ⟨-, asc'⟩ := List.pairwise_cons.1 asc
      rw [curveSegment_cons_cons]
      cases i with
      | zero =>
        obtain rfl : x = p := by simpa using hp
        obtain rfl : y = q := by simpa using hq
        rw [if_pos hrq, Int.toNat_of_nonneg]
        have := (segment_between (d := x.2) (e := y.2) (sub_nonneg.2 hpr) (sub_lt_sub_right hrq x.1)).1
        omega
      | succ i =>
        rw [List.getElem?_cons_succ] at hp hq
        have hy : y.1 ≤ p.1 := by
          obtain rfl | hm := List.mem_cons.1 (List.mem_of_getElem? hp)
          · exact le_rfl
          · exact ((List.pairwise_cons.1 asc').1 p hm).le
        rw [if_neg (not_lt.2 (hy.trans hpr)), ih asc' hp hq]

theorem curveSegment_le {l : List (Int × Nat)} {x : Int × Nat} (hl : l.head? = some x) (hr : x.1 ≤ r) {top : Nat}
    (ht : ∀ p ∈ l, p.2 ≤ top) : curveSegment r l ≤ top := by
  induction l generalizing x with
  | nil => exact Nat.zero_le _
  | cons z l ih =>
    obtain rfl : z = x := by simpa using hl
    cases l with
    | nil => exact ht _ (List.mem_cons_self ..)
    | cons y l =>
      rw [curveSegment_cons_cons]
      split
      · next hy =>
        have hi := (segment_between (d := z.2) (e := y.2) (sub_nonneg.2 hr) (sub_lt_sub_right hy z.1)).2
        have hz := ht z (List.mem_cons_self ..)
        have hy := ht y (List.mem_cons_of_mem _ (List.mem_cons_self ..))
        omega
      · next hy => exact ih rfl (not_lt.1 hy) fun p hp => ht p (List.mem_cons_of_mem _ hp)

theorem curveValue_of_le {x : Int × Nat} {l : List (Int × Nat)} (h : r ≤ x.1) : curveValue (x :: l) r = x.2 := if_pos h

theorem curveValue_of_lt {x : Int × Nat} {l : List (Int × Nat)} (h : x.1 < r) :
    curveValue (x :: l) r = curveSegment r (x :: l) := if_neg (not_le.2 h)

end

/-- Settles O38: the reference by its three moves, the curve value through the segments. -/
theorem curveIsReadBetweenItsPoints : Obligations.CurveIsReadBetweenItsPoints := by
  refine ⟨fun fresh r t hyst => ?_, fun points r asc ne => ?_, by decide⟩
  · unfold moveReference
    cases fresh <;> simp <;> grind
  · rw [ascending_iff] at asc
    obtain ⟨x, l, rfl⟩ := List.exists_cons_of_ne_nil ne
    have first {p : Int × Nat} (hp : p ∈ x :: l) (hpx : p.1 ≤ x.1) : p = x := by
      obtain h | hm := List.mem_cons.1 hp
      · exact h
      · exact absurd hpx (not_le.2 ((List.pairwise_cons.1 asc).1 p hm))
    refine ⟨fun p hp hr => ?_, fun p hp hr => ?_, fun i p q hp hq hpr hrq => ?_, fun top ht => ?_⟩
    · obtain rfl : x = p := by simpa using hp
      exact curveValue_of_le hr
    · obtain h | h := le_or_gt r x.1
      · rw [curveValue_of_le h, first (List.mem_of_getLast? hp) (hr.trans h)]
      · rw [curveValue_of_lt h, curveSegment_last asc hp hr]
    · obtain h | h := le_or_gt r x.1
      · obtain rfl := first (List.mem_of_getElem? hp) (hpr.trans h)
        rw [curveValue_of_le h, le_antisymm h hpr, sub_self, zero_mul, Int.zero_tdiv, add_zero]
      · rw [curveValue_of_lt h, curveSegment_between asc hp hq hpr hrq]
    · obtain h | h := le_or_gt r x.1
      · rw [curveValue_of_le h]; exact ht x (List.mem_cons_self ..)
      · rw [curveValue_of_lt h]; exact curveSegment_le rfl h.le ht

end Sys2Proof.Machine

namespace Sys2Proof.Machine

/-! ## The fan evaluation (R140 to R144) -/

/-- A list's greatest value, none exactly for the empty list. -/
def Highest (l : List Int) (o : Option Int) : Prop :=
  (l = [] ∧ o = none) ∨ ∃ v, o = some v ∧ v ∈ l ∧ ∀ u ∈ l, u ≤ v

theorem Highest.append {l k : List Int} {o q : Option Int} (h : Highest l o) (h' : Highest k q) :
    Highest (l ++ k) (higher o q) := by
  obtain ⟨rfl, rfl⟩ | ⟨v, rfl, mem, top⟩ := h
  · simpa only [List.nil_append, higher] using h'
  obtain ⟨rfl, rfl⟩ | ⟨w, rfl, mem', top'⟩ := h'
  · exact .inr ⟨v, rfl, by simpa using mem, by simpa using top⟩
  · refine .inr ⟨max v w, rfl, ?_, fun u hu => ?_⟩
    · obtain hm | hm := max_choice v w <;> rw [hm, List.mem_append]
      exacts [.inl mem, .inr mem']
    · obtain hu | hu := List.mem_append.1 hu
      exacts [le_max_of_le_left (top u hu), le_max_of_le_right (top' u hu)]

theorem Highest.none_iff {l : List Int} {o : Option Int} (h : Highest l o) (hl : l = []) : o = none := by
  obtain ⟨-, ho⟩ | ⟨v, -, mem, -⟩ := h
  · exact ho
  · rw [hl] at mem; cases mem

theorem Highest.eq_some {l : List Int} {o : Option Int} (h : Highest l o) {v : Int} (hv : v ∈ l)
    (top : ∀ u ∈ l, u ≤ v) : o = some v := by
  obtain ⟨rfl, -⟩ | ⟨w, rfl, mem, top'⟩ := h
  · cases hv
  · rw [le_antisymm (top w mem) (top' v hv)]

theorem Highest.ite {c : Prop} [Decidable c] {v : Int} {o : Option Int} (h : o = if c then some v else none) :
    Highest (if c then [v] else []) o := by
  subst h
  split
  · exact .inr ⟨v, rfl, List.mem_singleton_self v, by simp⟩
  · exact .inl ⟨rfl, rfl⟩

section
variable {s : State} {f : Fan}

/-- A fan after one evaluation (R140 to R144). -/
def evaluatedFan (f : Fan) (s : State) : FanState :=
  let c := s.fnc.curveOf f
  let x :=
    match s.ssc.mode with
    | .full => (s.fnc.fans.get f).readCurve c (curveTemp c.sources s)
    | .quiet => (s.fnc.fans.get f).quietCurve
  x.setDemand (demandOf (s.lmt.actionSet.contains .fanFull) s.ssc.mode x.curveDuty s.fnc.overrideDuty c.minDuty)

theorem evaluateFan_eq : evaluateFan f s = setFan f (evaluatedFan f s) s := rfl

theorem evaluatedFan_two_setFan_one (x : FanState) : evaluatedFan .two (setFan .one x s) = evaluatedFan .two s := rfl

section
variable {b : Bool} {full : Prop} [Decidable full] {curve duty least : Nat}

theorem demandOf_fullMode (hf : b = true ↔ full) (h : least ≤ 1000) : demandOf b .full curve duty least =
    if full then 1000 else if max curve duty = 0 then 0 else max (max curve duty) least := by
  unfold demandOf
  by_cases k : full
  · simp only [hf.2 k, k, if_true]
    exact max_eq_left h
  · simp only [hf, k, if_false]

theorem demandOf_quietMode (hf : b = true ↔ full) (h : least ≤ 1000) :
    demandOf b .quiet 0 duty least = if full then 1000 else 0 := by
  unfold demandOf
  by_cases k : full
  · simp only [hf.2 k, k, if_true]
    exact max_eq_left h
  · simp only [hf, k, if_false, if_true]

end

theorem channelSource_highest (named : Bool) (ch : Fin 16) :
    Highest (if named = true ∧ (s.sws.latest.get ch).valid = true ∧ (s.sws.latest.get ch).clamped = false then
      [(s.sws.latest.get ch).value] else []) (channelSource named ch s) := by
  refine .ite ?_
  unfold channelSource usableTemp
  cases named <;> cases (s.sws.latest.get ch).valid <;> cases (s.sws.latest.get ch).clamped <;> rfl

theorem hostSource_highest (named : Bool) (i : Fin 4) :
    Highest (if named = true ∧ (s.fnc.slots.get i).refreshed = true ∧ s.ssc.state ≠ .off ∧ s.ssc.state ≠ .standby then
      [(s.fnc.slots.get i).value] else []) (hostSource named i s) := by
  refine .ite ?_
  unfold hostSource slotUsable
  cases named <;> cases (s.fnc.slots.get i).refreshed <;> cases s.ssc.state <;> rfl

theorem exec_fanEvaluation (h : s.fnc.evalCountdown = 0) : exec .fanEvaluation s =
    .next { s with fnc := { s.fnc with evalCountdown := 100, fans := ⟨evaluatedFan .one s, evaluatedFan .two s⟩ } } :=
  if_pos h

end

/-- Settles O37: each fan is evaluated on the state as found, its governing temperature the highest of the usable sources. -/
theorem evaluationFormsEachDemand : Obligations.EvaluationFormsEachDemand := by
  intro s
  refine ⟨fun h => if_neg h, fun h ok => ⟨_, exec_fanEvaluation h, rfl, fun f => ?_⟩⟩
  intro c x channel host m usable full demand
  have least : c.minDuty ≤ 1000 := by
    cases f
    exacts [(ok _).1, (ok _).2]
  have curve : s.fnc.curveOf f = c := by
    simp only [c, Fnc.curveOf]
    cases s.fnc.set <;> rfl
  have governs : Highest usable (curveTemp m s) := by
    simp only [usable, channel, host, List.append_assoc]
    exact (channelSource_highest _ _).append ((channelSource_highest _ _).append ((channelSource_highest _ _).append
      ((hostSource_highest _ _).append ((hostSource_highest _ _).append ((hostSource_highest _ _).append
        (hostSource_highest _ _))))))
  have contains : s.lmt.actionSet.contains .fanFull = true ↔ full := by simp [full]
  have fan : PerFan.get ⟨evaluatedFan .one s, evaluatedFan .two s⟩ f = evaluatedFan f s := by cases f <;> rfl
  have inFull (hm : s.ssc.mode = .full) (o : Option Int) (ho : curveTemp m s = o) :
      evaluatedFan f s = (x.readCurve c o).setDemand (demand (x.readCurve c o).curveDuty) := by
    simp only [evaluatedFan, hm, curve, show curveTemp c.sources s = o from ho, demandOf_fullMode contains least]
    rfl
  refine ⟨fun hm none => ?_, fun hm v hv top => ?_, fun hm => ?_⟩
  · exact fan.trans (inFull hm _ (governs.none_iff none))
  · exact fan.trans (inFull hm _ (governs.eq_some hv top))
  · refine fan.trans ?_
    simp only [evaluatedFan, hm, curve, FanState.quietCurve, demandOf_quietMode contains least]
    rfl

end Sys2Proof.Machine

namespace Sys2Proof.Machine

/-! ## Charge timers and port timers (R38, R39, R71, R72) -/

section
variable {s : State} {p : Pack}

theorem tickState_charge (raw : SwitchLevels) : (tickState raw s).ppc.charge.get p = packTick s p := by
  cases p <;> rfl

theorem packTick_precharge (h : (s.ppc.charge.get p).phase = .precharge) : packTick s p =
    { s.ppc.charge.get p with
      preTimer := (s.ppc.charge.get p).preTimer + 1
      due := if 1800000 ≤ (s.ppc.charge.get p).preTimer + 1 then some .precharge else (s.ppc.charge.get p).due } := by
  simp only [packTick, chargeTick, h, preLimit, ge_iff_le]

theorem packTick_fast (h : (s.ppc.charge.get p).phase = .bulk ∨ (s.ppc.charge.get p).phase = .taper) :
    packTick s p = if 0 < (s.ppc.setpoints.get p).chargeI then
      { s.ppc.charge.get p with
        fastTimer := (s.ppc.charge.get p).fastTimer + 1
        due := if (s.ppc.charge.get p).fastLimit * 60000 ≤ (s.ppc.charge.get p).fastTimer + 1 then some .fast
          else (s.ppc.charge.get p).due }
      else s.ppc.charge.get p := by
  obtain h | h := h <;> simp only [packTick, chargeTick, h, gt_iff_lt, ge_iff_le]

theorem packTick_idle (h : (s.ppc.charge.get p).phase = .none ∨ (s.ppc.charge.get p).phase = .hold ∨
    (s.ppc.charge.get p).phase = .done) : packTick s p = s.ppc.charge.get p := by
  obtain h | h | h := h <;> simp only [packTick, chargeTick, h]

end

/-- Settles O23: the tick by the phase, the firing by the timer that is due and by whether the phase changes. -/
theorem chargeTimersCountAndFire : Obligations.ChargeTimersCountAndFire := by
  refine ⟨fun raw s t p ht => ?_, fun p s => ?_⟩
  · obtain rfl : tickState raw s = t := by simpa only [exec_tickExpiry, Host.Outcome.next.injEq] using ht
    intro c d
    have hd : d = packTick s p := tickState_charge raw
    rw [hd]
    refine ⟨packTick_precharge, fun h hi => ?_, fun h hi => ?_, packTick_idle⟩
    · rw [packTick_fast h, if_pos hi]
    · rw [packTick_fast h, hi]; rfl
  · intro c fired
    have exec_eq : exec (.chargeTimeout p) s = .next (fireTimeout p s) := rfl
    refine ⟨fun none => ?_, fun x due => ?_⟩
    · rw [exec_eq, fireTimeout, show (s.ppc.charge.get p).due = _ from none]
    have found (ph : Phase) (tc dc : Nat) : ((fired x ph tc dc).ppc.charge.get p) =
        { c with latch := some x, due := Option.none, phase := ph, taperCount := tc, doneCount := dc } := by
      cases p <;> rfl
    have fires : fireTimeout p s =
        setPhase p .hold (route .chargeTimeout (packNum p) x.num (fired x c.phase c.taperCount c.doneCount)) := by
      rw [fireTimeout, show (s.ppc.charge.get p).due = _ from due]
      rfl
    have routed : (route .chargeTimeout (packNum p) x.num (fired x c.phase c.taperCount c.doneCount)).ppc.charge.get p =
        { c with latch := some x, due := Option.none } := by
      rw [route_ppc]; exact found ..
    have kept (k : Int) (hk : (x.num : Int) = k) (h : c.phase = .hold) : exec (.chargeTimeout p) s =
        .next (route .chargeTimeout (packNum p) k (fired x .hold c.taperCount c.doneCount)) := by
      rw [exec_eq, fires, setPhase_of_eq (by rw [routed]; exact h), h, hk]
    have held (k : Int) (hk : (x.num : Int) = k) (h : c.phase ≠ .hold) : exec (.chargeTimeout p) s =
        .next (route .chargePhase (packNum p) 1
          (setCharge p { c with latch := some x, due := Option.none, phase := .hold, taperCount := 0, doneCount := 0 }
            (route .chargeTimeout (packNum p) k (fired x c.phase c.taperCount c.doneCount)))) := by
      rw [exec_eq, fires, setPhase_of_ne (by rw [routed]; exact h), routed, hk]
      rfl
    exact ⟨kept _ (by cases x <;> rfl), held _ (by cases x <;> rfl)⟩

/-- Settles O24: each timer's command by its timer and by the port's state. -/
theorem portTimersMoveThePort : Obligations.PortTimersMoveThePort := by
  intro p s x n
  refine ⟨fun h => if_pos h, fun h ha => (if_neg (by rw [h]; decide)).trans (if_pos ha),
    fun h => if_neg (mt timerDue_iff.1 h), fun h => if_pos (timerDue_iff.2 h),
    fun h => if_neg fun k => h (timerDue_iff.1 k.1), fun h ha => ?_, fun h hi => ?_,
    fun h => if_neg fun k => h (timerDue_iff.1 k.1), fun h hs => if_pos ⟨timerDue_iff.2 h, hs⟩⟩
  · refine (if_pos ⟨timerDue_iff.2 h, .inr ha⟩).trans ?_
    rw [show (s.ppt.ports.get p).silenced = _ from if_pos ha]
    rfl
  · refine (if_pos ⟨timerDue_iff.2 h, .inl hi⟩).trans ?_
    rw [show (s.ppt.ports.get p).silenced = _ from if_neg (by rw [show (s.ppt.ports.get p).state = _ from hi]; decide)]
    rfl

end Sys2Proof.Machine

namespace Sys2Proof.Machine

/-! ## The keyboard: passes and positions (R101 to R118) -/

section
variable {s : State} {p : Fin 144}

theorem scanPeriod_eq (st : SysState) :
    scanPeriod st = if st = .off then none else if st = .standby then some 8 else some 1 := by
  cases st <;> rfl

end

/-- Settles O32: a pass is made when due, and its first-pass mark tells which. -/
theorem scanPassTakesPositionsInOrder : Obligations.ScanPassTakesPositionsInOrder := by
  intro image s
  rw [← scanPeriod_eq]
  intro period due
  have made (h : due) : exec (.scanPass image) s = .next (scanMatrix image s) := if_pos ((Kms.passDue_iff _).2 h)
  refine ⟨fun h => if_neg (mt (Kms.passDue_iff _).1 h), fun h first => ⟨_, made h, ?_⟩, fun h later => (made h).trans ?_⟩
  · rw [scanMatrix, if_pos (by exact first)]
    refine ⟨rfl, rfl, fun p => ?_⟩
    dsimp only [firstPass]
    rw [Table.get_ofFn]
  · rw [scanMatrix, if_neg (by rw [show (State.kms _).firstPass = false from later]; decide)]
    rfl

section
variable {s t u : State} {p : Fin 144}

/-- No position but `p` is touched. -/
def OnlyAt (p : Fin 144) (s t : State) : Prop := ∀ q, q ≠ p → t.kms.positions.get q = s.kms.positions.get q

theorem setKey_onlyAt (r : PosRec) : OnlyAt p s (setKey p r s) := fun _ h => Table.get_set_ne _ _ h

theorem OnlyAt.of_positions (h : OnlyAt p s t) (k : u.kms.positions = t.kms.positions) : OnlyAt p s u :=
  fun q hq => by rw [k]; exact h q hq

theorem keyWake_onlyAt {code : Nat} (h : OnlyAt p s t) : OnlyAt p s (keyWake p code t) := by
  refine h.of_positions ?_
  unfold keyWake
  split
  · exact route_kms_positions ..
  · rfl

theorem pressDebounce_onlyAt (n : Nat) : OnlyAt p s (pressDebounce p n s) := by
  unfold pressDebounce
  split
  · unfold completePress
    split
    · exact setKey_onlyAt _
    · refine keyWake_onlyAt ?_
      unfold pressRecord
      split
      · exact setKey_onlyAt _
      · exact (setKey_onlyAt _).of_positions rfl
  · exact setKey_onlyAt _

theorem releaseDebounce_onlyAt (n : Nat) : OnlyAt p s (releaseDebounce p n s) := by
  unfold releaseDebounce
  split
  · unfold completeRelease
    dsimp only
    split
    · exact (setKey_onlyAt _).of_positions rfl
    · exact setKey_onlyAt _
  · exact setKey_onlyAt _

/-- One position's rule touches no other position. -/
theorem keyStep_onlyAt (raw : Bool) : OnlyAt p s (keyStep p raw s) := by
  unfold keyStep
  cases h : (s.kms.positions.get p).state <;> cases raw <;> simp only [h]
  case up.false | down.true | blocked.true => exact fun _ _ => rfl
  case up.true | pressDebounce.true => exact pressDebounce_onlyAt _
  case down.false | releaseDebounce.false => exact releaseDebounce_onlyAt _
  case releaseDebounce.true | pressDebounce.false | ghostHeld.false | blocked.false => exact setKey_onlyAt _
  case ghostHeld.true =>
    split
    · exact fun _ _ => rfl
    · exact setKey_onlyAt _

/-! ### Press and release debounce (R105, R106) -/

/-- One position's rule by its state, written out (R105, R106, R108, R111). -/
def keyRule (p : Fin 144) (raw : Bool) (count : Nat) (s : State) : KeyState → State
  | .up => if raw then pressDebounce p 1 s else s
  | .pressDebounce => if raw then pressDebounce p (count + 1) s else setKeyState p .up s
  | .down => if raw then s else releaseDebounce p 1 s
  | .releaseDebounce => if raw then setKeyState p .down s else releaseDebounce p (count + 1) s
  | .ghostHeld =>
    if raw then (if s.kms.possibleGhost p then s else setKeyState p .pressDebounce s) else setKeyState p .up s
  | .blocked => if raw then s else setKeyState p .up s

theorem keyStep_of_state {raw : Bool} {st : KeyState} (h : (s.kms.positions.get p).state = st) :
    keyStep p raw s = keyRule p raw (s.kms.positions.get p).count s st := by
  unfold keyStep
  dsimp only
  rw [h]
  cases st <;> cases raw <;> rfl

theorem keyStep_pressed (h : ((s.kms.positions.get p).state = .up ∧ s.kms.pressCount ≤ 1) ∨
    ((s.kms.positions.get p).state = .pressDebounce ∧ s.kms.pressCount ≤ (s.kms.positions.get p).count + 1)) :
    keyStep p true s = completePress p s := by
  obtain ⟨h, hn⟩ | ⟨h, hn⟩ := h
  · exact (keyStep_of_state h).trans (if_pos hn)
  · exact (keyStep_of_state h).trans (if_pos hn)

theorem keyStep_released (h : ((s.kms.positions.get p).state = .down ∧ s.kms.releaseCount ≤ 1) ∨
    ((s.kms.positions.get p).state = .releaseDebounce ∧ s.kms.releaseCount ≤ (s.kms.positions.get p).count + 1)) :
    keyStep p false s = completeRelease p s := by
  obtain ⟨h, hn⟩ | ⟨h, hn⟩ := h
  · exact (keyStep_of_state h).trans (if_pos hn)
  · exact (keyStep_of_state h).trans (if_pos hn)

/-! ### The ghost rule and the Fn layer (R107, R110) -/

theorem Kms.rectangle_iff {k : Kms} {row : Fin 8} {col : Fin 18} : k.rectangle p row col = true ↔
    row ≠ keyRow p ∧ col ≠ keyCol p ∧ (k.positions.get (keyAt row col)).state = .down ∧
      (k.positions.get (keyAt (keyRow p) col)).state = .down ∧ (k.positions.get (keyAt row (keyCol p))).state = .down ∧
      ¬ (k.translation.get p).isolated = true ∧ ¬ (k.translation.get (keyAt row col)).isolated = true ∧
      ¬ (k.translation.get (keyAt (keyRow p) col)).isolated = true ∧
      ¬ (k.translation.get (keyAt row (keyCol p))).isolated = true := by
  simp [Kms.rectangle, Kms.isDown, Kms.isolated, and_assoc]

theorem Kms.possibleGhost_iff {k : Kms} :
    k.possibleGhost p = true ↔ ∃ row col, k.rectangle p row col = true := by
  simp [Kms.possibleGhost]

theorem Kms.fnActive_setPos {k : Kms} {r : PosRec} (h : r.state = .down) : (k.setPos p r).fnActive = true ↔
    (k.translation.get p).fnKey = true ∨
      ∃ q, q ≠ p ∧ (k.positions.get q).state = .down ∧ (k.translation.get q).fnKey = true := by
  have each (q : Fin 144) : (k.setPos p r).isDown q = true ↔ q = p ∨ (k.positions.get q).state = .down := by
    simp only [Kms.isDown, Kms.setPos, Table.get_set, decide_eq_true_eq]
    split
    · next hq => exact iff_of_true h (.inl hq)
    · next hq => simp [hq]
  simp only [Kms.fnActive, List.any_eq_true, Bool.and_eq_true, each, List.mem_finRange, true_and]
  constructor
  · rintro ⟨q, hq, fn⟩
    by_cases e : q = p
    · exact .inl (e ▸ fn)
    · exact .inr ⟨q, e, hq.resolve_left e, fn⟩
  · rintro (fn | ⟨q, -, hq, fn⟩)
    exacts [⟨p, .inl rfl, fn⟩, ⟨q, .inr hq, fn⟩]

theorem Evr.accepts_iff {e : Evr} : e.accepts = true ↔ e.normalState = .opened ∧ e.normal.length < 32 := by
  unfold Evr.accepts
  cases e.normalState <;> simp

theorem keySilent_iff {e : KeyEntry} {code : Nat} : keySilent e code = true ↔ e.fnKey = true ∨ code = 0 := by
  simp [keySilent]

theorem keyCode_fn {e : KeyEntry} {fn : Bool} (h : fn = true) (he : e.fn ≠ 0) : keyCode e fn = (e.fn, .fn) := by
  simp [keyCode, h, he]

theorem keyCode_base {e : KeyEntry} {fn : Bool} (h : ¬ fn = true ∨ e.fn = 0) : keyCode e fn = (e.base, .base) := by
  refine if_neg fun k => ?_
  rw [Bool.and_eq_true, decide_eq_true_eq] at k
  exact h.elim (· k.1) k.2

end

/-- Settles O33: each clause is one branch of a position's rule. -/
theorem keysAreDebouncedAndReported : Obligations.KeysAreDebouncedAndReported := by
  intro p raw s t r k e put down shield ghost fn presses releases
  have isGhost : s.kms.possibleGhost p = true ↔ ghost := by
    simp only [Kms.possibleGhost_iff, Kms.rectangle_iff]
    rfl
  refine ⟨keyStep_onlyAt raw, fun hr hs => ?_, fun hr hs => ?_, fun hr hs hn => ?_, fun hr hs hn => ?_,
    fun hr hp ha => ?_, fun hr hp ha => ?_, fun hr hs => ?_, fun hr hs => ?_, fun hr hs hg => ?_, fun hr hs hg => ?_,
    fun hr hs hn => ?_, fun hr hs hn => ?_, fun hr hp hg => ?_, fun hr hp hg => ?_⟩ <;> subst hr
  · exact keyStep_of_state hs
  · obtain hs | hs | hs := hs <;> exact keyStep_of_state hs
  · exact (keyStep_of_state hs).trans (if_neg (Nat.not_le.2 hn))
  · exact (keyStep_of_state hs).trans (if_neg (Nat.not_le.2 hn))
  · refine (keyStep_released hp).trans (if_neg ?_)
    rw [show (s.kms.positions.get p).announced = false from ha]; decide
  · exact (keyStep_released hp).trans (if_pos ha)
  · obtain hs | hs := hs <;> exact keyStep_of_state hs
  · exact keyStep_of_state hs
  · exact (keyStep_of_state hs).trans (if_pos (isGhost.2 hg))
  · exact (keyStep_of_state hs).trans (if_neg (mt isGhost.1 hg))
  · exact (keyStep_of_state hs).trans (if_neg (Nat.not_le.2 hn))
  · exact (keyStep_of_state hs).trans (if_neg (Nat.not_le.2 hn))
  · exact (keyStep_pressed hp).trans (if_pos (isGhost.2 hg))
  · have ht : t = confirmPress p s := (keyStep_pressed hp).trans (if_neg (mt isGhost.1 hg))
    let d := k.setPos p { r with state := .down, count := 0 }
    have layerOn : d.fnActive = true ↔ fn := Kms.fnActive_setPos rfl
    let c := keyCode e d.fnActive
    have press : pressRecord p (confirmedRecord p s.kms) s =
        if keySilent e c.1 = true then put ⟨.down, 0, c.1, c.2, keySilent e c.1, false⟩
        else placeKey ⟨p, c.1, false, c.2, false, s.tmb.ms⟩
          (put ⟨.down, 0, c.1, c.2, keySilent e c.1, s.evr.accepts⟩) := rfl
    have frame : (pressRecord p (confirmedRecord p s.kms) s).ssc = s.ssc ∧
        (pressRecord p (confirmedRecord p s.kms) s).kms.translation = s.kms.translation := by
      rw [press]; split <;> exact ⟨rfl, rfl⟩
    obtain ⟨ssc, entries⟩ := frame
    refine ⟨c.1, c.2, keySilent e c.1, !keySilent e c.1 && s.evr.accepts, _, fun h he => ?_, fun h => ?_, keySilent_iff,
      ?_, fun h => ?_, fun h => ?_, fun h1 h2 => ht.trans (if_pos ?_), fun h => ht.trans (if_neg ?_)⟩
    · simp only [c, keyCode_fn (layerOn.2 h) he, and_self]
    · simp only [c, keyCode_base (h.imp_left (mt layerOn.1)), and_self]
    · rw [Bool.and_eq_true, Bool.not_eq_true', Evr.accepts_iff]
    · rw [press, if_pos h, h]; rfl
    · rw [press, if_neg (by rw [h]; decide), h]; rfl
    · rw [ssc, entries]; exact ⟨h1, h2⟩
    · rw [ssc, entries]
      rintro ⟨h1, h2⟩
      obtain h | h := h
      · exact h h1
      · rw [h2] at h; cases h

end Sys2Proof.Machine

namespace Sys2Proof.Machine

/-! ## The switch inputs (R124 to R131) -/

section
variable {s : State}

theorem tickState_input (raw : SwitchLevels) (i : SwitchInput) :
    (tickState raw s).swi.input i = (s.swi.input i).sample (SwitchLevels.of raw i) := by
  cases i <;> rfl

theorem Input.sample_taken {x : Input} {l r : Bool} (hd : x.due = false) (hl : x.level = some l) :
    x.sample r = x.sampleTaken l r := by
  rw [Input.sample, hd, hl]; rfl

theorem Input.sample_untaken {x : Input} {r : Bool} (hd : x.due = false) (hl : x.level = none) :
    x.sample r = x.sampleUntaken r := by
  rw [Input.sample, hd, hl]; rfl

@[simp] theorem decideBattery_swi : (decideBattery s).swi = s.swi := by
  have low (u : State) : (decideLow u).swi = u.swi := by
    unfold decideLow
    split
    · split
      · rfl
      · exact route_swi ..
    · rfl
  have critical (u : State) : (decideCritical u).swi = u.swi := by
    unfold decideCritical
    split
    · split
      · rfl
      · exact route_swi ..
    · split <;> rfl
  exact (critical _).trans (low _)

@[simp] theorem repath_swi : (repath s).swi = s.swi := decideBattery_swi

theorem repath_bay : (repath s).ppc.bay = s.ppc.bay := by rw [repath, decideBattery_ppc]; rfl

theorem firstLatch_eq : firstLatch s = repath (if s.swi.baylatch.level = some false ∧ s.ppc.bay.pending = false
    then { s with ppc := { s.ppc with bay := { s.ppc.bay with state := .latched } } } else s) := by
  unfold firstLatch
  split <;> rfl

theorem firstGate_gated (h : gateOf s.swi.lid.level s.swi.hinge.level = true) : firstGate s = s := if_pos h

theorem firstGate_free (h : gateOf s.swi.lid.level s.swi.hinge.level = false) : firstGate s =
    { s with kms := if s.ssc.state = .off then { s.kms with gated := false }
      else { s.kms with gated := false, countdown := some 1, firstPass := true } } := by
  unfold firstGate
  rw [if_neg (by rw [h]; decide)]
  unfold gateLifted
  split <;> rfl

theorem selectCurves_set : (selectCurves s).fnc.set = curveSetOf s.swi.lid.level s.swi.hinge.level := by
  unfold selectCurves Fnc.select
  dsimp only
  split
  · next h => exact h.symm
  · rfl

end

/-- Settles O34: the sample by due mark and level, the take by what it hands on. -/
theorem switchSamplesLeadToALevel : Obligations.SwitchSamplesLeadToALevel := by
  refine ⟨fun raw s t i ht => ?_, fun i s => ?_⟩
  · obtain rfl : tickState raw s = t := by simpa only [exec_tickExpiry, Host.Outcome.next.injEq] using ht
    intro x y r
    have hy : y = x.sample r := tickState_input raw i
    refine ⟨fun h => hy.trans (if_pos h), fun l hd hl => ?_, fun hd hl => ?_⟩
    · have sampled := hy.trans (Input.sample_taken hd hl)
      exact ⟨fun h => sampled.trans (if_pos h), fun h => sampled.trans (if_neg h)⟩
    · have sampled := hy.trans (Input.sample_untaken hd hl)
      exact ⟨fun h => sampled.trans (if_pos h), fun h => sampled.trans (if_neg h)⟩
  · intro x taken
    refine ⟨fun h => if_neg fun k => h.elim (fun hd => Bool.false_ne_true (hd.symm.trans k.1)) (· k.2), fun hd hl => ?_⟩
    have made : exec (.initialTake i) s = .next (handInitial i taken) := if_pos ⟨hd, hl⟩
    have swi : (handInitial i taken).swi = taken.swi := by
      cases i with
      | pwrbtn => rfl
      | baylatch => rw [handInitial, firstLatch_eq, repath_swi]; split <;> rfl
      | lid | hinge =>
        change (firstGate taken).swi = _
        unfold firstGate gateLifted
        repeat' split
        all_goals rfl
    refine ⟨_, made, swi, ?_, ?_, ?_⟩
    · rintro rfl; rfl
    · rintro rfl
      have latch : taken.swi.baylatch.level = x.reference := rfl
      have bay : taken.ppc.bay = s.ppc.bay := rfl
      rw [handInitial, firstLatch_eq, repath_bay, latch, bay]
      refine ⟨by split <;> rfl, repath_settles (l := .paths) (.inl rfl), ?_⟩
      exact SameTally.after (c := .bayRelease) (repath_sameTally rfl) (by split <;> rfl)
    · intro hi
      have hands : handInitial i taken = selectCurves (firstGate taken) := by obtain rfl | rfl := hi <;> rfl
      rw [hands] at swi ⊢
      have set := selectCurves_set (s := firstGate taken)
      rw [show (firstGate taken).swi = taken.swi from swi] at set
      cases hg : gateOf taken.swi.lid.level taken.swi.hinge.level with
      | true =>
        rw [firstGate_gated hg] at set ⊢
        exact ⟨rfl, set, rfl, rfl, fun _ => rfl, nofun⟩
      | false =>
        rw [firstGate_free hg] at set ⊢
        have off : taken.ssc.state = s.ssc.state := rfl
        refine ⟨rfl, set, ?_, ?_, nofun, fun _ => ⟨?_, fun h => ?_⟩⟩ <;> dsimp only [selectCurves]
        · split <;> rfl
        · split <;> rfl
        · split <;> rfl
        · rw [if_neg (by rwa [off])]
          exact ⟨rfl, rfl⟩

end Sys2Proof.Machine

namespace Sys2Proof.Machine

/-! ## The power button's hold (R130, R131) -/

section
variable {s : State}

/-- The synthetic RELEASE records of a stop, written out (R117). -/
theorem stopRecords_eq {k : Kms} {now : Stamp} : k.stopRecords now =
    ((List.finRange 144).filter fun p => decide (((k.positions.get p).state = .down ∨
      (k.positions.get p).state = .releaseDebounce) ∧ (k.positions.get p).announced = true)).map fun p =>
        ⟨p, (k.positions.get p).code, true, (k.positions.get p).layer, true, now⟩ := by
  unfold Kms.stopRecords
  refine congrArg (List.map _) (List.filter_congr fun p _ => ?_)
  rw [Bool.eq_iff_iff, decide_eq_true_eq, stopReleases_iff]

theorem placeKeys_urgent (rs : List KeyRecord) (e : Evr) : (placeKeys rs e).urgent = e.urgent := by
  induction rs generalizing e with
  | nil => rfl
  | cons r rs ih => exact (ih _).trans (Evr.placeNormal_urgent e _)

/-- The two events of a forcing are recorded in OFF, where neither moves anything (R160, R170). -/
theorem forceOff_records (legal : PolicyLegal s.evr) (cause : ForceCause) :
    route .stateChange 0 0 (route .forcedOff 0 cause.num (driveState .off s)) =
      record .stateChange 0 0 false (record .forcedOff 0 cause.num false (driveState .off s)) := by
  have legal' : PolicyLegal (record .forcedOff 0 cause.num false (driveState .off s)).evr := by
    simpa only [PolicyLegal, record, driveState_evr, Evr.take_policy] using legal
  rw [route_in_off (s := driveState .off s) (c := .forcedOff) 0 _ rfl (legal.policyOf_start rfl)]
  exact route_in_off 0 _ rfl (legal'.policyOf_start rfl)

/-- EVR after a forcing: the two events, then the synthetic RELEASE records (R117, R152). -/
theorem forceOff_evr (cause : ForceCause) (hs : s.ssc.state ≠ .off) (legal : PolicyLegal s.evr) :
    (forceOff cause s).evr = placeKeys (s.kms.stopRecords s.tmb.ms)
      (route .stateChange 0 0 (route .forcedOff 0 cause.num (driveState .off s))).evr := by
  rw [forceOff_eq cause hs legal, forceOff_records legal, moveMode_evr]
  rfl

theorem forceOff_urgent (cause : ForceCause) (hs : s.ssc.state ≠ .off) (legal : PolicyLegal s.evr)
    (hf : (s.evr.policy.get EventCode.forcedOff.idx).cls = .urgent)
    (hc : (s.evr.policy.get EventCode.stateChange.idx).cls = .urgent)
    (fresh : ∀ r ∈ s.evr.urgent, r.code ≠ .forcedOff ∧ r.code ≠ .stateChange) :
    (forceOff cause s).evr.urgent = s.evr.urgent ++
      [⟨.forcedOff, 0, 1, (s.evr.policy.get EventCode.forcedOff.idx).wake, false, false, s.tmb.ms, cause.num⟩,
        ⟨.stateChange, 0, 1, (s.evr.policy.get EventCode.stateChange.idx).wake, false, false, s.tmb.ms, 0⟩] := by
  rw [forceOff_evr cause hs legal, placeKeys_urgent, forceOff_records legal]
  have first : s.evr.take .forcedOff 0 cause.num false s.tmb.ms = _ := Evr.take_urgent_new hf fun x hx => (fresh x hx).1
  have startF : (s.evr.policyOf .forcedOff).start = false := legal.policyOf_start rfl
  have startC : (s.evr.policyOf .stateChange).start = false := legal.policyOf_start rfl
  change ((s.evr.take .forcedOff 0 cause.num false s.tmb.ms).take .stateChange 0 0 false s.tmb.ms).urgent = _
  rw [Evr.take_urgent_new (by rw [Evr.policyOf, Evr.take_policy]; exact hc), first]
  · simp only [Evr.addTally, Evr.occurrence, List.append_assoc, List.cons_append, List.nil_append, startF]
    simp only [Evr.policyOf, reduceCtorEq, if_false] at startC ⊢
    rw [startC]
  · rw [first]
    intro x hx
    obtain hx | hx := List.mem_append.1 hx
    · exact (fresh x hx).2
    · rw [List.mem_singleton.1 hx]; nofun

end

/-- Settles O36: the hold's stages, and the forcing with its records. -/
theorem powerButtonHoldsAreReportedAndForceOff : Obligations.PowerButtonHoldsAreReportedAndForceOff := by
  refine ⟨fun raw s t ht => ?_, fun s => ?_⟩
  · obtain rfl : tickState raw s = t := by simpa only [exec_tickExpiry, Host.Outcome.next.injEq] using ht
    exact ⟨rfl, rfl, rfl⟩
  intro spent
  have expires (hs : s.swi.holdStage = .reported) (hc : 10000 ≤ s.swi.holdCount) :
      exec .hold10sExpiry s = .next (forceOff .button spent) := if_pos ⟨hs, hc⟩
  refine ⟨fun h => if_neg fun k => h.elim (· k.1) (Nat.not_lt.2 k.2), fun hs hc => if_pos ⟨hs, hc⟩,
    fun h => if_neg fun k => h.elim (· k.1) (Nat.not_lt.2 k.2), fun hs hc => ⟨fun off => ?_, fun on legal => ?_⟩⟩
  · exact (expires hs hc).trans (congrArg Host.Outcome.next (if_pos off))
  · intro held releases off forced changed
    obtain ⟨entered, tallied⟩ := forceOff_enters .button (s := spent) on legal
    refine ⟨_, expires hs hc, entered, tallied, ?_, forceOff_urgent .button (s := spent) on legal⟩
    rw [forceOff_evr .button (s := spent) on legal, stopRecords_eq]
    rfl

end Sys2Proof.Machine

namespace Sys2Proof.Machine

/-! ## The timers of the system state (R158, R159, R163) -/

section
variable {s : State}

theorem record_tallied (c : EventCode) (n : Nat) (v : Int) (a : Bool) : Tallied c s (record c n v a s) := by
  rw [Tallied, record_tally, Table.get_set_self, sat255_eq_min]

theorem record_sameTally {c d : EventCode} (n : Nat) (v : Int) (a : Bool) (h : d ≠ c := by decide) :
    SameTally d s (record c n v a s) := Evr.take_tally_ne _ h _ _ _ _

/-- In STANDBY an event without WAKE is tallied and placed, and nothing moves (R155). -/
theorem route_in_standby {c : EventCode} (n : Nat) (v : Int) (hs : s.ssc.state = .standby)
    (hw : (s.evr.policyOf c).wake = false) : route c n v s = record c n v false s := by
  refine route_acts_not fun h => ?_
  obtain ⟨-, ⟨off, -⟩ | ⟨-, wake⟩⟩ := sscActs_iff.1 h
  · rw [hs] at off; cases off
  · rw [hw] at wake; cases wake

theorem offEvents_slc (named : Option (EventCode × Int)) : (offEvents named s).slc = s.slc := by cases named <;> rfl

theorem offEvents_ssc (named : Option (EventCode × Int)) :
    (offEvents named s).ssc = { s.ssc with state := .off, sysen := false, wake := false } := by cases named <;> rfl

theorem offEvents_ppc (named : Option (EventCode × Int)) : (offEvents named s).ppc = s.ppc := by cases named <;> rfl

theorem moveState_off_evr {named : Option (EventCode × Int)} (legal : PolicyLegal s.evr)
    (hg : ∀ x ∈ named, x.1.mayStart = false) :
    (moveState .off named s).evr.tally = (offEvents named s).evr.tally := by
  rw [moveState_off named legal hg, moveMode_evr]
  exact placeKeys_tally _ _

theorem offEvents_tallied {named : Option (EventCode × Int)} (hn : ∀ x ∈ named, x.1 ≠ .stateChange) :
    Tallied .stateChange s (offEvents named s) := by
  cases named with
  | none => exact record_tallied .stateChange 0 0 false
  | some x =>
    exact SameTally.tallied (t := record x.1 0 x.2 false (driveState .off s))
      (record_sameTally (s := driveState .off s) 0 x.2 false (hn x rfl).symm) (record_tallied .stateChange 0 0 false)

/-- A move into OFF enters OFF (R152, R153, R165). -/
theorem moveState_off_enters {named : Option (EventCode × Int)} (legal : PolicyLegal s.evr)
    (hg : ∀ x ∈ named, x.1.mayStart = false ∧ x.1 ≠ .stateChange) : OffEntered s (moveState .off named s) := by
  have start : ∀ x ∈ named, x.1.mayStart = false := fun x hx => (hg x hx).1
  have stateChange : Tallied .stateChange s (moveState .off named s) := by
    rw [Tallied, moveState_off_evr legal start]
    exact offEvents_tallied fun x hx => (hg x hx).2
  refine ⟨?_, ?_, ?_, moveState_lmt .., moveState_ppt .., moveState_ppc .., moveState_swi .., moveState_pending ..,
    moveState_tmb_ms .., stateChange⟩ <;> rw [moveState_off named legal start]
  · rw [moveMode_off_ssc, offEntry_ppc, stopKeys_ppc, offEvents_ppc, offEntry, stopKeys_ssc, offEvents_ssc]
  · rw [moveMode_kms, offEntry_kms, stopKeys, (offEvents_kms named).1]
  · rw [moveMode_slc, offEntry, stopKeys_slc, offEvents_slc]

/-- WAKING falls back to STANDBY, two events recorded (R159). -/
theorem moveState_standby_records {c : EventCode} {v : Int} (hs : s.ssc.state ≠ .off)
    (hc : (s.evr.policyOf c).wake = false) (hm : (s.evr.policyOf .stateChange).wake = false) :
    moveState .standby (some (c, v)) s =
      record .stateChange 0 4 false (record c 0 v false (driveState .standby s)) := by
  rw [moveState_awake _ hs (by decide) (by decide)]
  dsimp only
  rw [route_in_standby (s := driveState .standby s) 0 v rfl hc]
  refine route_in_standby 0 _ rfl ?_
  rw [record, Evr.policyOf, Evr.take_policy]
  exact hm

end

/-- Settles O44: each timer's move by its moves' own lemmas. -/
theorem systemTimersMoveTheState : Obligations.SystemTimersMoveTheState := by
  intro s
  have notDue {st : SysState} {timer : Timer} (h : s.ssc.state ≠ st ∨ timer ≠ some 0) :
      ¬ (s.ssc.state = st ∧ timerDue timer = true) := fun k => h.elim (· k.1) (· (timerDue_iff.1 k.2))
  refine ⟨fun h => if_neg (notDue h), fun hs due legal => ?_, fun h => if_neg (notDue h), fun hs due legal => ?_,
    fun h => if_neg (mt timerDue_iff.1 h), fun due off => ?_, fun due on legal => ?_, fun h => if_neg (notDue h),
    fun hs due hw hm => ?_⟩
  · have named : ∀ x ∈ some (EventCode.bootTimeout, (0 : Int)), x.1.mayStart = false ∧ x.1 ≠ .stateChange := by
      rintro x ⟨⟩; exact ⟨rfl, by decide⟩
    refine ⟨_, if_pos ⟨hs, timerDue_iff.2 due⟩, moveState_off_enters legal named, ?_⟩
    rw [Tallied, moveState_off_evr legal fun x hx => (named x hx).1]
    exact Tallied.same (record_tallied (s := driveState .off s) .bootTimeout 0 0 false) (record_sameTally 0 0 false)
  · have none : ∀ x ∈ (Option.none : Option (EventCode × Int)), x.1.mayStart = false ∧ x.1 ≠ .stateChange := fun _ h => by
      cases h
    refine ⟨_, if_pos ⟨hs, timerDue_iff.2 due⟩, moveState_off_enters legal none, ?_⟩
    rw [moveState_off_evr legal fun x hx => (none x hx).1]
    exact record_sameTally (s := driveState .off s) (d := .forcedOff) 0 0 false
  · exact (if_pos (timerDue_iff.2 due)).trans (congrArg Host.Outcome.next (if_pos off))
  · obtain ⟨entered, tallied⟩ := forceOff_enters .critical
      (s := { s with ssc := { s.ssc with graceTimer := none } }) on legal
    refine ⟨_, if_pos (timerDue_iff.2 due), entered, tallied, ?_⟩
    rw [entered.1]
  · have move := moveState_standby_records (c := .wakeTimeout) (v := 0)
      (s := { s with ssc := { s.ssc with wakeTimer := none } }) (by simp [hs]) hw hm
    refine ⟨_, if_pos ⟨hs, timerDue_iff.2 due⟩, ?_⟩
    rw [move]
    refine ⟨rfl, rfl, ?_, ?_⟩
    · exact Tallied.same (record_tallied (s := driveState .standby { s with ssc := { s.ssc with wakeTimer := none } })
        .wakeTimeout 0 0 false) (record_sameTally 0 4 false)
    · exact SameTally.tallied (record_sameTally (s := driveState .standby { s with ssc := { s.ssc with wakeTimer := none } })
        (c := .wakeTimeout) 0 0 false) (record_tallied .stateChange 0 4 false)

end Sys2Proof.Machine

namespace Sys2Proof.Machine

/-! ## The host moves the system state (R156 to R158) -/

section
variable {s : State} {num tag : Nat} {args : List Byte} {owner : List Byte → State → Answer} {c : Instr}

/-- A request in its turn leaves what its owner answers (R184). -/
theorem exec_at_head (run : exec c s = .next (runRequest num owner s)) (head : RequestAtHead s num args tag) :
    exec c s = .next (answerWith tag (owner args (popRequest s))) := by
  rw [run, runRequest_at_head head]

/-- A request refused by its owner (R184). -/
theorem exec_refused {code : ResultCode} (run : exec c s = .next (runRequest num owner s))
    (head : RequestAtHead s num args tag) (h : owner args (popRequest s) = refuse code (popRequest s)) :
    exec c s = .next (answered tag code [] s) := exec_answered (u := s) run head h

theorem putFlags_two (a b : Bool) : putFlags [a, b] = [BitVec.ofNat 8 (a.toNat + 2 * b.toNat)] := by
  cases a <;> cases b <;> rfl

theorem onlineBytes_eq (x : Ssc) : onlineBytes x =
    [BitVec.ofNat 8 x.state.num, BitVec.ofNat 8 x.startCause.num, BitVec.ofNat 8 x.wakeCause,
      BitVec.ofNat 8 x.mode.num, BitVec.ofNat 8 (x.low.toNat + 2 * x.critical.toNat)] := by
  rw [onlineBytes, putFlags_two]; rfl

theorem ne_nil_length {α : Type} {l : List α} (h : l ≠ []) : l.length ≠ 0 := mt List.length_eq_zero_iff.1 h

theorem onlineRequest_notNow (h : s.ssc.state = .off ∨ s.ssc.state = .halting ∨ s.ssc.state = .standby) :
    onlineRequest [] s = refuse .notNow s := by
  obtain h | h | h := h <;> simp [onlineRequest, h]

theorem onlineRequest_run (h : s.ssc.state = .run) : onlineRequest [] s = accept s (onlineBytes s.ssc) := by
  simp [onlineRequest, h]

theorem onlineRequest_moves (h : s.ssc.state = .booting ∨ s.ssc.state = .waking) :
    onlineRequest [] s = accept (goOnline s) (onlineBytes (goOnline s).ssc) := by
  obtain h | h := h <;> simp [onlineRequest, h]

theorem powerOffRequest_notNow (h : s.ssc.state = .off ∨ s.ssc.state = .halting ∨ s.ssc.state = .standby) :
    powerOffRequest [] s = refuse .notNow s := by
  obtain h | h | h := h <;> simp [powerOffRequest, h]

theorem powerOffRequest_moves (h : s.ssc.state = .run ∨ s.ssc.state = .booting ∨ s.ssc.state = .waking) :
    powerOffRequest [] s = accept (goHalting s) (put1 (goHalting s).ssc.state.num) := by
  obtain h | h | h := h <;> simp [powerOffRequest, h]

/-- RUN to STANDBY where the policy does not wake the system by its own STATE_CHANGE (R157; log 16). -/
theorem moveState_sleep (hs : s.ssc.state = .run) (hm : (s.evr.policyOf .stateChange).wake = false) :
    moveState .standby none s = record .stateChange 0 4 false (driveState .standby s) := by
  rw [moveState_awake_none (by rw [hs]; decide) (by decide) (by decide)]
  exact route_in_standby 0 _ rfl hm

end

/-- Settles O45: each request's answer, and the move that an accepted one makes. -/
theorem hostMovesTheSystemState : Obligations.HostMovesTheSystemState := by
  intro s tag
  refine ⟨onlineBytes_eq, fun args ha => ⟨fun head => ?_, fun head => ?_, fun head => ?_⟩,
    fun head => ⟨fun h => ?_, fun h => ?_, fun h => ?_⟩, fun head => ⟨fun h => ?_, fun h hm => ?_⟩,
    fun head => ⟨fun h => ?_, fun h => ?_⟩⟩
  · exact exec_refused (owner := onlineRequest) rfl head (if_pos (ne_nil_length ha))
  · exact exec_refused (owner := sleepRequest) rfl head (if_pos (ne_nil_length ha))
  · exact exec_refused (owner := powerOffRequest) rfl head (if_pos (ne_nil_length ha))
  · exact exec_refused rfl head (onlineRequest_notNow (s := popRequest s) h)
  · exact exec_answered rfl head (onlineRequest_run (s := popRequest s) h)
  · have awake : (popRequest s).ssc.state ≠ .off := by
      change s.ssc.state ≠ .off
      obtain h | h := h <;> rw [h] <;> decide
    refine ⟨_, exec_at_head rfl head, ?_⟩
    rw [onlineRequest_moves (s := popRequest s) h, goOnline_eq awake]
    exact ⟨rfl, rfl, rfl, record_tallied .stateChange 0 SysState.run.num false⟩
  · refine exec_refused (owner := sleepRequest) rfl head ?_
    exact (if_neg (by simp)).trans (if_neg h)
  · have sleeps : sleepRequest [] (popRequest s) = ⟨moveState .standby none (popRequest s), .ok,
        put1 (moveState .standby none (popRequest s)).ssc.state.num, true⟩ := (if_neg (by simp)).trans (if_pos h)
    refine ⟨_, exec_at_head (owner := sleepRequest) rfl head, ?_⟩
    rw [sleeps, moveState_sleep (s := popRequest s) h hm]
    exact ⟨rfl, rfl, rfl, record_tallied .stateChange 0 4 false⟩
  · exact exec_refused rfl head (powerOffRequest_notNow (s := popRequest s) h)
  · have awake : (popRequest s).ssc.state ≠ .off := by
      change s.ssc.state ≠ .off
      obtain h | h | h := h <;> rw [h] <;> decide
    refine ⟨_, exec_at_head rfl head, ?_⟩
    rw [powerOffRequest_moves (s := popRequest s) h, goHalting_eq awake]
    exact ⟨rfl, rfl, rfl, record_tallied .stateChange 0 SysState.halting.num false⟩

end Sys2Proof.Machine

namespace Sys2Proof.Machine

/-! ## Fields as they travel (R183) -/

section

/-- A 2-byte field, high byte first in two's complement. -/
theorem put2_eq (v : Int) : put2 v = [BitVec.ofInt 8 (v / 256), BitVec.ofInt 8 v] := by
  have hi : (BitVec.ofInt 16 v >>> 8).setWidth 8 = BitVec.ofInt 8 (v / 256) := by
    apply BitVec.eq_of_toNat_eq
    simp only [BitVec.toNat_setWidth, BitVec.toNat_ushiftRight, BitVec.toNat_ofInt, Nat.shiftRight_eq_div_pow]
    omega
  have lo : (BitVec.ofInt 16 v).setWidth 8 = BitVec.ofInt 8 v := by
    apply BitVec.eq_of_toNat_eq
    simp only [BitVec.toNat_setWidth, BitVec.toNat_ofInt]
    omega
  rw [put2, hi, lo]

/-- A byte of a 4-byte field: the field shifted by whole bytes. -/
theorem ofInt_shift (v : Int) (k : Nat) (hk : k = 0 ∨ k = 8 ∨ k = 16 ∨ k = 24) :
    (BitVec.ofInt 32 v >>> k).setWidth 8 = BitVec.ofInt 8 (v / (2 ^ k : Nat)) := by
  apply BitVec.eq_of_toNat_eq
  simp only [BitVec.toNat_setWidth, BitVec.toNat_ushiftRight, BitVec.toNat_ofInt, Nat.shiftRight_eq_div_pow]
  obtain rfl | rfl | rfl | rfl := hk <;> norm_num <;> omega

/-- A 4-byte field, high byte first in two's complement. -/
theorem put4_eq (v : Int) : put4 v =
    [BitVec.ofInt 8 (v / 16777216), BitVec.ofInt 8 (v / 65536), BitVec.ofInt 8 (v / 256), BitVec.ofInt 8 v] := by
  have h24 := ofInt_shift v 24 (by decide)
  have h16 := ofInt_shift v 16 (by decide)
  have h8 := ofInt_shift v 8 (by decide)
  have h0 := ofInt_shift v 0 (by decide)
  norm_num at h24 h16 h8 h0
  rw [put4, h24, h16, h8, h0]

/-- A 4-byte field of a natural number. -/
theorem put4_nat (n : Nat) : put4 (n : Int) =
    [BitVec.ofNat 8 (n / 16777216), BitVec.ofNat 8 (n / 65536), BitVec.ofNat 8 (n / 256), BitVec.ofNat 8 n] := by
  rw [put4_eq]
  simp only [← BitVec.ofInt_natCast]
  push_cast
  rfl

theorem putFlags_eq (fs : List Bool) : putFlags fs = [BitVec.ofNat 8 (flagSet fs)] := rfl

theorem eventBytes_eq (r : EventRecord) : eventBytes r =
    [BitVec.ofNat 8 r.code.num, BitVec.ofNat 8 r.source, BitVec.ofNat 8 r.count,
      BitVec.ofNat 8 (r.wake.toNat + 2 * r.start.toNat + 4 * r.acted.toNat),
      BitVec.ofNat 8 (r.stamp.toNat / 16777216), BitVec.ofNat 8 (r.stamp.toNat / 65536),
      BitVec.ofNat 8 (r.stamp.toNat / 256), BitVec.ofNat 8 r.stamp.toNat,
      BitVec.ofInt 8 (r.value / 16777216), BitVec.ofInt 8 (r.value / 65536), BitVec.ofInt 8 (r.value / 256),
      BitVec.ofInt 8 r.value] := by
  have flags : flagSet [r.wake, r.start, r.acted] = r.wake.toNat + 2 * r.start.toNat + 4 * r.acted.toNat := by
    simp only [flagSet]; omega
  rw [eventBytes, putStamp, put4_nat, put4_eq, putFlags_eq, flags]
  rfl

theorem keyBytes_eq (k : KeyRecord) : keyBytes k =
    [BitVec.ofNat 8 k.position.val, BitVec.ofNat 8 k.code,
      BitVec.ofNat 8 (k.release.toNat + 2 * (decide (k.layer = .fn)).toNat + 4 * k.synthetic.toNat),
      BitVec.ofNat 8 (k.stamp.toNat / 16777216), BitVec.ofNat 8 (k.stamp.toNat / 65536),
      BitVec.ofNat 8 (k.stamp.toNat / 256), BitVec.ofNat 8 k.stamp.toNat] := by
  have flags : flagSet [k.release, decide (k.layer = .fn), k.synthetic] =
      k.release.toNat + 2 * (decide (k.layer = .fn)).toNat + 4 * k.synthetic.toNat := by
    simp only [flagSet]; omega
  rw [keyBytes, putStamp, put4_nat, putFlags_eq, flags]
  rfl

end

/-! ## The transmitter (R174, R176, R177, R187) -/

section
variable {s : State}

theorem Evr.gapDue_iff {e : Evr} (hn : e.normal ≠ []) :
    e.gapDue = true ↔ e.normalState = .overflowed ∧ e.normal.length ≤ 17 := by
  have := List.length_pos_of_ne_nil hn
  simp only [Evr.gapDue, Bool.and_eq_true, decide_eq_true_eq, List.length_tail]
  exact and_congr_right' (by omega)

theorem sendNormal_plain {r : NormalRecord} (hn : s.evr.normal ≠ [])
    (h : s.evr.normalState = .opened ∨ 17 < s.evr.normal.length) : sendNormal r s =
      setTx (some ⟨.normal, [normalFrame r]⟩) { s with evr := { s.evr with normal := s.evr.normal.tail } } := by
  have no : s.evr.gapDue = false := by
    rw [Bool.eq_false_iff, Ne, Evr.gapDue_iff hn]
    rintro ⟨lost, len⟩
    obtain h | h := h
    · rw [lost] at h; cases h
    · omega
  simp only [sendNormal, Evr.afterNormalTake, no, Bool.false_eq_true, if_false, Bool.false_and]

theorem sendNormal_gap {r : NormalRecord} (hn : s.evr.normal ≠ []) (h : s.evr.normalState = .overflowed)
    (len : s.evr.normal.length ≤ 17) : sendNormal r s =
      setTx (some ⟨.normal, [normalFrame r]⟩) { s with
        evr := { s.evr.addTally .gap with
          normal := s.evr.normal.tail ++ [.event (gapRecord s.evr s.tmb.ms)]
          normalState := .opened
          discarded := 0
          keyMark := false }
        kms := if s.evr.keyMark = true then s.kms.unannounced else s.kms } := by
  have yes : s.evr.gapDue = true := (Evr.gapDue_iff hn).2 ⟨h, len⟩
  simp only [sendNormal, Evr.afterNormalTake, yes, if_true, Bool.true_and]

theorem gapRecord_eq {e : Evr} {now : Stamp} : gapRecord e now =
    ⟨.gap, 0, 1, false, false, false, now, e.discarded + (if e.keyMark = true then 256 else 0)⟩ := by
  unfold gapRecord
  cases e.keyMark <;> rfl

/-- A rotation takes the slots one after another from its position on (R177). -/
theorem bulkPick_of {e : Evr} {i : Nat} {b : BulkSlot} {bs : List Byte}
    (hb : [e.rotation, e.rotation.next, e.rotation.next.next][i]? = some b) (full : e.bulk b = some bs)
    (before : ∀ (j : Nat) (d : BulkSlot), j < i →
      [e.rotation, e.rotation.next, e.rotation.next.next][j]? = some d → e.bulk d = none) : e.bulkPick = some b := by
  obtain ⟨hi, hb⟩ := List.getElem?_eq_some_iff.1 hb
  refine List.find?_eq_some_iff_getElem.2 ⟨by rw [full]; rfl, i, hi, hb, fun j hj => ?_⟩
  rw [before j _ hj (List.getElem?_eq_getElem (hj.trans hi))]
  rfl

theorem startTransmit_busy {x : Tx} (h : s.slc.tx = some x) : startTransmit s = s := by
  rw [startTransmit, h]

theorem startTransmit_reply {r : Reply} {rest : List Reply} (h : s.slc.tx = none) (hr : s.slc.replies = r :: rest) :
    startTransmit s = setTx (some ⟨.reply, replyFrames r⟩) s := by
  rw [startTransmit, h, hr]

section
variable (free : s.slc.tx = none) (quiet : s.slc.replies = [])
include free quiet

theorem startTransmit_down (h : ¬ s.slc.linkUp = true) : startTransmit s = s := by
  rw [startTransmit, free, quiet]
  exact if_neg h

variable (up : s.slc.linkUp = true)
include up

theorem startTransmit_urgent {r : EventRecord} {rest : List EventRecord} (h : s.evr.urgent = r :: rest) :
    startTransmit s = sendUrgent r s := by
  rw [startTransmit, free, quiet]
  dsimp only
  rw [if_pos up, h]

theorem startTransmit_normal {r : NormalRecord} {rest : List NormalRecord} (hu : s.evr.urgent = [])
    (h : s.evr.normal = r :: rest) : startTransmit s = sendNormal r s := by
  rw [startTransmit, free, quiet]
  dsimp only
  rw [if_pos up, hu, h]

theorem startTransmit_bulk {b : BulkSlot} (hu : s.evr.urgent = []) (hn : s.evr.normal = [])
    (h : s.evr.bulkPick = some b) : startTransmit s = sendBulk b s := by
  rw [startTransmit, free, quiet]
  dsimp only
  rw [if_pos up, hu, hn, h]

theorem startTransmit_empty (hu : s.evr.urgent = []) (hn : s.evr.normal = []) (h : ∀ b, s.evr.bulk b = none) :
    startTransmit s = s := by
  have none : s.evr.bulkPick = none := List.find?_eq_none.2 fun b _ => by rw [h b]; decide
  rw [startTransmit, free, quiet]
  dsimp only
  rw [if_pos up, hu, hn, none]

end

theorem endTransmit_next {x : Tx} {a b : List Byte} {rest : List (List Byte)} (h : s.slc.tx = some x)
    (hf : x.frames = a :: b :: rest) : endTransmit s = setTx (some ⟨x.source, b :: rest⟩) s := by
  rw [endTransmit, h]
  dsimp only
  rw [hf]

theorem endTransmit_last {x : Tx} (h : s.slc.tx = some x) (hf : x.frames.length ≤ 1) :
    endTransmit s = if x.source = .reply then setTx none { s with slc := departReply s.slc } else setTx none s := by
  have one : x.frames = [] ∨ ∃ a, x.frames = [a] := by
    match hx : x.frames with
    | [] => exact .inl rfl
    | [a] => exact .inr ⟨a, rfl⟩
    | _ :: _ :: _ => rw [hx] at hf; simp at hf
  rw [endTransmit, h]
  dsimp only
  obtain hf | ⟨a, hf⟩ := one <;> rw [hf] <;> cases x.source <;> rfl

end

/-- Settles O47: the records' bytes, then the transmitter's choices in their order and the end of a frame. -/
theorem transmitterTakesInOrder : Obligations.TransmitterTakesInOrder := by
  refine ⟨eventBytes_eq, keyBytes_eq, fun s => ?_⟩
  intro up sends
  have start {u : State} (h : startTransmit s = u) : exec .transmitStart s = .next u := congrArg _ h
  have finish {u : State} (h : endTransmit s = u) : exec .transmitEnd s = .next u := congrArg _ h
  refine ⟨fun h => ?_, fun free => ⟨fun r hr => ?_, fun quiet => ⟨fun down => start (startTransmit_down free quiet down),
    fun h r hr => ?_, fun h hu r hr => ?_, fun h hu hn => ?_⟩⟩, fun h => ?_,
    fun x hx => ⟨fun a b rest hf => finish (endTransmit_next hx hf), fun hf hs => ?_, fun hf hs r rest hr => ?_⟩⟩
  · obtain ⟨x, hx⟩ := Option.ne_none_iff_exists'.1 h
    exact start (startTransmit_busy hx)
  · obtain ⟨rest, hr⟩ := List.head?_eq_some_iff.1 hr
    exact start (startTransmit_reply free hr)
  · obtain ⟨rest, hr⟩ := List.head?_eq_some_iff.1 hr
    exact start (startTransmit_urgent free quiet h hr)
  · obtain ⟨rest, hr⟩ := List.head?_eq_some_iff.1 hr
    have ne : s.evr.normal ≠ [] := by rw [hr]; nofun
    have takes := startTransmit_normal free quiet h hu hr
    intro frame
    have sent : normalFrame r = frame := by cases r <;> rfl
    refine ⟨fun plain => start (takes.trans ?_), fun lost len => start (takes.trans ?_)⟩
    · rw [sendNormal_plain ne plain, sent]; rfl
    · rw [sendNormal_gap ne lost len, sent, gapRecord_eq]; rfl
  · intro order
    have turns : order = [s.evr.rotation, s.evr.rotation.next, s.evr.rotation.next.next] := by
      simp only [order]
      cases s.evr.rotation <;> rfl
    rw [turns]
    refine ⟨fun none => start (startTransmit_empty free quiet h hu hn none), fun i b bs hb full before => ?_⟩
    refine start ((startTransmit_bulk free quiet h hu hn (bulkPick_of hb full before)).trans ?_)
    rw [sendBulk, full]
    cases b <;> rfl
  · exact finish (by rw [endTransmit, h])
  · exact finish ((endTransmit_last hx hf).trans (if_neg hs))
  · refine finish ((endTransmit_last hx hf).trans ((if_pos hs).trans ?_))
    rw [departReply, hr]
    rfl

end Sys2Proof.Machine

namespace Sys2Proof.Machine

/-! ## Unknown requests and RESTART_LINK (R184, R190) -/

section
variable {s : State} {tag : Nat} {bs : List Byte}

theorem requestNumber_known {c : Instr} {num : Nat} (h : requestNumber c = some num) :
    knownRequests.contains (BitVec.ofNat 8 num) = true := by
  cases c <;> simp only [requestNumber, reduceCtorEq, Option.some.injEq] at h <;> subst h <;> decide

/-- UNKNOWN_REQUEST answers a head that it answers, once there is room (R184). -/
theorem exec_unknownRequest_answers {code : ResultCode} (head : s.slc.requests.head? = some ⟨.request, tag, bs⟩)
    (room : replyRoom s = true) (h : unknownCode ⟨.request, tag, bs⟩ = some code) :
    exec .unknownRequest s = .next (answered tag code [] s) := by
  obtain ⟨rest, hr⟩ := List.head?_eq_some_iff.1 head
  refine congrArg Host.Outcome.next ?_
  rw [answerUnknown, hr]
  dsimp only
  rw [h]
  exact if_pos room

theorem exec_unknownRequest_leaves (head : s.slc.requests.head? = some ⟨.request, tag, bs⟩)
    (h : unknownCode ⟨.request, tag, bs⟩ = none) : exec .unknownRequest s = .next s := by
  obtain ⟨rest, hr⟩ := List.head?_eq_some_iff.1 head
  refine congrArg Host.Outcome.next ?_
  rw [answerUnknown, hr]
  dsimp only
  rw [h]

/-- A reply is being sent. -/
def Sending (c : Slc) : Prop := ∃ x, c.tx = some x ∧ x.source = .reply

theorem replies_of_sending {c : Slc} (h : Sending c) :
    begunReplies c = c.replies.take 1 ∧ removedReplies c = c.replies.tail := by
  obtain ⟨⟨source, frames⟩, tx, rfl⟩ := h
  rw [begunReplies, removedReplies, tx, ← List.drop_one]
  exact ⟨rfl, rfl⟩

theorem replies_of_not_sending {c : Slc} (h : ¬ Sending c) : begunReplies c = [] ∧ removedReplies c = c.replies := by
  rw [begunReplies, removedReplies]
  match tx : c.tx with
  | none => exact ⟨rfl, rfl⟩
  | some ⟨.reply, frames⟩ => exact absurd ⟨_, tx, rfl⟩ h
  | some ⟨.urgent, frames⟩ | some ⟨.normal, frames⟩ | some ⟨.bulk, frames⟩ => exact ⟨rfl, rfl⟩

/-- The link stays UP at RESTART_LINK while no removed reply carries a link-down (R190). -/
theorem restartSlc_linkUp {c : Slc} : (restartSlc c).linkUp = true ↔
    c.linkUp = true ∧ ∀ r ∈ c.replies, r.linkDown = true → Sending c ∧ r ∉ c.replies.tail := by
  have up : (restartSlc c).linkUp = true ↔ c.linkUp = true ∧ ∀ r ∈ removedReplies c, ¬ r.linkDown = true := by
    simp [restartSlc]
  rw [up]
  refine and_congr_right fun _ => ?_
  by_cases h : Sending c
  · rw [(replies_of_sending h).2]
    exact ⟨fun k r _ down => ⟨h, fun mem => k r mem down⟩,
      fun k r mem down => (k r (List.mem_of_mem_tail mem) down).2 mem⟩
  · rw [(replies_of_not_sending h).2]
    exact ⟨fun k r mem down => absurd down (k r mem), fun k r mem down => h (k r mem down).1⟩

end

/-- Settles O48: the heads that UNKNOWN_REQUEST answers, and the state that RESTART_LINK leaves. -/
theorem unknownIsAnsweredAndRestartClears : Obligations.UnknownIsAnsweredAndRestartClears := by
  refine ⟨fun s tag bs head room => ⟨?_, ?_⟩, fun s tag args ha head => ?_, fun s tag head => ?_⟩
  · rintro rfl
    exact exec_unknownRequest_answers head room rfl
  · rintro n rest rfl
    refine ⟨fun unknown => exec_unknownRequest_answers head room ?_, ?_⟩
    · exact if_neg fun k => unknown (List.contains_iff_mem.1 k)
    · rintro ⟨c, num, hc, rfl⟩
      exact exec_unknownRequest_leaves head (if_pos (requestNumber_known hc))
  · exact exec_refused (owner := restartRequest) rfl head (if_pos (ne_nil_length ha))
  · refine ⟨_, exec_at_head (owner := restartRequest) rfl head, ?_⟩
    have answers : restartRequest [] (popRequest s) = accept (restartLink (popRequest s)) [] := if_neg (by simp)
    rw [answers]
    intro sending
    have begun : Sending (popRequest s).slc ↔ sending := Iff.rfl
    refine ⟨rfl, fun h => ?_, fun h => ?_, ?_, rfl, rfl, fun c => ?_, fun p => ?_, fun p => ⟨?_, ?_, ?_, ?_⟩, rfl, rfl,
      rfl, rfl, rfl, rfl, rfl, rfl, rfl⟩
    · exact congrArg (· ++ _) (replies_of_sending (begun.2 h)).1
    · exact congrArg (· ++ _) (replies_of_not_sending (mt begun.1 h)).1
    · exact restartSlc_linkUp (c := (popRequest s).slc)
    · exact Table.get_replicate 0 c
    · exact Table.get_map _ _ p
    · cases p <;> rfl
    all_goals
      intro h
      have slot : ((restartLink (popRequest s)).ppt.ports.get p).slot = (s.ppt.ports.get p).slot.restart :=
        congrArg Port.slot (PerPack.get_map _ _ p)
      refine slot.trans ?_
      simp only [PassSlot.restart, h]

end Sys2Proof.Machine

namespace Sys2Proof.Machine

/-! ## Frames on a line (R181 to R183) -/

section

/-- A run of bytes that ends no frame takes a receiver from one state to another. -/
inductive Quiet : Rx → List Byte → Rx → Prop where
  | nil (rx : Rx) : Quiet rx [] rx
  | cons {rx rx' rx'' : Rx} {b : Byte} {bs : List Byte} (feed : rxFeed rx b = (rx', none)) (rest : Quiet rx' bs rx'') :
    Quiet rx (b :: bs) rx''

/-- A run of bytes that a hunting receiver ends with a frame's last byte, and what that frame shows. -/
def EndsWith (bytes : List Byte) (e : LineEvent) : Prop :=
  ∃ init last rx, bytes = init ++ [last] ∧ Quiet .hunting init rx ∧ rxFeed rx last = (.hunting, some e)

theorem endsFrame_cons {rx rx' : Rx} {b : Byte} {bs : List Byte} (feed : rxFeed rx b = (rx', none)) (hb : bs ≠ []) :
    endsFrame rx (b :: bs) = endsFrame rx' bs := by
  obtain ⟨x, bs, rfl⟩ := List.exists_cons_of_ne_nil hb
  simp only [endsFrame, feed]

theorem endsFrame_of_quiet {rx rx' : Rx} {init : List Byte} {last : Byte} {e : LineEvent} (h : Quiet rx init rx')
    (hl : rxFeed rx' last = (.hunting, some e)) : endsFrame rx (init ++ [last]) = some e := by
  induction h with
  | nil rx => rw [List.nil_append, endsFrame, hl]
  | cons feed _ ih => exact (endsFrame_cons feed (by simp)).trans (ih hl)

theorem EndsWith.endsFrame {bytes : List Byte} {e : LineEvent} (h : EndsWith bytes e) :
    endsFrame .hunting bytes = some e := by
  obtain ⟨init, last, rx, rfl, quiet, feed⟩ := h
  exact endsFrame_of_quiet quiet feed

/-- Inside a frame, the bytes up to the last one that the length byte calls for are taken; the last ends it (R182). -/
theorem taken_ends {taken rest : List Byte} {n : Nat} (hn : ((taken ++ rest).getD 1 0).toNat = n) (h60 : n ≤ 60)
    (len : (taken ++ rest).length = n + 4) (hr : rest ≠ []) :
    ∃ init last rx, rest = init ++ [last] ∧ Quiet (.inFrame taken) init rx ∧
      rxFeed rx last = (.hunting, some (judgeFrame (taken ++ rest))) := by
  induction rest generalizing taken with
  | nil => exact absurd rfl hr
  | cons b rest ih =>
    rw [List.append_cons] at hn len ⊢
    have size := len
    have one : (taken ++ [b]).length = taken.length + 1 := by simp
    rw [List.length_append, one] at size
    have known (h : 2 ≤ (taken ++ [b]).length) : ((taken ++ [b]).getD 1 0).toNat = n := by
      rw [← hn, List.getD_append (taken ++ [b]) rest 0 1 (by omega)]
    have short : ¬ 60 < n := by omega
    cases rest with
    | nil =>
      rw [List.append_nil] at len ⊢
      rw [List.length_nil] at size
      refine ⟨[], b, .inFrame taken, rfl, .nil _, ?_⟩
      simp only [rxFeed, known (by omega), len, show ¬ n + 4 < 2 by omega, if_false, gt_iff_lt, short, lt_irrefl]
    | cons c rest =>
      obtain ⟨init, last, rx, hi, quiet, feed⟩ := ih hn len (by simp)
      refine ⟨b :: init, last, rx, by rw [hi]; rfl, .cons ?_ quiet, feed⟩
      by_cases h2 : (taken ++ [b]).length < 2
      · simp only [rxFeed, h2, if_true]
      · have more : (taken ++ [b]).length < n + 4 := by
          rw [List.length_append, List.length_singleton]
          rw [List.length_cons] at size
          omega
        simp only [rxFeed, h2, if_false, known (by omega), gt_iff_lt, short, more, if_true]

theorem rxFeed_sync : rxFeed .hunting syncByte = (.inFrame [], none) := by simp only [rxFeed, if_true]

/-- A sync byte and as many bytes as the length byte calls for end a frame (R182). -/
theorem endsWith_judged {bytes : List Byte} {n : Nat} (hn : (bytes.getD 1 0).toNat = n) (h60 : n ≤ 60)
    (len : bytes.length = n + 4) : EndsWith (syncByte :: bytes) (judgeFrame bytes) := by
  obtain ⟨init, last, rx, hi, quiet, feed⟩ := taken_ends (taken := []) hn h60 len
    (List.ne_nil_of_length_pos (by omega))
  exact ⟨syncByte :: init, last, rx, by rw [hi]; rfl, .cons rxFeed_sync quiet, feed⟩

/-- A length above 60 ends a frame at its length byte (R182; log 34). -/
theorem endsWith_long {h l : Byte} (hl : 60 < l.toNat) : EndsWith [syncByte, h, l] .lengthError := by
  have header : rxFeed (.inFrame []) h = (.inFrame [h], none) := rfl
  refine ⟨[syncByte, h], l, .inFrame [h], rfl, .cons rxFeed_sync (.cons header (.nil _)), ?_⟩
  simp only [rxFeed, List.cons_append, List.nil_append, List.length_cons, List.length_nil, List.getD_cons_succ,
    List.getD_cons_zero, gt_iff_lt, hl, if_true]
  rfl

variable {kind tag : Nat} {bs : List Byte}

theorem frameBody_length : (frameBody kind tag bs).length = bs.length + 2 := rfl

theorem frameBody_payload_length (h : bs.length ≤ 60) (more : List Byte) :
    ((frameBody kind tag bs ++ more).getD 1 0).toNat = bs.length := by
  simp only [frameBody, List.cons_append, List.getD_cons_succ, List.getD_cons_zero, BitVec.toNat_ofNat]
  omega

/-- A body and two bytes of check end a frame, judged by that check (R181, R182). -/
theorem endsWith_checked (h : bs.length ≤ 60) (c : BitVec 16) :
    EndsWith (syncByte :: frameBody kind tag bs ++ [(c >>> 8).setWidth 8, c.setWidth 8])
      (judgeFrame (frameBody kind tag bs ++ [(c >>> 8).setWidth 8, c.setWidth 8])) :=
  endsWith_judged (bytes := frameBody kind tag bs ++ _) (frameBody_payload_length h _) h
    (by rw [List.length_append, frameBody_length]; rfl)

theorem dropLast_two {α : Type} (l : List α) (x y : α) : (l ++ [x, y]).dropLast.dropLast = l := by
  rw [show l ++ [x, y] = (l ++ [x]) ++ [y] by simp, List.dropLast_concat, List.dropLast_concat]

/-- A 16-bit check is its two bytes. -/
theorem check_bytes_injective {c d : BitVec 16}
    (h : [(c >>> 8).setWidth 8, c.setWidth 8] = ([(d >>> 8).setWidth 8, d.setWidth 8] : List Byte)) : c = d := by
  obtain ⟨hi, lo⟩ : (c >>> 8).setWidth 8 = (d >>> 8).setWidth 8 ∧ c.setWidth 8 = d.setWidth 8 := by simpa using h
  have hi := congrArg BitVec.toNat hi
  have lo := congrArg BitVec.toNat lo
  simp only [BitVec.toNat_setWidth, BitVec.toNat_ushiftRight, Nat.shiftRight_eq_div_pow] at hi lo
  apply BitVec.eq_of_toNat_eq
  have := c.isLt
  have := d.isLt
  omega

theorem judgeFrame_mismatch {body : List Byte} {c : BitVec 16} (h : c ≠ crc16 body) :
    judgeFrame (body ++ [(c >>> 8).setWidth 8, c.setWidth 8]) = .checkError := by
  unfold judgeFrame
  rw [dropLast_two]
  refine if_neg fun k => h (check_bytes_injective ?_).symm
  exact List.append_cancel_left k

theorem judgeFrame_match (hk : kind < 16) (ht : tag < 16) :
    judgeFrame (withCheck (frameBody kind tag bs)) =
      .frame ⟨kind, tag, bs, withCheck (frameBody kind tag bs)⟩ := by
  have header : ((withCheck (frameBody kind tag bs)).getD 0 0).toNat = 16 * kind + tag := by
    simp only [withCheck, frameBody, List.cons_append, List.getD_cons_zero, BitVec.toNat_ofNat]
    omega
  have body : (withCheck (frameBody kind tag bs)).dropLast.dropLast = frameBody kind tag bs := dropLast_two ..
  unfold judgeFrame
  rw [body, if_pos rfl, header, show (16 * kind + tag) / 16 = kind by omega, show (16 * kind + tag) % 16 = tag by omega]
  rfl

/-- A frame sent is received as it was sent (R181, R182). -/
theorem endsWith_frame (hk : kind < 16) (ht : tag < 16) (h : bs.length ≤ 60) :
    EndsWith (frameBytes kind tag bs) (.frame ⟨kind, tag, bs, (frameBytes kind tag bs).tail⟩) := by
  have ends := endsWith_checked (kind := kind) (tag := tag) h (crc16 (frameBody kind tag bs))
  rw [show frameBody kind tag bs ++ _ = withCheck (frameBody kind tag bs) from rfl, judgeFrame_match hk ht] at ends
  exact ends

theorem endsWith_mismatch (h : bs.length ≤ 60) {c : BitVec 16} (hc : c ≠ crc16 (frameBody kind tag bs)) :
    EndsWith (syncByte :: frameBody kind tag bs ++ [(c >>> 8).setWidth 8, c.setWidth 8]) .checkError := by
  have ends := endsWith_checked (kind := kind) (tag := tag) h c
  rwa [judgeFrame_mismatch hc] at ends

end

/-! ## The frames of a reply (R183) -/

section

theorem cutData_ne_nil (fuel : Nat) (d : List Byte) : cutData fuel d ≠ [] := by
  cases fuel <;> unfold cutData
  · simp
  · split <;> simp

/-- The pieces of a reply's data: together the data, each of 59 bytes but the last (R183). -/
theorem cutData_spec {fuel : Nat} {d : List Byte} (h : d.length ≤ fuel * 59 ∨ d.length ≤ 59) :
    (cutData fuel d).flatten = d ∧ (∀ x ∈ cutData fuel d, x.length ≤ 59) ∧
      ∀ x ∈ (cutData fuel d).dropLast, x.length = 59 := by
  induction fuel generalizing d with
  | zero =>
    have : d.length ≤ 59 := by omega
    simp [cutData, this]
  | succ fuel ih =>
    unfold cutData
    split
    · next short => simp [short]
    · next long =>
      obtain ⟨flat, small, full⟩ := ih (d := d.drop 59) (by rw [List.length_drop]; omega)
      have first : (d.take 59).length = 59 := by rw [List.length_take]; omega
      refine ⟨?_, ?_, ?_⟩
      · rw [List.flatten_cons, flat, List.take_append_drop]
      · rintro x (_ | ⟨_, hx⟩)
        exacts [first.le, small x hx]
      · rw [List.dropLast_cons_of_ne_nil (cutData_ne_nil _ _)]
        rintro x (_ | ⟨_, hx⟩)
        exacts [first, full x hx]

theorem replyPieces_eq (tag : Nat) (code : ResultCode) (l : List (List Byte)) (k : Nat) :
    replyPieces tag code l = (l.zipIdx k).map fun x =>
      frameBytes 1 tag (BitVec.ofNat 8 (16 * (k + l.length - 1 - x.2) + code.num) :: x.1) := by
  induction l generalizing k with
  | nil => rfl
  | cons d l ih =>
    rw [replyPieces, ih (k + 1), List.zipIdx_cons, List.map_cons, List.length_cons,
      show k + (l.length + 1) - 1 - k = l.length by omega, show k + 1 + l.length - 1 = k + (l.length + 1) - 1 by omega]

end

/-- Settles O31: a frame read back, and a reply cut into its pieces. -/
theorem framesAreReadAsSent : Obligations.FramesAreReadAsSent := by
  refine ⟨fun kind tag bs hk ht h => (endsWith_frame hk ht h).endsFrame, fun r _ _ => ?_⟩
  obtain ⟨flat, small, full⟩ := cutData_spec (fuel := r.data.length) (d := r.data) (by omega)
  refine ⟨_, flat, cutData_ne_nil _ _, small, full, ?_⟩
  rw [replyFrames, replyPieces_eq _ _ _ 0, Nat.zero_add]

end Sys2Proof.Machine

namespace Sys2Proof.Machine

/-! ## The service link's receiver (R182, R184) -/

section
variable {s : State}

theorem serviceByte_quiet {rx' : Rx} {b : Byte} (h : rxFeed s.slc.rx b = (rx', none)) :
    serviceByte s b = { s with slc := { s.slc with rx := rx', gapTimer := gapAfter rx' } } := by
  rw [serviceByte, h]

theorem serviceBytes_quiet {rx rx' : Rx} {bs : List Byte} (h : Quiet rx bs rx') (hs : s.slc.rx = rx) :
    ∃ g, bs.foldl serviceByte s = { s with slc := { s.slc with rx := rx', gapTimer := g } } := by
  induction h generalizing s with
  | nil rx => exact ⟨s.slc.gapTimer, by rw [← hs]; rfl⟩
  | @cons rx rx' rx'' b bs feed _ ih =>
    obtain ⟨g, hg⟩ := ih (s := serviceByte s b) (by rw [serviceByte_quiet (by rw [hs]; exact feed)])
    refine ⟨g, hg.trans ?_⟩
    rw [serviceByte_quiet (by rw [hs]; exact feed)]

/-- A run of bytes that a hunting receiver ends is judged at its last byte, the receiver hunting and the gap timer stopped. -/
theorem receiveService_ends {bytes : List Byte} {e : LineEvent} (h : EndsWith bytes e) (hs : s.slc.rx = .hunting) :
    receiveService bytes s = serviceEvent e { s with slc := { s.slc with rx := .hunting, gapTimer := none } } := by
  obtain ⟨init, last, rx, rfl, quiet, feed⟩ := h
  obtain ⟨g, hg⟩ := serviceBytes_quiet quiet hs
  rw [receiveService, List.foldl_append, hg, List.foldl_cons, List.foldl_nil, serviceByte, feed]
  rfl

end

/-- Settles O46: the frame's judgement by kind, buffer and check. -/
theorem serviceFramesAreBufferedOrCounted : Obligations.ServiceFramesAreBufferedOrCounted := by
  intro s tag bs ht hb sat heard framing
  refine ⟨fun hunting => ⟨fun room => ⟨?_, ?_⟩, fun full kind hk => ?_, fun kind hk h8 h9 => ?_, fun h l hl => ?_,
    fun kind c hc => ?_⟩, fun h => if_neg (mt timerDue_iff.1 h), fun taken due inFrame => ?_⟩
  · refine congrArg Host.Outcome.next ((receiveService_ends (endsWith_frame (by decide) ht hb) hunting).trans ?_)
    exact if_pos room
  · refine congrArg Host.Outcome.next ((receiveService_ends (endsWith_frame (by decide) ht hb) hunting).trans ?_)
    exact if_pos room
  · obtain rfl | rfl := hk <;>
    · refine congrArg Host.Outcome.next ((receiveService_ends (endsWith_frame (by decide) ht hb) hunting).trans ?_)
      exact if_neg (Nat.not_lt.2 full)
  · refine congrArg Host.Outcome.next ((receiveService_ends (endsWith_frame hk ht hb) hunting).trans ?_)
    exact (if_neg h8).trans (if_neg h9)
  · exact congrArg Host.Outcome.next (receiveService_ends (endsWith_long hl) hunting)
  · exact congrArg Host.Outcome.next (receiveService_ends (endsWith_mismatch hb hc) hunting)
  · refine (if_pos (timerDue_iff.2 due)).trans ?_
    rw [inFrame]
    rfl

/-! ## A pack line's receiver (R36, R37, R47) -/

section
variable {s : State} {p : Pack}

theorem setPort_get_self (x : Port) (s : State) : (setPort p x s).ppt.ports.get p = x := by cases p <;> rfl

theorem setPort_setPort (x y : Port) (s : State) : setPort p y (setPort p x s) = setPort p y s := by
  cases p <;> rfl

theorem setPort_eq_self {x : Port} (h : s.ppt.ports.get p = x) : setPort p x s = s := by
  subst h; cases p <;> rfl

/-- A port hears its line: not in ABSENT, and not while the part transmits (R36). -/
def Port.hears (x : Port) : Prop := x.state ≠ .absent ∧ x.tx = none

theorem packByte_deaf {b : Byte} (h : (s.ppt.ports.get p).state = .absent ∨ (s.ppt.ports.get p).tx ≠ none) :
    packByte p s b = s := if_pos (h.imp_right Option.isSome_iff_ne_none.2)

theorem receivePack_deaf (bs : List Byte) (h : (s.ppt.ports.get p).state = .absent ∨ (s.ppt.ports.get p).tx ≠ none) :
    receivePack p bs s = s := by
  induction bs with
  | nil => rfl
  | cons b bs ih => rw [receivePack, List.foldl_cons, packByte_deaf h]; exact ih

/-- What a port makes of a frame that has ended on its line (R36). -/
def packEvent (p : Pack) (e : LineEvent) (s : State) : State :=
  match e with
  | .frame f => packFrame p f s
  | .lengthError | .checkError => setPort p (s.ppt.ports.get p).countError s

theorem packByte_quiet {b : Byte} {rx' : Rx} (h : (s.ppt.ports.get p).hears)
    (feed : rxFeed (s.ppt.ports.get p).rx b = (rx', none)) :
    packByte p s b = setPort p { s.ppt.ports.get p with rx := rx' } s := by
  obtain ⟨present, free⟩ := h
  unfold packByte
  simp only [present, free, feed, Option.isSome_none, Bool.false_eq_true, or_self, if_false]

theorem packByte_ends {b : Byte} {rx' : Rx} {e : LineEvent} (h : (s.ppt.ports.get p).hears)
    (feed : rxFeed (s.ppt.ports.get p).rx b = (rx', some e)) :
    packByte p s b = packEvent p e (setPort p { s.ppt.ports.get p with rx := rx' } s) := by
  obtain ⟨present, free⟩ := h
  unfold packByte
  simp only [present, free, feed, Option.isSome_none, Bool.false_eq_true, or_self, if_false]
  cases e <;> simp only [packEvent, setPort_get_self]

theorem packBytes_quiet {rx rx' : Rx} {bs : List Byte} (h : Quiet rx bs rx') (hs : (s.ppt.ports.get p).rx = rx)
    (hears : (s.ppt.ports.get p).hears) :
    bs.foldl (packByte p) s = setPort p { s.ppt.ports.get p with rx := rx' } s := by
  induction h generalizing s with
  | nil rx => subst hs; exact (setPort_eq_self rfl).symm
  | @cons rx rx' rx'' b bs feed _ ih =>
    have fed := packByte_quiet hears (by rw [hs]; exact feed)
    rw [List.foldl_cons, fed, ih (by rw [setPort_get_self]) (by rw [setPort_get_self]; exact hears), setPort_setPort,
      setPort_get_self]

/-- A run of bytes that a hunting receiver ends is judged at its last byte, the receiver hunting again. -/
theorem receivePack_ends {bytes : List Byte} {e : LineEvent} (h : EndsWith bytes e) (hs : (s.ppt.ports.get p).rx = .hunting)
    (hears : (s.ppt.ports.get p).hears) : receivePack p bytes s = packEvent p e s := by
  obtain ⟨init, last, rx, rfl, quiet, feed⟩ := h
  have before := packBytes_quiet quiet hs hears
  rw [receivePack, List.foldl_append, before, List.foldl_cons, List.foldl_nil,
    packByte_ends (by rw [setPort_get_self]; exact hears) (by rw [setPort_get_self]; exact feed), setPort_setPort,
    setPort_get_self, setPort_eq_self]
  rw [← hs]

/-- A frame that no pack sends, or one that is malformed, is counted (R36, R37, R47). -/
theorem packFrame_counts {f : Frame} (h : (f.kind ≠ 0xA ∧ f.kind ≠ 0xC) ∨
    (f.kind = 0xA ∧ telemetryValid f.payload = false) ∨
      (f.kind = 0xC ∧ ¬ (1 ≤ f.payload.length ∧ f.payload.length ≤ 31))) :
    packFrame p f s = setPort p (s.ppt.ports.get p).countError s := by
  unfold packFrame
  obtain ⟨ha, hc⟩ | ⟨ha, hv⟩ | ⟨hc, hl⟩ := h
  · rw [if_neg ha, if_neg hc]
  · rw [if_pos ha, if_neg (by rw [hv]; decide)]
  · rw [if_neg (by rw [hc]; decide), if_pos hc, if_neg hl]

theorem telemetryValid_iff {bs : List Byte} :
    telemetryValid bs = true ↔ bs.length = 20 ∧ 2 ≤ (bs.getD 1 0).toNat ∧ (bs.getD 1 0).toNat ≤ 5 := by
  simp [telemetryValid, arg1, and_assoc]

end

/-- Settles O28: each kind of frame in error ends its bytes and is counted; the line's other events by the port. -/
theorem packLinesCountErrorsAndTransmit : Obligations.PackLinesCountErrorsAndTransmit := by
  intro p s x counted
  refine ⟨fun bs h => congrArg Host.Outcome.next (receivePack_deaf bs h), fun present free hunting => ?_,
    fun taken inFrame => ?_, fun hunting => ?_, fun payload due hunting free => ?_, fun h => ?_, fun h => ?_, fun h => ?_⟩
  · have ends {bytes : List Byte} {e : LineEvent} (h : EndsWith bytes e) :
        exec (.packFrameError p (.bytes bytes)) s = .next (packEvent p e s) :=
      congrArg Host.Outcome.next (receivePack_ends h hunting ⟨present, free⟩)
    refine ⟨fun h l hl => ends (endsWith_long hl), fun kind tag bs c hb hc => ends (endsWith_mismatch hb hc),
      fun kind tag bs hk ht hb bad => (ends (endsWith_frame hk ht hb)).trans (congrArg Host.Outcome.next ?_)⟩
    refine packFrame_counts (bad.imp_right (Or.imp (fun ⟨ha, hv⟩ => ⟨ha, ?_⟩) fun ⟨hc, hl⟩ => ⟨hc, by dsimp only; omega⟩))
    rw [Bool.eq_false_iff, Ne, telemetryValid_iff]
    dsimp only
    omega
  · refine congrArg Host.Outcome.next ?_
    rw [lineGap, show (s.ppt.ports.get p).rx = _ from inFrame]
    rfl
  · refine congrArg Host.Outcome.next ?_
    rw [lineGap, show (s.ppt.ports.get p).rx = _ from hunting]
  · change execPackRequestTransmit p s = _
    rw [execPackRequestTransmit, show (s.ppt.ports.get p).requestDue = _ from due]
    exact if_pos ⟨hunting, free⟩
  · change execPackRequestTransmit p s = _
    unfold execPackRequestTransmit
    dsimp only
    cases due : (s.ppt.ports.get p).requestDue with
    | none => rfl
    | some payload =>
      refine if_neg fun k => ?_
      obtain h | h | h := h
      · cases due.symm.trans h
      · exact h k.1
      · exact h k.2
  · obtain ⟨bytes, hx⟩ := Option.ne_none_iff_exists'.1 h
    change execPackRequestTransmitted p s = _
    rw [execPackRequestTransmitted, show (s.ppt.ports.get p).tx = _ from hx]
  · change execPackRequestTransmitted p s = _
    rw [execPackRequestTransmitted, show (s.ppt.ports.get p).tx = _ from h]

end Sys2Proof.Machine

namespace Sys2Proof.Machine

/-! ## The pass-through slots (R47 to R49, R185) -/

section
variable {s : State} {p : Pack}

theorem replyRoom_iff : replyRoom s = true ↔ s.slc.replies.length + slotsWaiting s < 4 := decide_eq_true_iff

theorem packFrame_reply {f : Frame} (hk : f.kind = 0xC) (h1 : 1 ≤ f.payload.length) (h31 : f.payload.length ≤ 31) :
    packFrame p f s = takeReply p f.payload s := by
  unfold packFrame
  rw [if_neg (by rw [hk]; decide), if_pos hk, if_pos ⟨h1, h31⟩]

theorem slotTurn_iff : slotTurn p s = true ↔
    s.slc.replies.length < 4 ∧ (p = .a ∨ s.ppt.ports.a.slot.state ≠ .resolved) := by
  simp [slotTurn]

theorem execPassReplyQueued_queues {r : Reply} (hs : (s.ppt.ports.get p).slot.state = .resolved)
    (hr : (s.ppt.ports.get p).slot.held = some r) (h : slotTurn p s = true) :
    execPassReplyQueued p s = .next (enqueueReply r (setPort p (s.ppt.ports.get p).slotIdle s)) := by
  unfold execPassReplyQueued
  dsimp only
  rw [hs, hr]
  exact if_pos h

theorem execPassReplyQueued_waits (h : (s.ppt.ports.get p).slot.state ≠ .resolved ∨ slotTurn p s ≠ true) :
    execPassReplyQueued p s = .next s := by
  unfold execPassReplyQueued
  dsimp only
  split
  · next hs _ => exact if_neg (h.resolve_left (not_not.2 hs))
  · rfl

end

/-- Settles O27: a slot's resolution is `resolveSlot`, whoever brings it about. -/
theorem passSlotsResolveOnce : Obligations.PassSlotsResolveOnce := by
  intro p s x idle result
  have resolved (code : ResultCode) (data : List Byte) : resolveSlot p code data s = result code data := by
    simp only [resolveSlot, result, replyRoom_iff]
    rfl
  refine ⟨fun tag bs ht h1 h31 present free hunting => ?_, fun hs due => ?_,
    fun h => if_neg fun k => h.elim (· k.1) (· (timerDue_iff.1 k.2)), fun r hs hr room turn => ?_, fun h => ?_⟩
  · have taken : exec (.packReplyReceived p (frameBytes 0xC tag bs)) s = .next (takeReply p bs s) :=
      congrArg Host.Outcome.next ((receivePack_ends (endsWith_frame (by decide) ht (by omega)) hunting
        ⟨present, free⟩).trans (packFrame_reply (f := ⟨0xC, tag, bs, _⟩) rfl h1 h31))
    refine ⟨fun hs => taken.trans ?_, fun hs => taken.trans (congrArg Host.Outcome.next (if_neg hs))⟩
    rw [← resolved]
    exact congrArg Host.Outcome.next (if_pos hs)
  · rw [← resolved]
    exact if_pos ⟨hs, timerDue_iff.2 due⟩
  · exact execPassReplyQueued_queues hs hr (slotTurn_iff.2 ⟨room, turn⟩)
  · refine execPassReplyQueued_waits (h.imp_right fun h => ?_)
    rw [Ne, slotTurn_iff]
    rintro ⟨room, turn⟩
    obtain h | ⟨hp, ha⟩ := h
    · omega
    · obtain turn | turn := turn
      · rw [hp] at turn; cases turn
      · exact turn ha

end Sys2Proof.Machine

namespace Sys2Proof.Machine

/-! ## Telemetry at a port (R37, R39, R42 to R44) -/

section
variable {s : State} {p : Pack}

theorem flagSet_eq_zero {l : List Bool} : flagSet l = 0 ↔ ∀ b ∈ l, b = false := by
  induction l with
  | nil => simp [flagSet]
  | cons b l ih => cases b <;> simp [flagSet, ih]

/-- No alarm is risen exactly when every flag of the new byte was set before (R43). -/
theorem risen_weight_eq_zero {o : Alarms} {b : Byte} : (Alarms.risen o (Alarms.ofByte b)).weight = 0 ↔
    ∀ k, k < 5 → b.getLsbD k = true → o.flags[k]? = some true := by
  have split (P : Nat → Prop) : (∀ k, k < 5 → P k) ↔ P 0 ∧ P 1 ∧ P 2 ∧ P 3 ∧ P 4 := by
    refine ⟨fun h => ⟨h 0 (by decide), h 1 (by decide), h 2 (by decide), h 3 (by decide), h 4 (by decide)⟩, ?_⟩
    rintro ⟨h0, h1, h2, h3, h4⟩ k hk
    interval_cases k <;> assumption
  rw [Alarms.weight, flagSet_eq_zero, split]
  simp [Alarms.flags, Alarms.risen, Alarms.ofByte]

theorem risen_weight_ne_zero {o : Alarms} {b : Byte} (h : ∃ k, k < 5 ∧ b.getLsbD k = true ∧ o.flags[k]? = some false) :
    (Alarms.risen o (Alarms.ofByte b)).weight ≠ 0 := fun zero => by
  obtain ⟨k, hk, set, before⟩ := h
  have := risen_weight_eq_zero.1 zero k hk set
  rw [before] at this
  cases this

theorem alarmEvent_none {old new : Alarms} (h : (Alarms.risen old new).weight = 0) : alarmEvent p old new s = s :=
  if_pos h

theorem alarmEvent_tallied {old new : Alarms} (h : (Alarms.risen old new).weight ≠ 0) :
    Tallied .packAlarm s (alarmEvent p old new s) := by
  unfold alarmEvent
  rw [if_neg h]
  exact route_tallied _ _

theorem alarmEvent_sameTally {old new : Alarms} {c : EventCode} (h : c ≠ .packAlarm) (hs : c ≠ .stateChange) :
    SameTally c s (alarmEvent p old new s) := by
  unfold alarmEvent
  dsimp only
  split
  · rfl
  · exact route_sameTally _ _ h hs

/-- What EVR keeps beside tallies and queues: the bulk slots among it. -/
def SameRelays (s t : State) : Prop := t.evr.relayA = s.evr.relayA ∧ t.evr.relayB = s.evr.relayB

theorem route_sameRelays (c : EventCode) (n : Nat) (v : Int) : SameRelays s (route c n v s) :=
  ⟨route_evr_relayA .., route_evr_relayB ..⟩

theorem SameRelays.trans {t u : State} (h : SameRelays s t) (k : SameRelays t u) : SameRelays s u :=
  ⟨k.1.trans h.1, k.2.trans h.2⟩

theorem decideBattery_sameRelays : SameRelays s (decideBattery s) := by
  have low : SameRelays s (decideLow s) := by
    unfold decideLow
    split
    · split
      · exact ⟨rfl, rfl⟩
      · exact SameRelays.trans (t := { s with ssc := { s.ssc with low := true } }) ⟨rfl, rfl⟩ (route_sameRelays ..)
    · exact ⟨rfl, rfl⟩
  refine low.trans ?_
  unfold decideBattery decideCritical
  split
  · split
    · exact ⟨rfl, rfl⟩
    · exact SameRelays.trans (t := { decideLow s with ssc := { (decideLow s).ssc with critical := true } }) ⟨rfl, rfl⟩
        (route_sameRelays ..)
  · split <;> exact ⟨rfl, rfl⟩

theorem portChanged_sameRelays : SameRelays s (portChanged s) :=
  decideBattery_sameRelays (s := { redecidePaths s with ssc := { s.ssc with combinedSoc := combinedSocOf s.ppt } })

@[simp] theorem portChanged_ppt : (portChanged s).ppt = s.ppt := decideBattery_ppt

@[simp] theorem decideBattery_slc : (decideBattery s).slc = s.slc := by
  have low (u : State) : (decideLow u).slc = u.slc := by
    unfold decideLow
    split
    · split
      · rfl
      · exact route_slc ..
    · rfl
  have critical (u : State) : (decideCritical u).slc = u.slc := by
    unfold decideCritical
    split
    · split
      · rfl
      · exact route_slc ..
    · split <;> rfl
  exact (critical _).trans (low _)

@[simp] theorem portChanged_slc : (portChanged s).slc = s.slc := decideBattery_slc

theorem portChanged_path : (portChanged s).ppc.path = ⟨pathOf (portChanged s) .a, pathOf (portChanged s) .b⟩ :=
  portChanged_settles (l := .paths) rfl

theorem portChanged_soc : (portChanged s).ssc.combinedSoc = combinedSocOf (portChanged s).ppt :=
  portChanged_settles (l := .soc) rfl

theorem portChanged_sameTally {c : EventCode} (hc : c.ofSsc = false) : SameTally c s (portChanged s) :=
  (decideBattery_sameTally hc).after
    (u := portChanged s) (t := { redecidePaths s with ssc := { s.ssc with combinedSoc := combinedSocOf s.ppt } }) rfl

theorem placeRelay_sameTally (c : EventCode) (raw : List Byte) : SameTally c s (placeRelay p raw s) := by
  cases p <;> rfl

theorem placeRelay_a (raw : List Byte) :
    (placeRelay .a raw s).evr.relayA = some raw ∧ (placeRelay .a raw s).evr.relayB = s.evr.relayB := ⟨rfl, rfl⟩

theorem placeRelay_b (raw : List Byte) :
    (placeRelay .b raw s).evr.relayB = some raw ∧ (placeRelay .b raw s).evr.relayA = s.evr.relayA := ⟨rfl, rfl⟩

theorem packFrame_telemetry {f : Frame} (hk : f.kind = 0xA) (hv : telemetryValid f.payload = true) :
    packFrame p f s = takeTelemetry p f s := by
  unfold packFrame
  rw [if_pos hk, if_pos hv]

@[simp] theorem alarmEvent_ppt (old new : Alarms) : (alarmEvent p old new s).ppt = s.ppt := by
  unfold alarmEvent
  dsimp only
  split
  · rfl
  · exact route_ppt ..

@[simp] theorem alarmEvent_slc (old new : Alarms) : (alarmEvent p old new s).slc = s.slc := by
  unfold alarmEvent
  dsimp only
  split
  · rfl
  · exact route_slc ..

theorem alarmEvent_sameRelays (old new : Alarms) : SameRelays s (alarmEvent p old new s) := by
  unfold alarmEvent
  dsimp only
  split
  · exact ⟨rfl, rfl⟩
  · exact route_sameRelays ..

/-- The state after a port's record is filled and PACK_LINK, where it is due, is produced (R39, R42). -/
def linkedPort (p : Pack) (r : PackRecord) (s : State) : State :=
  let t := setPort p ((s.ppt.ports.get p).telemetry r) s
  if (s.ppt.ports.get p).state = .active then t else route .packLink (packNum p) PortState.active.num t

theorem takeTelemetry_eq (f : Frame) : takeTelemetry p f s =
    portChanged (placeRelay p f.raw (alarmEvent p (s.ppt.ports.get p).alarms (recordOf f.payload s.tmb.ms).alarms
      (linkedPort p (recordOf f.payload s.tmb.ms) s))) := rfl

section
variable {r : PackRecord}

theorem linkedPort_ppt : (linkedPort p r s).ppt = (setPort p ((s.ppt.ports.get p).telemetry r) s).ppt := by
  unfold linkedPort
  dsimp only
  split
  · rfl
  · exact route_ppt ..

theorem linkedPort_slc : (linkedPort p r s).slc = s.slc := by
  unfold linkedPort
  dsimp only
  split
  · rfl
  · exact route_slc ..

theorem linkedPort_sameRelays : SameRelays s (linkedPort p r s) := by
  unfold linkedPort
  dsimp only
  split
  · exact ⟨rfl, rfl⟩
  · exact SameRelays.trans (t := setPort p ((s.ppt.ports.get p).telemetry r) s) ⟨rfl, rfl⟩ (route_sameRelays ..)

theorem linkedPort_active (h : (s.ppt.ports.get p).state = .active) :
    linkedPort p r s = setPort p ((s.ppt.ports.get p).telemetry r) s := if_pos h

theorem linkedPort_tallied (h : (s.ppt.ports.get p).state ≠ .active) : Tallied .packLink s (linkedPort p r s) := by
  unfold linkedPort
  rw [if_neg h]
  exact route_tallied (s := setPort p ((s.ppt.ports.get p).telemetry r) s) (c := .packLink) _ _

theorem linkedPort_sameTally {c : EventCode} (h : c ≠ .packLink) (hs : c ≠ .stateChange) :
    SameTally c s (linkedPort p r s) := by
  unfold linkedPort
  dsimp only
  split
  · rfl
  · exact route_sameTally (s := setPort p ((s.ppt.ports.get p).telemetry r) s) _ _ h hs

end

end

/-- Settles O26: the frame's end, then the record, the slot and the events that `takeTelemetry` makes of it. -/
theorem telemetryFillsTheRecord : Obligations.TelemetryFillsTheRecord := by
  intro p tag bs s x n old present free hunting ht len cells cells'
  let f : Frame := ⟨0xA, tag, bs, (frameBytes 0xA tag bs).tail⟩
  let r := recordOf bs s.tmb.ms
  let u := alarmEvent p x.alarms r.alarms (linkedPort p r s)
  have taken : exec (.packTelemetryReceived p (frameBytes 0xA tag bs)) s = .next (takeTelemetry p f s) :=
    congrArg Host.Outcome.next ((receivePack_ends (endsWith_frame (by decide) ht (by omega)) hunting
      ⟨present, free⟩).trans (packFrame_telemetry (f := f) rfl (telemetryValid_iff.2 ⟨len, cells, cells'⟩)))
  have before : old = x.alarms.flags := by
    simp only [old, Port.alarms]
    cases x.record <;> rfl
  have ppt : (takeTelemetry p f s).ppt = (setPort p (x.telemetry r) s).ppt := by
    rw [takeTelemetry_eq, portChanged_ppt, placeRelay_ppt, alarmEvent_ppt, linkedPort_ppt]
  have relays : SameRelays s u := linkedPort_sameRelays.trans (alarmEvent_sameRelays _ _)
  have after : SameRelays (placeRelay p f.raw u) (takeTelemetry p f s) := portChanged_sameRelays
  have tally {c : EventCode} (hc : c.ofSsc = false) : SameTally c u (takeTelemetry p f s) := by
    rw [takeTelemetry_eq]
    exact (placeRelay_sameTally c _).trans (portChanged_sameTally hc)
  refine ⟨_, r, taken, ?_, ?_, ?_, rfl, rfl, rfl, rfl, rfl, rfl, rfl, rfl, rfl, rfl, rfl, ?_, ?_, ?_, ?_, ?_, ?_, ?_,
    ?_, ?_, ?_⟩
  · rw [ppt, setPort_get_self]; rfl
  · rw [ppt]; cases p <;> rfl
  · simp only [r, recordOf, arg1, n, gt_iff_lt, ← not_le, ite_not]
  · rfl
  · rintro rfl
    exact ⟨after.1.trans (placeRelay_a f.raw).1, (after.2.trans (placeRelay_a f.raw).2).trans relays.2⟩
  · rintro rfl
    exact ⟨after.2.trans (placeRelay_b f.raw).1, (after.1.trans (placeRelay_b f.raw).2).trans relays.1⟩
  · intro h
    refine (linkedPort_tallied (r := r) h).same ?_
    exact SameTally.trans (t := u) (alarmEvent_sameTally (by decide) (by decide)) (tally rfl)
  · intro h
    have : SameTally .packLink s (linkedPort p r s) := by rw [linkedPort_active h]; rfl
    exact (this.trans (t := linkedPort p r s) (alarmEvent_sameTally (by decide) (by decide))).trans (tally rfl)
  · intro h
    rw [before] at h
    have first : SameTally .packAlarm s (linkedPort p r s) := linkedPort_sameTally (by decide) (by decide)
    exact (first.tallied (alarmEvent_tallied (risen_weight_ne_zero h))).same (tally rfl)
  · intro h
    rw [before] at h
    have first : SameTally .packAlarm s (linkedPort p r s) := linkedPort_sameTally (by decide) (by decide)
    have none : u = linkedPort p r s := alarmEvent_none (risen_weight_eq_zero.2 h)
    rw [none] at tally
    exact first.trans (tally rfl)
  · rw [takeTelemetry_eq]; exact portChanged_soc
  · rw [takeTelemetry_eq]; exact portChanged_path
  · rw [takeTelemetry_eq, portChanged_slc, placeRelay_slc, alarmEvent_slc, linkedPort_slc]

end Sys2Proof.Machine

namespace Sys2Proof.Machine

/-! ## PASS (R45, R46) -/

section
variable {s : State} {bs : List Byte} {tag : Nat}

/-- The verdict on the item of a PASS (R45). -/
def passVerdict (s : State) (bs : List Byte) : Verdict :=
  ((s.ppt.filter.list.filterMap id).find? fun f => decide (f.low ≤ arg1 bs 1) && decide (arg1 bs 1 ≤ f.high)).elim
    .forward FilterEntry.verdict

theorem passVerdict_eq : filterVerdict s.ppt.filter (arg1 bs 1) = passVerdict s bs := by
  unfold filterVerdict passVerdict
  split <;> next h => rw [h]; rfl

theorem filters_iff {v : Verdict} {write : Bool} :
    filters v write = true ↔ v = .refuse ∨ (v = .readOnly ∧ write = true) := by
  cases v <;> simp [filters]

theorem unreachable_iff {st : PortState} :
    unreachable st = true ↔ st = .absent ∨ st = .identifying ∨ st = .unresponsive := by
  cases st <;> simp [unreachable]

/-- The pack that a PASS with a good selector names (R46). -/
def passPack (bs : List Byte) : Pack := if arg1 bs 0 = 0 then .a else .b

/-- The first check of R46 that a PASS fails. -/
def passCode (bs : List Byte) (s : State) : Option ResultCode :=
  if bs.length < 3 ∨ (arg1 bs 2 = 0 ∧ bs.length < 4) then some .badLength
  else if 1 < arg1 bs 0 ∨ 1 < arg1 bs 2 ∨ (arg1 bs 2 = 0 ∧ (arg1 bs 3 = 0 ∨ 30 < arg1 bs 3)) then some .badArgument
  else if (arg1 bs 2 = 0 ∧ bs.length ≠ 4) ∨ (arg1 bs 2 = 1 ∧ 30 < bs.length - 3) then some .badLength
  else if passVerdict s bs = .refuse ∨ (passVerdict s bs = .readOnly ∧ arg1 bs 2 = 1) then some .filtered
  else if (s.ppt.ports.get (passPack bs)).state = .absent ∨ (s.ppt.ports.get (passPack bs)).state = .identifying ∨
      (s.ppt.ports.get (passPack bs)).state = .unresponsive then some .noPack
  else if (s.ppt.ports.get (passPack bs)).slot.state ≠ .idle then some .busy
  else none

theorem packOf_passPack (h : arg1 bs 0 ≤ 1) : packOf (arg1 bs 0) = some (passPack bs) := by
  obtain h | h : arg1 bs 0 = 0 ∨ arg1 bs 0 = 1 := by omega
  · rw [passPack, h]; rfl
  · rw [passPack, h]; rfl

/-- The checks of R46 find the first that fails, or the pack addressed. -/
theorem passChecks_eq : passChecks bs s = (passCode bs s).elim (.ok (passPack bs)) .error := by
  unfold passChecks passCode
  by_cases short : bs.length < 3 ∨ (arg1 bs 2 = 0 ∧ bs.length < 4)
  · rw [if_pos short, if_pos short]; rfl
  rw [if_neg short, if_neg short]
  by_cases pack : 1 < arg1 bs 0
  · have none : packOf (arg1 bs 0) = none := by
      rw [packOf, if_neg (by omega), if_neg (by omega)]
    rw [none, if_pos (.inl pack)]; rfl
  rw [packOf_passPack (by omega), passVerdict_eq]
  dsimp only
  have long : 33 < bs.length ↔ 30 < bs.length - 3 := by omega
  simp only [filters_iff, unreachable_iff, pack, false_or, long, decide_eq_true_eq]
  split_ifs <;> rfl

theorem exec_pass_at_head (head : s.slc.requests.head? = some ⟨.pass, tag, bs⟩) (room : replyRoom s = true) :
    exec .pass s = .next (passHead ⟨.pass, tag, bs⟩ s) := by
  obtain ⟨rest, hr⟩ := List.head?_eq_some_iff.1 head
  change execPass s = _
  rw [execPass, hr]
  exact if_pos ⟨rfl, room⟩

theorem passHead_refused {code : ResultCode} (h : passCode bs s = some code) :
    passHead ⟨.pass, tag, bs⟩ s = answered tag code [] s := by
  have checks : passChecks bs (popRequest s) = .error code := by
    rw [passChecks_eq]
    exact congrArg (Option.elim · _ _) h
  unfold passHead
  dsimp only
  rw [checks]
  rfl

theorem passHead_accepted (h : passCode bs s = none) : passHead ⟨.pass, tag, bs⟩ s =
    setPort (passPack bs) ((s.ppt.ports.get (passPack bs)).acceptPass tag bs.tail) (popRequest s) := by
  have checks : passChecks bs (popRequest s) = .ok (passPack bs) := by
    rw [passChecks_eq]
    exact congrArg (Option.elim · _ _) h
  unfold passHead
  dsimp only
  rw [checks]
  rfl

end

/-- Settles O29: the checks by `passChecks_eq`, the turn by the head and the room. -/
theorem passIsCheckedInOrder : Obligations.PassIsCheckedInOrder := by
  refine fun s => ⟨fun h => ?_, fun tag bs head room => ?_⟩
  · change execPass s = _
    unfold execPass
    split
    · rfl
    · next r rest hr =>
      refine if_neg fun k => ?_
      obtain ⟨kind, tag, bs⟩ := r
      obtain ⟨rfl, room⟩ : kind = .pass ∧ _ := k
      rw [h tag bs (by rw [hr]; rfl)] at room
      cases room
  · intro n p x verdict code
    have found : passCode bs s = code := rfl
    refine ⟨fun c hc => ?_, fun hc => ?_⟩
    · rw [exec_pass_at_head head room, passHead_refused (found.trans hc)]
    · rw [exec_pass_at_head head room, passHead_accepted (found.trans hc)]
      rfl

end Sys2Proof.Machine

namespace Sys2Proof.Machine

/-! ## Removal (R40, R49, R56, R70) -/

section
variable {s : State} {p : Pack}

/-! The pass-through of a removed pack (R49) -/

theorem resolveRemoved_of_not_waiting (h : (s.ppt.ports.get p).slot.state ≠ .waiting) : resolveRemoved p s = s :=
  if_neg h

theorem resolveRemoved_waiting (h : (s.ppt.ports.get p).slot.state = .waiting) :
    resolveRemoved p s = resolveSlot p .noPack [] s := if_pos h

theorem resolveSlot_discards (code : ResultCode) (data : List Byte) (h : (s.ppt.ports.get p).slot.discard = true) :
    resolveSlot p code data s = setPort p (s.ppt.ports.get p).slotIdle s := if_pos h

theorem resolveSlot_queues (code : ResultCode) (data : List Byte) (h : (s.ppt.ports.get p).slot.discard = false)
    (room : replyRoom s = true) : resolveSlot p code data s =
      enqueueReply ⟨(s.ppt.ports.get p).slot.tag, code, data, false⟩ (setPort p (s.ppt.ports.get p).slotIdle s) :=
  (if_neg (by rw [h]; decide)).trans (if_pos room)

theorem resolveSlot_holds (code : ResultCode) (data : List Byte) (h : (s.ppt.ports.get p).slot.discard = false)
    (room : replyRoom s = false) : resolveSlot p code data s =
      setPort p ((s.ppt.ports.get p).slotHolds ⟨(s.ppt.ports.get p).slot.tag, code, data, false⟩) s :=
  (if_neg (by rw [h]; decide)).trans (if_neg (by rw [room]; decide))

/-- Nothing but the pack's slot, its due request and the reply queue is moved by a resolution. -/
theorem resolveRemoved_leaves : (resolveRemoved p s).evr = s.evr ∧ (resolveRemoved p s).swi = s.swi ∧
    ((resolveRemoved p s).ppt.ports.get p).frameErrors = (s.ppt.ports.get p).frameErrors ∧
    (resolveRemoved p s).ppt.ports.get (otherPack p) = s.ppt.ports.get (otherPack p) := by
  have set (x : Port) (h : x.frameErrors = (s.ppt.ports.get p).frameErrors) :
      ((setPort p x s).ppt.ports.get p).frameErrors = (s.ppt.ports.get p).frameErrors ∧
        (setPort p x s).ppt.ports.get (otherPack p) = s.ppt.ports.get (otherPack p) :=
    ⟨by rw [setPort_get_self, h], by cases p <;> rfl⟩
  by_cases waits : (s.ppt.ports.get p).slot.state = .waiting
  · rw [resolveRemoved_waiting waits]
    cases discard : (s.ppt.ports.get p).slot.discard with
    | true => rw [resolveSlot_discards _ _ discard]; exact ⟨rfl, rfl, set _ rfl⟩
    | false =>
      cases room : replyRoom s with
      | true => rw [resolveSlot_queues _ _ discard room]; exact ⟨rfl, rfl, set _ rfl⟩
      | false => rw [resolveSlot_holds _ _ discard room]; exact ⟨rfl, rfl, set _ rfl⟩
  · rw [resolveRemoved_of_not_waiting waits]
    exact ⟨rfl, rfl, rfl, rfl⟩

/-! PPC's part (R40, R56, R70) -/

theorem setPhase_leaves (ph : Phase) :
    (setPhase p ph s).ppt = s.ppt ∧ (setPhase p ph s).slc = s.slc ∧ (setPhase p ph s).swi = s.swi := by
  by_cases h : (s.ppc.charge.get p).phase = ph
  · rw [setPhase_of_eq h]; exact ⟨rfl, rfl, rfl⟩
  · rw [setPhase_of_ne h]; exact ⟨route_ppt .., route_slc .., route_swi ..⟩

theorem chargeRemoval_ppc : (chargeRemoval p s).ppc = { s.ppc with charge := (chargeRemoval p s).ppc.charge } := by
  rw [chargeRemoval, setPhase_ppc]
  rfl

/-- A removal leaves an empty charge state in phase NONE (R70). -/
theorem chargeRemoval_self : (chargeRemoval p s).ppc.charge.get p =
    { (s.ppc.charge.get p).removed with phase := .none } := by
  have set : (setCharge p (s.ppc.charge.get p).removed s).ppc.charge.get p = (s.ppc.charge.get p).removed := by
    cases p <;> rfl
  unfold chargeRemoval
  by_cases h : (s.ppc.charge.get p).phase = .none
  · rw [setPhase_of_eq (by rw [set]; exact h), set, ← h]; rfl
  · rw [setPhase_of_ne (by rw [set]; exact h), route_ppc, set]
    cases p <;> rfl

theorem chargeRemoval_other :
    (chargeRemoval p s).ppc.charge.get (otherPack p) = s.ppc.charge.get (otherPack p) := by
  have set (c : Charge) (u : State) :
      (setCharge p c u).ppc.charge.get (otherPack p) = u.ppc.charge.get (otherPack p) := by cases p <;> rfl
  unfold chargeRemoval
  by_cases h : ((setCharge p (s.ppc.charge.get p).removed s).ppc.charge.get p).phase = .none
  · rw [setPhase_of_eq h, set]
  · rw [setPhase_of_ne h, route_ppc, set, set]

theorem chargeRemoval_sameTally {c : EventCode} (hc : c.ofSsc = false) (h : c ≠ .chargePhase) :
    SameTally c s (chargeRemoval p s) :=
  SameTally.trans (t := setCharge p (s.ppc.charge.get p).removed s) rfl (setPhase_sameTally hc h _)

/-- The bay after a removal of pack B: no request is pending, and a closed latch returns it to LATCHED (R40, R56). -/
theorem bayRemoval_bay : (bayRemoval s).ppc.bay.pending = false ∧
    (bayRemoval s).ppc.bay.state = (if s.swi.baylatch.level = some false then .latched else s.ppc.bay.state) ∧
    (bayRemoval s).ppc.charge = s.ppc.charge := by
  unfold bayRemoval
  dsimp only
  split
  · next due =>
    simp only [bayReturnDue, Bool.and_eq_true, decide_eq_true_eq] at due
    rw [if_pos due.1.2, bayLatched, redecidePaths_ppc, route_ppc]
    exact ⟨rfl, rfl, rfl⟩
  · next not =>
    refine ⟨rfl, ?_, rfl⟩
    split
    · next closed => simpa [bayReturnDue, closed] using not
    · rfl

theorem bayRemoval_leaves : (bayRemoval s).ppt = s.ppt ∧ (bayRemoval s).slc = s.slc := by
  unfold bayRemoval
  dsimp only
  split
  · exact ⟨(route_ppt ..), (route_slc ..)⟩
  · exact ⟨rfl, rfl⟩

theorem bayRemoval_sameTally {c : EventCode} (h : c ≠ .bayRelease) (hs : c ≠ .stateChange) :
    SameTally c s (bayRemoval s) := by
  unfold bayRemoval
  dsimp only
  split
  · exact SameTally.after (route_sameTally (d := c) _ _ h hs) rfl
  · rfl

theorem removalAtPpc_leaves : (removalAtPpc p s).ppt = s.ppt ∧ (removalAtPpc p s).slc = s.slc := by
  have charge (q : Pack) (u : State) : (chargeRemoval q u).ppt = u.ppt ∧ (chargeRemoval q u).slc = u.slc := by
    obtain ⟨ppt, slc, -⟩ := setPhase_leaves (s := setCharge q (u.ppc.charge.get q).removed u) (p := q) .none
    exact ⟨ppt, slc⟩
  cases p with
  | a => exact charge .a _
  | b =>
    obtain ⟨ppt, slc⟩ := bayRemoval_leaves (s := chargeRemoval .b (redecidePaths s))
    obtain ⟨ppt', slc'⟩ := charge .b (redecidePaths s)
    exact ⟨ppt.trans ppt', slc.trans slc'⟩

theorem removalAtPpc_charge : (removalAtPpc p s).ppc.charge = (chargeRemoval p (redecidePaths s)).ppc.charge := by
  cases p with
  | a => rfl
  | b => exact bayRemoval_bay.2.2

theorem removalAtPpc_sameTally {c : EventCode} (hc : c.ofSsc = false) (h : c ≠ .chargePhase) (hb : c ≠ .bayRelease) :
    SameTally c s (removalAtPpc p s) := by
  have charge (q : Pack) : SameTally c s (chargeRemoval q (redecidePaths s)) :=
    SameTally.trans (t := redecidePaths s) rfl (chargeRemoval_sameTally hc h)
  cases p with
  | a => exact charge .a
  | b => exact (charge .b).trans (bayRemoval_sameTally hb (EventCode.ne_of_ofSsc hc).1)

/-! The removal as a whole -/

/-- The state of a removal at which PPC is told of it: the port is empty and both events are produced. -/
def removalReported (p : Pack) (s : State) : State :=
  route .packLink (packNum p) PortState.absent.num (route .packRemoved (packNum p) 0
    (setPort p ((resolveRemoved p s).ppt.ports.get p).removed (resolveRemoved p s)))

theorem removePack_eq : removePack p s = refreshSoc (removalAtPpc p (removalReported p s)) := rfl

theorem removalReported_ppt : (removalReported p s).ppt =
    (setPort p ((resolveRemoved p s).ppt.ports.get p).removed (resolveRemoved p s)).ppt := by
  rw [removalReported, route_ppt, route_ppt]

theorem removePack_ppt : (removePack p s).ppt =
    (setPort p ((resolveRemoved p s).ppt.ports.get p).removed (resolveRemoved p s)).ppt := by
  rw [removePack_eq, refreshSoc, decideBattery_ppt, ← removalReported_ppt]
  exact removalAtPpc_leaves.1

theorem removePack_slc : (removePack p s).slc = (resolveRemoved p s).slc := by
  rw [removePack_eq, refreshSoc, decideBattery_slc]
  refine removalAtPpc_leaves.2.trans ?_
  rw [removalReported, route_slc, route_slc]
  rfl

theorem removePack_ppc : (removePack p s).ppc = (removalAtPpc p (removalReported p s)).ppc := by
  rw [removePack_eq, refreshSoc_ppc]

theorem removalReported_ppc : (removalReported p s).ppc = s.ppc := by
  rw [removalReported, route_ppc, route_ppc]
  exact resolveRemoved_ppc

theorem removalReported_swi : (removalReported p s).swi = s.swi := by
  rw [removalReported, route_swi, route_swi]
  exact resolveRemoved_leaves.2.1

theorem removePack_get : (removePack p s).ppt.ports.get p = ((resolveRemoved p s).ppt.ports.get p).removed := by
  rw [removePack_ppt, setPort_get_self]

/-- Under the paths' law a port that reports no pack has its path open (R52). -/
theorem path_opened_of_absent (law : s.ppc.path = ⟨pathOf s .a, pathOf s .b⟩)
    (h : (s.ppt.ports.get p).state = .absent) : (s.ppc.path.get p).mode = .opened := by
  have opened : pathOf s p = ⟨.opened, false⟩ := if_pos (by simp [pathForcedOpen, h])
  rw [law]
  cases p with
  | a => exact congrArg Path.mode opened
  | b => exact congrArg Path.mode opened

theorem removePack_path : ((removePack p s).ppc.path.get p).mode = .opened := by
  have paths : Law.holds .paths (removePack p s) := by
    rw [removePack_eq]
    exact refreshSoc_keeps (l := .paths) removalAtPpc_paths
  exact path_opened_of_absent paths (by rw [removePack_get]; rfl)

/-- Under the setpoint law a pack whose path is open has no setpoint (R53). -/
theorem setpoints_of_opened (law : SetpointLaw s) (h : (s.ppc.path.get p).mode = .opened) :
    s.ppc.setpoints.get p = noSetpoints := by
  obtain ⟨-, -, -, -, pathA, pathB, -⟩ := law
  cases p with
  | a => exact pathA.1 h
  | b => exact pathB.1 h

theorem removePack_setpoints (h : SetpointLaw s) : (removePack p s).ppc.setpoints.get p = noSetpoints :=
  setpoints_of_opened (removePack_lowers.law h) removePack_path

theorem removePack_charge : (removePack p s).ppc.charge.get p = { (s.ppc.charge.get p).removed with phase := .none } ∧
    (removePack p s).ppc.charge.get (otherPack p) = s.ppc.charge.get (otherPack p) := by
  have same : (redecidePaths (removalReported p s)).ppc.charge = s.ppc.charge := by
    rw [redecidePaths_ppc, removalReported_ppc]
  rw [removePack_ppc, removalAtPpc_charge, chargeRemoval_self, chargeRemoval_other, same]
  exact ⟨rfl, rfl⟩

theorem removePack_bay_a : (removePack .a s).ppc.bay = s.ppc.bay := by
  rw [removePack_ppc, removalAtPpc, chargeRemoval_ppc, redecidePaths_ppc, removalReported_ppc]

theorem removePack_bay_b : (removePack .b s).ppc.bay.pending = false ∧ (removePack .b s).ppc.bay.state =
    if s.swi.baylatch.level = some false then .latched else s.ppc.bay.state := by
  obtain ⟨pending, state, -⟩ := bayRemoval_bay (s := chargeRemoval .b (redecidePaths (removalReported .b s)))
  have swi : (chargeRemoval .b (redecidePaths (removalReported .b s))).swi = s.swi :=
    (setPhase_leaves .none).2.2.trans removalReported_swi
  rw [swi, chargeRemoval_ppc, redecidePaths_ppc, removalReported_ppc] at state
  rw [removePack_ppc]
  exact ⟨pending, state⟩

theorem removePack_sameTally {c : EventCode} (hc : c.ofSsc = false) (h : c ≠ .chargePhase) (hb : c ≠ .bayRelease) :
    SameTally c (removalReported p s) (removePack p s) :=
  (removalAtPpc_sameTally hc h hb).trans (SameTally.after (decideBattery_sameTally hc) rfl)

theorem removalReported_tallied :
    Tallied .packRemoved s (removalReported p s) ∧ Tallied .packLink s (removalReported p s) := by
  let u := setPort p ((resolveRemoved p s).ppt.ports.get p).removed (resolveRemoved p s)
  have same (c : EventCode) : SameTally c s u := .of_evr resolveRemoved_leaves.1
  have removed : Tallied .packRemoved u (route .packRemoved (packNum p) 0 u) := route_tallied _ _
  have left : SameTally .packLink u (route .packRemoved (packNum p) 0 u) := route_sameTally _ _
  exact ⟨((same _).tallied removed).same (route_sameTally _ _), ((same _).trans left).tallied (route_tallied _ _)⟩

end

/-- Settles O25: what `removePack` leaves at the port, at PPC, at SSC and in the tallies. -/
theorem removalClearsThePack : Obligations.RemovalClearsThePack := by
  intro p s x c reply
  refine ⟨fun h => if_neg (by rw [h]; decide), fun h absent => ?_, fun h seated => ?_⟩
  · exact (if_pos h).trans (if_pos absent)
  refine ⟨removePack p s, (if_pos h).trans (if_neg seated), fun hs => ?_, fun hs discard => ?_, fun hs discard room => ?_,
    fun hs discard room => ?_, ?_, ?_, removePack_charge.1, removePack_charge.2, removePack_path, removePack_setpoints,
    refreshSoc_soc, ?_, ?_, ?_, ?_⟩
  · rw [removePack_get, removePack_slc, resolveRemoved_of_not_waiting hs]
    exact ⟨rfl, rfl⟩
  · rw [removePack_get, removePack_slc, resolveRemoved_waiting hs, resolveSlot_discards _ _ discard, setPort_get_self]
    exact ⟨rfl, rfl⟩
  · rw [removePack_get, removePack_slc, resolveRemoved_waiting hs, resolveSlot_queues _ _ discard room,
      enqueueReply_ppt, setPort_get_self]
    exact ⟨rfl, rfl⟩
  · rw [removePack_get, removePack_slc, resolveRemoved_waiting hs, resolveSlot_holds _ _ discard room, setPort_get_self]
    exact ⟨rfl, rfl⟩
  · rw [removePack_get]
    exact congrArg (fun n => { ((resolveRemoved p s).ppt.ports.get p).removed with frameErrors := n })
      resolveRemoved_leaves.2.2.1
  · have other (y : Port) (u : State) : (setPort p y u).ppt.ports.get (otherPack p) = u.ppt.ports.get (otherPack p) := by
      cases p <;> rfl
    rw [removePack_ppt, other]
    exact resolveRemoved_leaves.2.2.2
  · exact removalReported_tallied.1.same (removePack_sameTally rfl (by decide) (by decide))
  · exact removalReported_tallied.2.same (removePack_sameTally rfl (by decide) (by decide))
  · rintro rfl
    exact removePack_bay_a
  · rintro rfl
    obtain ⟨pending, state⟩ := removePack_bay_b (s := s)
    refine ⟨pending, fun latched => ?_, fun closed => ?_, fun opened => ?_⟩
    · rw [state, latched, ite_self]
    · rw [state, if_pos closed]
    · rw [state, if_neg opened]

end Sys2Proof.Machine

namespace Sys2Proof.Machine

/-! ## The bay release (R54 to R57) -/

section
variable {s t : State} {w : Sweep}

/-! Entry to RELEASING and the return to LATCHED (R54, R56) -/

theorem enterReleasing_ppc : (enterReleasing s).ppc.bay =
    { s.ppc.bay with state := .releasing, quiet := 0, refused := false } ∧
    (enterReleasing s).ppc.path = ⟨pathOf (enterReleasing s) .a, pathOf (enterReleasing s) .b⟩ ∧
    (enterReleasing s).ppc.setpoints.b = noSetpoints := by
  have zero (old new : PathMode) : pathSetpoints old new noSetpoints = noSetpoints := by
    unfold pathSetpoints
    cases new <;> dsimp only <;> split <;> rfl
  refine ⟨?_, repath_settles (l := .paths) (.inl rfl), ?_⟩
  · rw [enterReleasing, repath_bay, route_ppc]
  · rw [enterReleasing, repath_ppc]
    simp only [redecidePaths, route_ppc, Ppc.zeroAll, PerPack.set, zero]

/-- An event is tallied also where other blocks moved before it. -/
theorem route_tallied_after {c : EventCode} (h : t.evr = s.evr) (n : Nat) (v : Int) (hs : c ≠ .stateChange := by decide) :
    Tallied c s (route c n v t) := (SameTally.of_evr h).tallied (route_tallied n v hs)

theorem enterReleasing_tallied : Tallied .bayRelease s (enterReleasing s) := by
  rw [enterReleasing]
  exact (route_tallied_after (by rfl) _ _).same (repath_sameTally rfl)

theorem enterReleasing_leaves : (enterReleasing s).swi = s.swi ∧ (enterReleasing s).slc = s.slc := by
  refine ⟨?_, ?_⟩
  · rw [enterReleasing, repath_swi, route_swi]
  · rw [enterReleasing, repath, decideBattery_slc, redecidePaths_slc, route_slc]

theorem bayReturnDue_iff : bayReturnDue s = true ↔
    s.ppc.bay.state ≠ .latched ∧ s.swi.baylatch.level = some false ∧ s.ppc.bay.pending = false := by
  simp [bayReturnDue, and_assoc]

theorem bayReturn_due (h : bayReturnDue s = true) :
    (bayReturn s).ppc.bay = { s.ppc.bay with state := .latched, quiet := 0 } ∧ (bayReturn s).swi = s.swi ∧
      (bayReturn s).slc = s.slc ∧ Tallied .bayRelease s (bayReturn s) := by
  have eq : bayReturn s = decideBattery (bayLatched s) := if_pos h
  have tallied : Tallied .bayRelease s (bayLatched s) := by
    rw [bayLatched]
    exact (route_tallied_after (by rfl) _ _).same rfl
  rw [eq]
  refine ⟨?_, ?_, ?_, tallied.same (decideBattery_sameTally rfl)⟩
  · rw [decideBattery_ppc, bayLatched, redecidePaths_ppc, route_ppc]
  · rw [decideBattery_swi, bayLatched, redecidePaths_swi, route_swi]
  · rw [decideBattery_slc, bayLatched, redecidePaths_slc, route_slc]

theorem bayReturn_not_due (h : ¬ bayReturnDue s = true) : bayReturn s = s := if_neg h

theorem bayReturn_slc : (bayReturn s).slc = s.slc := by
  by_cases h : bayReturnDue s = true
  · exact (bayReturn_due h).2.2.1
  · rw [bayReturn_not_due h]

/-! The requests (R57) -/

theorem setPending_slc : (setPending s).slc = s.slc := by
  unfold setPending
  dsimp only
  split
  · exact enterReleasing_leaves.2
  · rfl

theorem setPending_pending : (setPending s).ppc.bay.pending = true := by
  unfold setPending
  dsimp only
  split
  · rw [enterReleasing_ppc.1]
  · rfl

/-- A request at a LATCHED bay enters RELEASING (R54, R57). -/
theorem setPending_latched (h : s.ppc.bay.state = .latched) :
    (setPending s).ppc.bay = ⟨.releasing, true, 0, false⟩ ∧ (setPending s).ppc.setpoints.b = noSetpoints ∧
      Tallied .bayRelease s (setPending s) ∧
      (setPending s).ppc.path = ⟨pathOf (setPending s) .a, pathOf (setPending s) .b⟩ := by
  let v : State := { s with ppc := { s.ppc with bay := { s.ppc.bay with pending := true } } }
  have eq : setPending s = enterReleasing v := if_pos h
  obtain ⟨bay, path, none⟩ := enterReleasing_ppc (s := v)
  have tallied : Tallied .bayRelease v (enterReleasing v) := enterReleasing_tallied
  rw [eq]
  exact ⟨bay, none, tallied, path⟩

theorem setPending_not_latched (h : s.ppc.bay.state ≠ .latched) : setPending s =
    { s with ppc := { s.ppc with bay := { s.ppc.bay with pending := true } } } := if_neg h

theorem clearPending_slc : (clearPending s).slc = s.slc := bayReturn_slc

/-- BAY_CANCEL leaves no request pending, and a closed latch returns the bay to LATCHED (R56, R57). -/
theorem clearPending_bay : (clearPending s).ppc.bay.pending = false ∧
    (s.swi.baylatch.level = some false → (clearPending s).ppc.bay.state = .latched) ∧
    (s.swi.baylatch.level ≠ some false → (clearPending s).ppc.bay = { s.ppc.bay with pending := false }) := by
  let u : State := { s with ppc := { s.ppc with bay := { s.ppc.bay with pending := false } } }
  have eq : clearPending s = bayReturn u := rfl
  rw [eq]
  by_cases due : bayReturnDue u = true
  · obtain ⟨-, closed, -⟩ := bayReturnDue_iff.1 due
    obtain ⟨bay, -⟩ := bayReturn_due due
    rw [bay]
    exact ⟨rfl, fun _ => rfl, fun h => absurd closed h⟩
  · rw [bayReturn_not_due due]
    refine ⟨rfl, fun closed => ?_, fun _ => rfl⟩
    by_contra unlatched
    exact due (bayReturnDue_iff.2 ⟨unlatched, closed, rfl⟩)

/-! The examination at the end of a pass (R55) -/

theorem examineBay_idle (h : s.ppc.bay.state ≠ .releasing) : examineBay s = s := if_pos h

theorem examineBay_supplied (h : s.ppc.bay.state = .releasing) (alt : altSupply s .b = true) :
    examineBay s = if (s.sws.latest.get 7).value.natAbs < 200 then bayQuiet s
      else { s with ppc := { s.ppc with bay := { s.ppc.bay with quiet := 0 } } } :=
  (if_neg (not_not.2 h)).trans (if_pos alt)

theorem examineBay_refuses (h : s.ppc.bay.state = .releasing) (alt : altSupply s .b = false) :
    examineBay s = bayRefuse s := (if_neg (not_not.2 h)).trans (if_neg (by rw [alt]; decide))

theorem bayQuiet_first (h : s.ppc.bay.quiet = 0) :
    bayQuiet s = { s with ppc := { s.ppc with bay := { s.ppc.bay with quiet := 1 } } } := by
  rw [bayQuiet, if_pos (by omega), h]

/-- The second quiet pass releases the bay (R55). -/
theorem bayQuiet_second (h : 1 ≤ s.ppc.bay.quiet) :
    (bayQuiet s).ppc.bay = { s.ppc.bay with state := .released, quiet := 2 } ∧
      (bayQuiet s).ppc.path.b.mode = .opened ∧ Tallied .bayRelease s (bayQuiet s) := by
  let u := route .bayRelease 0 2
    { s with ppc := { s.ppc with bay := { s.ppc.bay with state := .released, quiet := 2 } } }
  have eq : bayQuiet s = repath u := if_neg (by omega)
  have bay : u.ppc.bay = { s.ppc.bay with state := .released, quiet := 2 } := by rw [route_ppc]
  have tallied : Tallied .bayRelease s u := route_tallied_after (by rfl) _ _
  have forced : pathForcedOpen u .b = true := by simp [pathForcedOpen, bay]
  have opened : pathOf u .b = ⟨.opened, false⟩ := if_pos forced
  rw [eq]
  refine ⟨by rw [repath_bay, bay], ?_, tallied.same (repath_sameTally rfl)⟩
  rw [repath_ppc]
  exact congrArg Path.mode opened

/-- A pass without another supply is refused once (R55). -/
theorem bayRefuse_leaves : (bayRefuse s).ppc.bay = { s.ppc.bay with quiet := 0, refused := true } ∧
    (s.ppc.bay.refused = false → Tallied .bayRefused s (bayRefuse s)) ∧
    (s.ppc.bay.refused = true → SameTally .bayRefused s (bayRefuse s)) := by
  unfold bayRefuse
  dsimp only
  split
  · next h => exact ⟨rfl, fun k => absurd (h.symm.trans k) (by decide), fun _ => rfl⟩
  · next h =>
    refine ⟨by rw [route_ppc], fun _ => ?_, fun k => absurd k h⟩
    exact route_tallied_after (by rfl) _ _

/-! The bay at a completion -/

theorem altSupply_b_congr (hl : t.lmt = s.lmt) (hp : t.ppt = s.ppt) (ha : t.ppc.adapter = s.ppc.adapter) :
    altSupply t .b = altSupply s .b := by
  simp only [altSupply, adapterAway, canSupply, otherPack, pathForcedOpen, hl, hp, ha]
  rfl

@[simp] theorem examineBay_ppt : (examineBay s).ppt = s.ppt := by
  unfold examineBay bayQuiet bayRefuse
  dsimp only
  repeat' split
  all_goals simp [repath]

@[simp] theorem endOfPass_ppt : (endOfPass s).ppt = s.ppt := by
  unfold endOfPass
  dsimp only
  repeat' split
  all_goals rfl

/-- A pass leaves the bay, the samples and the bay's tallies alone, and a completion ends with its examination. -/
theorem completed_bay (done : SweepDone s w) (ht : exec .sweepCompletion s = .next t) :
    let v := allocationPass w (passed s)
    v.ppc.bay = s.ppc.bay ∧ v.sws.latest = s.sws.latest ∧ t.ppc = (examineBay v).ppc ∧
      altSupply t .b = altSupply v .b ∧ (∀ c : EventCode, c = .bayRelease ∨ c = .bayRefused → SameTally c s v) ∧
      ∀ c, SameTally c (examineBay v) t := by
  intro v
  have ppc : t.ppc = (examineBay v).ppc := completed_ppc done ht
  rw [exec_completion done] at ht
  cases ht
  refine ⟨?_, ?_, ppc, ?_, ?_, fun c => endOfPass_sameTally⟩
  · rw [allocationPass_ppc, passed_ppc_of]
  · exact (sws_fields (sws_of_keeps fun _ => allocationPass_keeps w)).1.trans passed_latest
  · refine altSupply_b_congr ?_ ?_ ?_
    · exact endOfPass_lmt.trans examineBay_lmt
    · exact endOfPass_ppt.trans examineBay_ppt
    · rw [ppc, examineBay_ppc]
  · have pass (c : EventCode) (hc : c.ofSsc = false) (on : c ≠ .throttleOn) (off : c ≠ .throttleOff) :
        SameTally c (passed s) v :=
      (throttleStage_sameTally hc on off (uncovered (passed s))).trans (.of_evr allocationPass_evr)
    rintro c (rfl | rfl)
    · exact (passed_sameTally rfl (by decide) (by decide) (by decide) (by decide)).trans
        (pass _ rfl (by decide) (by decide))
    · exact (passed_sameTally rfl (by decide) (by decide) (by decide) (by decide)).trans
        (pass _ rfl (by decide) (by decide))

/-! The latch (R54, R56, R129) -/

theorem execBaylatch_idle (h : s.swi.baylatch.due = false ∨ s.swi.baylatch.level = none) :
    execBaylatchDebounceComplete s = .next s := by
  have none : s.swi.baylatch.completes = none := by
    unfold Input.completes
    obtain h | h := h <;> simp [h]
  unfold execBaylatchDebounceComplete
  rw [none]

theorem execBaylatch_due {opened : Bool} (due : s.swi.baylatch.due = true)
    (level : s.swi.baylatch.level = some (!opened)) : execBaylatchDebounceComplete s =
      .next (bayLatchReported opened
        { s with swi := { s.swi with baylatch := s.swi.baylatch.taken (some opened) } }) := by
  have completes : s.swi.baylatch.completes = some opened := by simp [Input.completes, due, level]
  unfold execBaylatchDebounceComplete
  rw [completes]

theorem bayLatchReported_opened (h : s.ppc.bay.state = .latched) : bayLatchReported true s = enterReleasing s := by
  rw [bayLatchReported, if_pos rfl, if_pos h]

theorem bayLatchReported_opened_idle (h : s.ppc.bay.state ≠ .latched) : bayLatchReported true s = s := by
  rw [bayLatchReported, if_pos rfl, if_neg h]

theorem bayLatchReported_closed : bayLatchReported false s = bayReturn s := if_neg (by decide)

end

/-- A reply moves nothing but the reply queue. -/
theorem answerWith_leaves (tag : Nat) (a : Answer) : (answerWith tag a).ppc = a.state.ppc ∧
    (answerWith tag a).evr = a.state.evr ∧ ∀ p, pathOf (answerWith tag a) p = pathOf a.state p :=
  ⟨rfl, rfl, fun _ => pathOf_congr rfl rfl rfl⟩

/-- Settles O30: the entry to RELEASING, the return to LATCHED and the examination, at each of their causes. -/
theorem bayReleasesInTwoQuietPasses : Obligations.BayReleasesInTwoQuietPasses := by
  refine ⟨fun s tag args ne => ⟨fun head => ?_, fun head => ?_⟩, fun s tag head => ⟨fun absent => ?_, fun seated => ?_⟩,
    fun s tag head => ?_, fun s opened => ?_, fun s t w done ht => ?_⟩
  · exact exec_refused (owner := releaseBay) rfl head (if_pos (ne_nil_length ne))
  · exact exec_refused (owner := bayCancel) rfl head (if_pos (ne_nil_length ne))
  · exact exec_refused (owner := releaseBay) rfl head (if_pos absent)
  · let u := setPending (popRequest s)
    have run : exec .releaseBay s = .next (answerWith tag (accept u (put1 u.ppc.bay.state.num))) := by
      rw [exec_at_head (owner := releaseBay) rfl head]
      exact congrArg (fun a => Host.Outcome.next (answerWith tag a)) (if_neg seated)
    have slc : u.slc = (popRequest s).slc := setPending_slc
    refine ⟨_, run, setPending_pending, congrArg (·.replies ++ _) slc, fun latched => ?_, fun moved => ?_⟩
    · obtain ⟨-, evr, paths⟩ := answerWith_leaves tag (accept u (put1 u.ppc.bay.state.num))
      obtain ⟨bay, none, tallied, path⟩ := setPending_latched (s := popRequest s) latched
      refine ⟨bay, none, Tallied.same tallied (.of_evr evr), ?_⟩
      rw [paths, paths]
      exact path
    · have eq := setPending_not_latched (s := popRequest s) moved
      exact ⟨congrArg (·.ppc.bay) eq, congrArg (·.evr) eq⟩
  · let u := clearPending (popRequest s)
    have run : exec .bayCancel s = .next (answerWith tag (accept u (put1 u.ppc.bay.state.num))) :=
      exec_at_head (owner := bayCancel) rfl head
    have slc : u.slc = (popRequest s).slc := clearPending_slc
    exact ⟨_, run, congrArg (·.replies ++ _) slc, clearPending_bay (s := popRequest s)⟩
  · intro x taken
    refine ⟨execBaylatch_idle, fun due level => ⟨bayLatchReported opened taken, execBaylatch_due due level, ?_⟩⟩
    cases opened with
    | true =>
      by_cases latched : s.ppc.bay.state = .latched
      · obtain ⟨bay, -, none⟩ := enterReleasing_ppc (s := taken)
        have tallied : Tallied .bayRelease taken (enterReleasing taken) := enterReleasing_tallied
        rw [bayLatchReported_opened (s := taken) latched]
        exact ⟨enterReleasing_leaves.1, fun _ _ => ⟨bay, none, tallied⟩, fun _ h => absurd latched h, nofun, nofun⟩
      · rw [bayLatchReported_opened_idle (s := taken) latched]
        exact ⟨rfl, fun _ h => absurd h latched, fun _ _ => rfl, nofun, nofun⟩
    | false =>
      rw [bayLatchReported_closed]
      by_cases due : bayReturnDue taken = true
      · obtain ⟨moved, -, free⟩ := bayReturnDue_iff.1 due
        obtain ⟨bay, swi, -, tallied⟩ := bayReturn_due due
        exact ⟨swi, nofun, nofun, fun _ _ _ => ⟨bay, tallied⟩, fun _ h => absurd h (not_or.2 ⟨moved, by rw [free]; decide⟩)⟩
      · rw [bayReturn_not_due due]
        exact ⟨rfl, nofun, nofun, fun _ h h' => absurd (bayReturnDue_iff (s := taken).2 ⟨h, rfl, h'⟩) due, fun _ _ => rfl⟩
  · intro ipb
    obtain ⟨bay, latest, ppc, alt, tally, rest⟩ := completed_bay done ht
    rw [alt, ppc, ← bay]
    refine ⟨fun idle => by rw [examineBay_idle idle], fun releasing => ⟨fun supplied quiet first => ?_,
      fun supplied quiet second => ?_, fun supplied loud => ?_, fun refused => ?_⟩⟩
    · rw [examineBay_supplied releasing supplied, latest, if_pos quiet, bayQuiet_first first]
    · have eq : examineBay (allocationPass w (passed s)) = bayQuiet (allocationPass w (passed s)) := by
        rw [examineBay_supplied releasing supplied, latest, if_pos quiet]
      rw [eq] at rest ⊢
      obtain ⟨released, opened, tallied⟩ := bayQuiet_second second
      exact ⟨released, opened, ((tally _ (.inl rfl)).tallied tallied).same (rest _)⟩
    · rw [examineBay_supplied releasing supplied, latest, if_neg (not_lt.2 loud)]
    · rw [examineBay_refuses releasing refused] at rest ⊢
      obtain ⟨marked, first, again⟩ := bayRefuse_leaves (s := allocationPass w (passed s))
      exact ⟨marked, fun h => ((tally _ (.inr rfl)).tallied (first h)).same (rest _),
        fun h => ((tally _ (.inr rfl)).trans (again h)).trans (rest _)⟩

end Sys2Proof.Machine

namespace Sys2Proof.Machine

/-! ## The debounce completions (R104, R117, R125 to R128, R138) -/

section
variable {s : State}

/-! What an event leaves of the keyboard -/

theorem route_kms_cases (c : EventCode) (n : Nat) (v : Int) : (route c n v s).kms = s.kms ∨
    (s.ssc.state = .off ∧ (route c n v s).kms = if s.kms.gated then s.kms else s.kms.started) ∨
    (route c n v s).kms = { s.kms with countdown := s.kms.countdown.map (min · 1) } := by
  by_cases h : sscActs (s.evr.policyOf c) c v s.ssc = true
  · obtain ho | hs := state_of_sscActs h
    · rw [route_of_off ho h]
      obtain ⟨capture, countdown, fans, eval, e⟩ := setMode_full_frame (s := { s with
        evr := s.evr.takeTwice c n v .booting s.tmb.ms
        kms := if s.kms.gated then s.kms else s.kms.started
        ssc := { s.ssc with
          state := .booting
          sysen := true
          wake := false
          bootTimer := some 30000
          wakeCause := c.num } })
      rw [e]
      exact .inr (.inl ⟨ho, rfl⟩)
    · rw [route_of_standby hs h]
      exact .inr (.inr rfl)
  · rw [route_acts_not h]
    exact .inl rfl

/-- An event does not move a keyboard that is stopped behind its gate. -/
theorem route_kms_of_gated (c : EventCode) (n : Nat) (v : Int) (gated : s.kms.gated = true)
    (stopped : s.kms.countdown = none) : (route c n v s).kms = s.kms := by
  obtain h | ⟨-, h⟩ | h := route_kms_cases (s := s) c n v
  · exact h
  · rw [h, if_pos gated]
  · rw [h, stopped, Option.map_none, ← stopped]

/-- Nor, outside OFF, one that is about to make its pass. -/
theorem route_kms_of_started (c : EventCode) (n : Nat) (v : Int) (on : s.ssc.state ≠ .off)
    (started : s.kms.countdown = some 1) : (route c n v s).kms = s.kms := by
  obtain h | ⟨off, -⟩ | h := route_kms_cases (s := s) c n v
  · exact h
  · exact absurd off on
  · have same : (some 1).map (min · 1) = s.kms.countdown := started.symm
    rw [h, started, same]

/-! The keyboard's gate (R104, R117) -/

theorem regate_enters (open' : s.kms.gated = false) (gate : gateOf s.swi.lid.level s.swi.hinge.level = true) :
    regate s = stopKeys { s with kms := { s.kms with gated := true } } := by
  simp [regate, open', gate]

theorem regate_exits (gated : s.kms.gated = true) (gate : gateOf s.swi.lid.level s.swi.hinge.level = false) :
    regate s = gateExit { s with kms := { s.kms with gated := false } } := by
  simp [regate, gated, gate]

theorem regate_same (h : s.kms.gated = gateOf s.swi.lid.level s.swi.hinge.level) : regate s = s := by
  simp [regate, ← h]

theorem gateExit_eq : gateExit s = if s.ssc.state = .off then s else
    { s with kms := { s.kms with countdown := some 1, firstPass := true, exited := true } } := rfl

/-- The records of a held key are gone with its press, and every position is UP (R117). -/
theorem keyStopped_held {r : PosRec} (h : r.state = .down ∨ r.state = .releaseDebounce) :
    keyStopped r = ⟨.up, 0, 0, r.layer, false, false⟩ := by
  unfold keyStopped
  obtain h | h := h <;> rw [h] <;> rfl

theorem keyStopped_other {r : PosRec} (h : ¬ (r.state = .down ∨ r.state = .releaseDebounce)) :
    keyStopped r = { r with state := .up, count := 0 } := by
  unfold keyStopped
  cases hr : r.state with
  | down => exact absurd (.inl hr) h
  | releaseDebounce => exact absurd (.inr hr) h
  | _ => rfl

/-- What the change of a level leaves outside KMS and EVR. -/
theorem regate_frame : regate s = { s with kms := (regate s).kms, evr := (regate s).evr } := by
  unfold regate gateExit
  dsimp only
  repeat' split
  all_goals rfl

/-! The curve set (R138) -/

theorem select_same {f : Fnc} {c : CurveSet} (h : c = f.set) : f.select c = f := if_pos h

theorem select_new {f : Fnc} {c : CurveSet} (h : c ≠ f.set) : f.select c =
    { f with set := c, fans := ⟨{ f.fans.one with fresh := true }, { f.fans.two with fresh := true }⟩ } := if_neg h

/-- What a change of level leaves before its event: KMS, EVR's queues and the curve set are moved, nothing else. -/
theorem selectCurves_regate : selectCurves (regate s) = { s with
    kms := (regate s).kms
    evr := (regate s).evr
    fnc := s.fnc.select (curveSetOf s.swi.lid.level s.swi.hinge.level) } := by
  change { regate s with
    fnc := (regate s).fnc.select (curveSetOf (regate s).swi.lid.level (regate s).swi.hinge.level) } = _
  rw [regate_frame]

theorem keyStopped_up (r : PosRec) : (keyStopped r).state = .up := by
  by_cases h : r.state = .down ∨ r.state = .releaseDebounce
  · rw [keyStopped_held h]
  · rw [keyStopped_other h]

theorem select_set (f : Fnc) (c : CurveSet) : (f.select c).set = c := by
  by_cases h : c = f.set
  · rw [select_same h, h]
  · rw [select_new h]

/-! What a LID or HINGE completion leaves before its event -/

/-- Key records are not tallied (R172). -/
theorem regate_tally : (regate s).evr.tally = s.evr.tally := by
  unfold regate gateExit stopKeys
  dsimp only
  repeat' split
  · exact placeKeys_tally _ _
  all_goals rfl

/-- The gate after a change of level is the one that the levels ask for. -/
theorem regate_gated : (regate s).kms.gated = gateOf s.swi.lid.level s.swi.hinge.level := by
  cases gate : gateOf s.swi.lid.level s.swi.hinge.level with
  | true =>
    cases gated : s.kms.gated with
    | true => rw [regate_same (gated.trans gate.symm), gated]
    | false => rw [regate_enters gated gate]; rfl
  | false =>
    cases gated : s.kms.gated with
    | true => rw [regate_exits gated gate, gateExit_eq]; split <;> rfl
    | false => rw [regate_same (gated.trans gate.symm), gated]

theorem regate_evr (h : s.kms.gated = true ∨ gateOf s.swi.lid.level s.swi.hinge.level = false) :
    (regate s).evr = s.evr := by
  cases gate : gateOf s.swi.lid.level s.swi.hinge.level with
  | true =>
    rw [gate] at h
    rw [regate_same ((h.resolve_right (by decide)).trans gate.symm)]
  | false =>
    cases gated : s.kms.gated with
    | true => rw [regate_exits gated gate, gateExit_eq]; split <;> rfl
    | false => rw [regate_same (gated.trans gate.symm)]

theorem execLidHinge_idle {i : LidHinge}
    (h : (s.swi.input (lidHingeInput i)).due = false ∨ (s.swi.input (lidHingeInput i)).level = none) :
    execLidHingeDebounceComplete i s = .next s := by
  have none : (s.swi.input (lidHingeInput i)).completes = none := by
    unfold Input.completes
    obtain h | h := h <;> simp [h]
  unfold execLidHingeDebounceComplete
  dsimp only
  rw [none]

theorem execLidHinge_due {i : LidHinge} {l : Bool} (due : (s.swi.input (lidHingeInput i)).due = true)
    (level : (s.swi.input (lidHingeInput i)).level = some l) : execLidHingeDebounceComplete i s =
      .next (handLidHinge i (!l)
        (setInput (lidHingeInput i) ((s.swi.input (lidHingeInput i)).taken (some (!l))) s)) := by
  have completes : (s.swi.input (lidHingeInput i)).completes = some (!l) := by simp [Input.completes, due, level]
  unfold execLidHingeDebounceComplete
  dsimp only
  rw [completes]

theorem execPwrbtn_idle (h : s.swi.pwrbtn.due = false ∨ s.swi.pwrbtn.level = none) :
    execPwrbtnDebounceComplete s = .next s := by
  have none : s.swi.pwrbtn.completes = none := by
    unfold Input.completes
    obtain h | h := h <;> simp [h]
  unfold execPwrbtnDebounceComplete
  rw [none]

theorem execPwrbtn_due {pressed : Bool} (due : s.swi.pwrbtn.due = true)
    (level : s.swi.pwrbtn.level = some (!pressed)) : execPwrbtnDebounceComplete s =
      .next (route .powerButton 0 pressed.toNat
        { s with swi := { s.swi with pwrbtn := s.swi.pwrbtn.taken (some pressed) }.hold pressed }) := by
  have completes : s.swi.pwrbtn.completes = some pressed := by simp [Input.completes, due, level]
  unfold execPwrbtnDebounceComplete
  rw [completes]

end

/-- Settles O35: the keyboard's gate, the curve set and then the event, on the state these leave. -/
theorem debouncedLevelsAreHandedOn : Obligations.DebouncedLevelsAreHandedOn := by
  refine ⟨fun i s l => ?_, fun s pressed => ⟨execPwrbtn_idle, fun due level => ?_⟩⟩
  · intro x taken gate
    refine ⟨execLidHinge_idle, fun due level => ?_⟩
    obtain ⟨kms, evr, fnc, ssc, tmb⟩ : taken.kms = s.kms ∧ taken.evr = s.evr ∧ taken.fnc = s.fnc ∧
        taken.ssc = s.ssc ∧ taken.tmb = s.tmb := by cases i <;> exact ⟨rfl, rfl, rfl, rfl, rfl⟩
    let u := selectCurves (regate taken)
    let t := handLidHinge i (!l) taken
    have frame : EventFrame u t := route_eventFrame
    have left : u = { taken with
        kms := (regate taken).kms
        evr := (regate taken).evr
        fnc := taken.fnc.select (curveSetOf taken.swi.lid.level taken.swi.hinge.level) } := selectCurves_regate
    have uKms : u.kms = (regate taken).kms := rfl
    have uEvr : u.evr = (regate taken).evr := rfl
    have uFnc : u.fnc = s.fnc.select (curveSetOf taken.swi.lid.level taken.swi.hinge.level) := by rw [left, ← fnc]
    have uSwi : u.swi = taken.swi := by rw [left]
    have uSsc : u.ssc = s.ssc := by rw [left, ← ssc]
    have entering (open' : s.kms.gated = false) (closes : gate = true) :
        regate taken = stopKeys { taken with kms := { taken.kms with gated := true } } :=
      regate_enters (by rw [kms]; exact open') closes
    have leaving (gated : s.kms.gated = true) (opens : gate = false) :
        regate taken = gateExit { taken with kms := { taken.kms with gated := false } } :=
      regate_exits (by rw [kms]; exact gated) opens
    have keeping (same : s.kms.gated = gate) : regate taken = taken := regate_same (by rw [kms]; exact same)
    have enters (open' : s.kms.gated = false) (closes : gate = true) :
        u.kms = { s.kms with
          positions := s.kms.positions.map keyStopped
          gated := true
          countdown := none
          firstPass := true
          exited := false } := by
      rw [uKms, entering open' closes, ← kms]; rfl
    have exits (gated : s.kms.gated = true) (opens : gate = false) (on : s.ssc.state ≠ .off) :
        u.kms = { s.kms with gated := false, countdown := some 1, firstPass := true, exited := true } := by
      rw [uKms, leaving gated opens, gateExit_eq, if_neg (by rw [ssc]; exact on), ← kms]
    have stays (same : s.kms.gated = gate) : u.kms = s.kms := by rw [uKms, keeping same, kms]
    have tally (c : EventCode) : SameTally c s u := by
      rw [SameTally, uEvr, regate_tally, evr]
    refine ⟨t, execLidHinge_due due level, frame.swi.trans uSwi, ?_, ?_, ?_, ?_, fun open' closes => ?_,
      fun gated opens on => ?_, fun same => ?_, u, ?_⟩
    · rw [frame.kms]; exact regate_gated
    · rw [frame.fnc, uFnc]; exact select_set ..
    · rintro rfl; exact (tally _).tallied (route_tallied _ _)
    · rintro rfl; exact (tally _).tallied (route_tallied _ _)
    · have still : t.kms = u.kms :=
        route_kms_of_gated _ _ _ (by rw [enters open' closes]) (by rw [enters open' closes])
      rw [still, enters open' closes]
      refine ⟨rfl, rfl, fun p => ?_⟩
      rw [Table.get_map]
      exact keyStopped_up _
    · have still : t.kms = u.kms :=
        route_kms_of_started _ _ _ (by rw [uSsc]; exact on) (by rw [exits gated opens on])
      rw [still, exits gated opens on]
      exact ⟨rfl, rfl, rfl⟩
    · rw [frame.kms, stays same]
    · intro held releases set
      refine ⟨?_, left.trans ?_, fun same => ?_, fun new => ?_, fun open' closes =>
        ⟨?_, ?_, fun p => ⟨fun h => ?_, fun h => ?_⟩⟩,
        fun h => ?_, fun gated opens => ⟨exits gated opens, fun off => ?_⟩, stays⟩
      · cases i <;> cases l <;> rfl
      · rw [uFnc, uKms, uEvr, fnc]
      · rw [uFnc]; exact select_same same
      · rw [uFnc]; exact select_new new
      · rw [uEvr, entering open' closes]
        change placeKeys (taken.kms.stopRecords taken.tmb.ms) taken.evr = _
        rw [kms, tmb, evr, stopRecords_eq]
        rfl
      · rw [enters open' closes]
      · rw [enters open' closes, Table.get_map]
        exact keyStopped_held h
      · rw [enters open' closes, Table.get_map]
        exact keyStopped_other h
      · rw [uEvr, regate_evr (by rw [kms]; exact h), evr]
      · rw [uKms, leaving gated opens, gateExit_eq, if_pos (by rw [ssc]; exact off), ← kms]
  · refine (execPwrbtn_due due level).trans ?_
    cases pressed <;> rfl

end Sys2Proof.Machine

namespace Sys2Proof.Machine

/-! ## An entry to FAULT and its action (R25 to R31) -/

section
variable {s t u : State} {ch : Fin 16} {d : LimitChan} {v : Int}

/-! What events and actions handed on leave alone -/

/-- What neither an event nor an action handed on moves: OFF is not entered, no fan enters or leaves STALL_LOCKOUT, and
policy, throttle, charge states, ports, inputs and link stay. -/
structure Handed (s t : State) : Prop where
  on : s.ssc.state ≠ .off → t.ssc.state ≠ .off
  policy : t.evr.policy = s.evr.policy
  throttle : t.ppc.throttle = s.ppc.throttle
  charge : t.ppc.charge = s.ppc.charge
  ppt : t.ppt = s.ppt
  swi : t.swi = s.swi
  slc : t.slc = s.slc
  lockout : ∀ f, (t.fnc.fans.get f).state = .stallLockout ↔ (s.fnc.fans.get f).state = .stallLockout

theorem Handed.refl (s : State) : Handed s s := ⟨id, rfl, rfl, rfl, rfl, rfl, rfl, fun _ => .rfl⟩

theorem Handed.trans (h : Handed s t) (k : Handed t u) : Handed s u :=
  ⟨k.on ∘ h.on, k.policy.trans h.policy, k.throttle.trans h.throttle, k.charge.trans h.charge, k.ppt.trans h.ppt,
    k.swi.trans h.swi, k.slc.trans h.slc, fun f => (k.lockout f).trans (h.lockout f)⟩

theorem Handed.foldl {α : Type} {f : State → α → State} (h : ∀ s a, Handed s (f s a)) (as : List α) (s : State) :
    Handed s (as.foldl f s) := by
  induction as generalizing s with
  | nil => exact .refl s
  | cons a as ih => exact (h s a).trans (ih _)

/-- No event takes the system to OFF (R154, R155, R168). -/
theorem route_on {c : EventCode} (n : Nat) (v : Int) (h : s.ssc.state ≠ .off) : (route c n v s).ssc.state ≠ .off := by
  by_cases acts : sscActs (s.evr.policyOf c) c v s.ssc = true
  · obtain off | standby := state_of_sscActs acts
    · exact absurd off h
    · rw [route_of_standby standby acts]; exact (by decide : SysState.waking ≠ .off)
  · rw [route_acts_not acts]; exact h

theorem route_handed (c : EventCode) (n : Nat) (v : Int) : Handed s (route c n v s) :=
  ⟨route_on n v, route_evr_policy .., by rw [route_ppc], by rw [route_ppc], route_ppt .., route_swi .., route_slc ..,
    fun f => by rw [route_fan_state]⟩

theorem decideBattery_handed : Handed s (decideBattery s) := by
  have same (x : Ssc) (u : State) (h : x.state = u.ssc.state) : Handed u { u with ssc := x } :=
    ⟨fun on => by rw [h]; exact on, rfl, rfl, rfl, rfl, rfl, rfl, fun _ => .rfl⟩
  have low : Handed s (decideLow s) := by
    unfold decideLow
    split
    · split
      · exact .refl s
      · exact (same { s.ssc with low := true } s rfl).trans (route_handed ..)
    · exact same _ s rfl
  refine low.trans ?_
  unfold decideBattery decideCritical
  generalize decideLow s = u
  split
  · split
    · exact .refl u
    · exact (same { u.ssc with critical := true } u rfl).trans ((route_handed ..).trans (same _ _ rfl))
  · split
    · exact same _ u rfl
    · exact .refl u

theorem repath_handed : Handed s (repath s) :=
  Handed.trans (t := redecidePaths s) ⟨id, rfl, rfl, rfl, rfl, rfl, rfl, fun _ => .rfl⟩ decideBattery_handed

/-- FAN_FULL brings no fan into or out of STALL_LOCKOUT (R145). -/
theorem fullDemand_lockout (x : FanState) : x.fullDemand.state = .stallLockout ↔ x.state = .stallLockout := by
  cases h : x.state <;> simp [FanState.fullDemand, FanState.setDemand, h]

theorem joinEffect_handed (a : Action) : Handed s (joinEffect a s) := by
  cases a with
  | fanFull =>
    refine ⟨id, rfl, rfl, rfl, rfl, rfl, rfl, fun f => ?_⟩
    rw [joinEffect, PerFan.get_map]
    exact fullDemand_lockout _
  | _ => exact ⟨id, rfl, rfl, rfl, rfl, rfl, rfl, fun _ => .rfl⟩

theorem leaveEffect_handed (a : Action) : Handed s (leaveEffect a s) := by
  cases a <;> exact ⟨id, rfl, rfl, rfl, rfl, rfl, rfl, fun _ => .rfl⟩

theorem handAction_handed (old new : List Action) (s : State) (a : Action) : Handed s (handAction old new s a) := by
  obtain ⟨-, h⟩ | ⟨-, -, h⟩ | ⟨-, -, h⟩ := handAction_cases old new s a <;> rw [h]
  · exact .refl s
  · exact (joinEffect_handed a).trans repath_handed
  · exact (leaveEffect_handed a).trans repath_handed

theorem recompute_handed : Handed s (recomputeActions s) := by
  let u : State := { s with lmt := { s.lmt with actionSet := s.lmt.carried } }
  have replaced : Handed s u := ⟨id, rfl, rfl, rfl, rfl, rfl, rfl, fun _ => .rfl⟩
  exact replaced.trans (.foldl (handAction_handed _ _) allActions u)

/-- A recomputation produces no event but SSC's own (R27, R162, R163). -/
theorem recompute_sameTally {c : EventCode} (hc : c.ofSsc = false) : SameTally c s (recomputeActions s) := by
  have each (old new : List Action) (u : State) (a : Action) : SameTally c u (handAction old new u a) := by
    have join : (joinEffect a u).evr = u.evr := by cases a <;> rfl
    have leave : (leaveEffect a u).evr = u.evr := by cases a <;> rfl
    obtain ⟨-, h⟩ | ⟨-, -, h⟩ | ⟨-, -, h⟩ := handAction_cases old new u a <;> rw [h]
    · rfl
    · exact (repath_sameTally hc).after join
    · exact (repath_sameTally hc).after leave
  have fold (as : List Action) (u : State) : SameTally c u (as.foldl (handAction s.lmt.actionSet s.lmt.carried) u) := by
    induction as generalizing u with
    | nil => rfl
    | cons a as ih => exact (each _ _ u a).trans (ih _)
  exact fold allActions { s with lmt := { s.lmt with actionSet := s.lmt.carried } }

/-! What a join leaves in force -/

/-- What the join of an action brings about, and no other action undoes, stands after the recomputation that carries the
action (R27). -/
theorem recompute_joined {a : Action} (P : State → Prop) (carried : a ∈ s.lmt.carried)
    (join : ∀ u, u.lmt.actionSet = s.lmt.carried → P (repath (joinEffect a u)))
    (others : ∀ u b, b ≠ a → P u → P (handAction s.lmt.actionSet s.lmt.carried u b))
    (before : a ∈ s.lmt.actionSet → P { s with lmt := { s.lmt with actionSet := s.lmt.carried } }) :
    P (recomputeActions s) := by
  have stays (u : State) (set : u.lmt.actionSet = s.lmt.carried) (hu : P u) (b : Action) :
      P (handAction s.lmt.actionSet s.lmt.carried u b) := by
    by_cases hb : b = a
    · subst hb
      obtain ⟨-, h⟩ | ⟨-, -, h⟩ | ⟨c, -, -⟩ := handAction_cases s.lmt.actionSet s.lmt.carried u b
      · rw [h]; exact hu
      · rw [h]; exact join u set
      · rw [List.contains_iff_mem.2 carried] at c; cases c
    · exact others u b hb hu
  have fold (as : List Action) : ∀ u : State, u.lmt.actionSet = s.lmt.carried →
      (P u ∨ (a ∈ as ∧ a ∉ s.lmt.actionSet)) → P (as.foldl (handAction s.lmt.actionSet s.lmt.carried) u) := by
    induction as with
    | nil => exact fun u _ h => h.resolve_right fun ⟨h, _⟩ => absurd h List.not_mem_nil
    | cons b as ih =>
      intro u set h
      refine ih _ (by rw [handAction_lmt]; exact set) ?_
      obtain hu | ⟨mem, new⟩ := h
      · exact .inl (stays u set hu b)
      · by_cases hb : b = a
        · subst hb
          have joins : handAction s.lmt.actionSet s.lmt.carried u b = repath (joinEffect b u) := by
            simp [handAction, carried, new]
          exact .inl (by rw [joins]; exact join u set)
        · exact .inr ⟨(List.mem_cons.1 mem).resolve_left (Ne.symm hb), new⟩
  refine fold allActions _ rfl ?_
  by_cases old : a ∈ s.lmt.actionSet
  · exact .inl (before old)
  · exact .inr ⟨mem_allActions a, old⟩

/-- An operation of one action that a block's field survives survives the recomputation. -/
theorem handAction_of_effects {P : State → Prop} {old new : List Action} (b : Action)
    (repaths : ∀ u, P u → P (repath u)) (join : P (joinEffect b u)) (leave : P (leaveEffect b u)) (hu : P u) :
    P (handAction old new u b) := by
  obtain ⟨-, h⟩ | ⟨-, -, h⟩ | ⟨-, -, h⟩ := handAction_cases old new u b <;> rw [h]
  · exact hu
  · exact repaths _ join
  · exact repaths _ leave

theorem recompute_inputOpen (carried : Action.inputOpen ∈ s.lmt.carried)
    (before : Action.inputOpen ∈ s.lmt.actionSet → s.ppc.adapterSwitchOpen = true) :
    (recomputeActions s).ppc.adapterSwitchOpen = true := by
  have repaths (u : State) (h : u.ppc.adapterSwitchOpen = true) : (repath u).ppc.adapterSwitchOpen = true := by
    rw [repath_ppc]; exact h
  refine recompute_joined (a := .inputOpen) (fun u => u.ppc.adapterSwitchOpen = true) carried
    (fun u _ => repaths _ rfl) (fun u b hb hu => ?_) before
  have effects : (joinEffect b u).ppc.adapterSwitchOpen = true ∧ (leaveEffect b u).ppc.adapterSwitchOpen = true := by
    cases b with
    | inputOpen => exact absurd rfl hb
    | _ => exact ⟨hu, hu⟩
  exact handAction_of_effects (P := fun u => u.ppc.adapterSwitchOpen = true) b repaths effects.1 effects.2 hu

theorem recompute_ltr (carried : Action.throttle ∈ s.lmt.carried)
    (before : Action.throttle ∈ s.lmt.actionSet → s.ppc.ltr = true) : (recomputeActions s).ppc.ltr = true := by
  have repaths (u : State) (h : u.ppc.ltr = true) : (repath u).ppc.ltr = true := by rw [repath_ppc]; exact h
  refine recompute_joined (a := .throttle) (fun u => u.ppc.ltr = true) carried
    (fun u set => repaths _ ?_) (fun u b hb hu => ?_) before
  · refine (redriveLtr_ltr (s := u)).2 (.inr (.inr ?_))
    rw [set]; exact carried
  · have effects : (joinEffect b u).ppc.ltr = true ∧ (leaveEffect b u).ppc.ltr = true := by
      cases b with
      | throttle => exact absurd rfl hb
      | _ => exact ⟨hu, hu⟩
    exact handAction_of_effects (P := fun u => u.ppc.ltr = true) b repaths effects.1 effects.2 hu

/-- INPUT_OPEN joining takes every setpoint away, and no other action brings one back (R29). -/
theorem recompute_zeroed (carried : Action.inputOpen ∈ s.lmt.carried) (new : Action.inputOpen ∉ s.lmt.actionSet) :
    (recomputeActions s).ppc.setpoints = ⟨noSetpoints, noSetpoints⟩ := by
  have lowered {c e : Ppc} (h : c.Lowers e) (zero : c.setpoints = ⟨noSetpoints, noSetpoints⟩) :
      e.setpoints = ⟨noSetpoints, noSetpoints⟩ := by
    have each (p : Pack) : e.setpoints.get p = noSetpoints := by
      refine Setpoints.Lowered.eq_none (h := ?_)
      have := h.setpoints p
      rw [zero] at this
      cases p <;> exact this
    exact congrArg₂ PerPack.mk (each .a) (each .b)
  refine recompute_joined (a := .inputOpen) (fun u => u.ppc.setpoints = ⟨noSetpoints, noSetpoints⟩) carried
    (fun u _ => ?_) (fun u b _ => lowered (handAction_lowers _ _ u b)) (absurd · new)
  rw [repath_ppc]
  exact lowered (redecidePaths_lowers (s := joinEffect .inputOpen u)) rfl

/-! The entry as a whole -/

theorem enterFault_eq : enterFault ch d v s =
    if (s.lmt.entries.get ch).action = .systemOff
    then forceOff .fault (recomputeActions (reported ch (d.trip v s.tmb.ms) v s))
    else recomputeActions (reported ch (d.trip v s.tmb.ms) v s) := rfl

theorem enterFault_ppc : (enterFault ch d v s).ppc = (recomputeActions (reported ch (d.trip v s.tmb.ms) v s)).ppc := by
  rw [enterFault_eq]
  exact ite_forceOff_ppc _ _

theorem reported_ppc : (reported ch d v s).ppc = s.ppc := by
  unfold reported
  split
  · exact route_ppc ..
  · rfl

theorem reported_on (h : s.ssc.state ≠ .off) : (reported ch d v s).ssc.state ≠ .off := by
  unfold reported
  split
  · exact route_on _ _ h
  · exact h

/-- An assertion of SYSTEM_OFF leaves the part in OFF, and tallies no LIMIT_FAULT (R31, R160). -/
theorem forceOff_off (cause : ForceCause) (legal : PolicyLegal s.evr) : (forceOff cause s).ssc.state = .off ∧
    (s.ssc.state ≠ .off → (forceOff cause s).ssc.sysen = false) ∧ SameTally .limitFault s (forceOff cause s) := by
  by_cases off : s.ssc.state = .off
  · have same : forceOff cause s = s := if_pos off
    rw [same]
    exact ⟨off, absurd off, rfl⟩
  · have entered := (forceOff_enters cause off legal).1.1
    refine ⟨by rw [entered], fun _ => by rw [entered], ?_⟩
    rw [SameTally, forceOff_tally cause off legal, Table.get_set_ne _ _ (by decide), Table.get_set_ne _ _ (by decide)]

/-- What LIMIT_FAULT's path to the end of the entry leaves alone, and the end at SSC (R25, R31). -/
theorem enterFault_ends (legal : PolicyLegal s.evr) :
    ((s.lmt.entries.get ch).reportFault = true → Tallied .limitFault s (enterFault ch d v s)) ∧
    ((s.lmt.entries.get ch).action = .systemOff →
      (enterFault ch d v s).ssc.state = .off ∧ (s.ssc.state ≠ .off → (enterFault ch d v s).ssc.sysen = false)) := by
  let r := reported ch (d.trip v s.tmb.ms) v s
  have handed : Handed r (recomputeActions r) := recompute_handed
  have legal' : PolicyLegal (recomputeActions r).evr := by
    have policy : (recomputeActions r).evr.policy = s.evr.policy := handed.policy.trans (reported_policy ..)
    simpa only [PolicyLegal, policy] using legal
  obtain ⟨off, sysen, tally⟩ := forceOff_off .fault legal'
  rw [enterFault_eq]
  refine ⟨fun reports => ?_, fun action => ?_⟩
  · have tallied : Tallied .limitFault s r := by
      have report : r = route .limitFault ch.val v (withChan ch (d.trip v s.tmb.ms) s) := if_pos reports
      rw [report]
      exact route_tallied_after (by rfl) _ _
    split
    · exact (tallied.same (recompute_sameTally rfl)).same tally
    · exact tallied.same (recompute_sameTally rfl)
  · rw [if_pos action]
    exact ⟨off, fun on => sysen (handed.on (reported_on on))⟩

theorem mem_carried {l : Lmt} {a : Action} : a ∈ l.carried ↔
    a ≠ .none ∧ ∃ i, (l.chans.get i).Tripped ∧ (l.entries.get i).action = a := by
  simp [Lmt.carried, mem_allActions, Lmt.carries_iff]

/-- A channel that trips adds the action of its entry to the carried ones, and no other (R27). -/
theorem mem_carried_setChan {l : Lmt} {c : LimitChan} {a : Action} (hc : c.Tripped) :
    a ∈ (l.setChan ch c).carried ↔ (a ≠ .none ∧ (l.entries.get ch).action = a) ∨ a ∈ l.carried := by
  have entries : (l.setChan ch c).entries = l.entries := rfl
  have chan (i : Fin 16) : ((l.setChan ch c).chans.get i).Tripped ↔ i = ch ∨ (l.chans.get i).Tripped := by
    rw [Lmt.setChan, Table.get_set]
    split
    · next h => simp [h, hc]
    · next h => simp [h]
  simp only [mem_carried, chan, entries]
  constructor
  · rintro ⟨ne, i, rfl | tripped, action⟩
    · exact .inl ⟨ne, action⟩
    · exact .inr ⟨ne, i, tripped, action⟩
  · rintro (⟨ne, action⟩ | ⟨ne, i, tripped, action⟩)
    · exact ⟨ne, ch, .inl rfl, action⟩
    · exact ⟨ne, i, .inr tripped, action⟩

/-! What the action set says of the paths (R52, R53) -/

theorem pathOf_isolated {p : Pack} (h : isolateOf p ∈ s.lmt.actionSet) : (pathOf s p).mode = .opened := by
  have forced : pathForcedOpen s p = true := by simp [pathForcedOpen, h]
  rw [show pathOf s p = ⟨.opened, false⟩ from if_pos forced]

theorem pathOf_chargeStopped {p : Pack} (h : chargeStopOf p ∈ s.lmt.actionSet ∨ Action.chargeStopAll ∈ s.lmt.actionSet) :
    (pathOf s p).mode ≠ .full := by
  have stopped : chargeStopped s.lmt.actionSet p = true := by simp [chargeStopped, h]
  unfold pathOf
  repeat' split
  · nofun
  · nofun
  · nofun
  · nofun
  · next h => simp [stopped] at h

/-- Without a charge setpoint a pack has no charge voltage either (R94). -/
theorem SetpointsOk.chargeV {x : Setpoints} (h : SetpointsOk x) (hi : x.chargeI = 0) : x.chargeV = 0 := by
  obtain ⟨-, -, volts⟩ := h
  rwa [if_pos hi] at volts

/-- Under the paths' and the setpoints' laws a pack under a charge stop has no charge setpoint and no FULL path. -/
theorem chargeStopped_of_laws {p : Pack} (paths : Law.holds .paths s) (law : SetpointLaw s)
    (h : chargeStopOf p ∈ s.lmt.actionSet ∨ Action.chargeStopAll ∈ s.lmt.actionSet) :
    (s.ppc.setpoints.get p).chargeI = 0 ∧ (s.ppc.setpoints.get p).chargeV = 0 ∧ (s.ppc.path.get p).mode ≠ .full := by
  have notFull : (s.ppc.path.get p).mode ≠ .full := by
    rw [paths]
    cases p <;> exact pathOf_chargeStopped h
  obtain ⟨a, b, -, -, pathA, pathB, -⟩ := law
  cases p with
  | a => exact ⟨pathA.2 notFull, SetpointsOk.chargeV a (pathA.2 notFull), notFull⟩
  | b => exact ⟨pathB.2 notFull, SetpointsOk.chargeV b (pathB.2 notFull), notFull⟩

/-- Under the same laws an isolated pack has no setpoint and an open path. -/
theorem isolated_of_laws {p : Pack} (paths : Law.holds .paths s) (law : SetpointLaw s)
    (h : isolateOf p ∈ s.lmt.actionSet) : s.ppc.setpoints.get p = noSetpoints ∧ (s.ppc.path.get p).mode = .opened := by
  have opened : (s.ppc.path.get p).mode = .opened := by
    rw [paths]
    cases p <;> exact pathOf_isolated h
  exact ⟨setpoints_of_opened law opened, opened⟩

/-- Under the fans' law FAN_FULL drives every fan that is not locked out (R145). -/
theorem fanFull_of_law (law : FanLaw s) (h : Action.fanFull ∈ s.lmt.actionSet) (f : Fan)
    (free : (s.fnc.fans.get f).state ≠ .stallLockout) : (s.fnc.fans.get f).drive = 1000 := by
  obtain ⟨-, ⟨-, -, -, -, one, -⟩, ⟨-, -, -, -, two, -⟩, -⟩ := law
  cases f with
  | one => exact (one (List.contains_iff_mem.2 h) free).2
  | two => exact (two (List.contains_iff_mem.2 h) free).2

end

/-- Settles O13: the channel's action joins the set; what the blocks then do is read off their laws and the recomputation. -/
theorem faultEntryTakesItsAction : Obligations.FaultEntryTakesItsAction := by
  intro ch v s t w sweep turn enabled notFault beyond run protection fans setpoints legal ht a
  let u := stored ch v w s
  let d := (s.lmt.chans.get ch).enter .fault
  obtain ⟨carried, switch, path, ltr⟩ := protection
  have pathsT : Law.holds .paths t := exec_keeps (l := .paths) rfl nofun _ rfl t ht path
  have fansT : FanLaw t := exec_keeps (l := .fans) rfl nofun _ rfl t ht fans
  have setpointsT : SetpointLaw t := exec_keeps_setpointLaw setpoints ht
  rw [exec_conversion_fault sweep turn enabled notFault (judgeChan_enters_fault notFault beyond run)] at ht
  obtain rfl : enterFault ch d (clamped ch v) u = _ := by injection ht
  let r := reported ch (d.trip (clamped ch v) u.tmb.ms) (clamped ch v) u
  have tripped : (d.trip (clamped ch v) u.tmb.ms).Tripped := .inl rfl
  have rLmt : r.lmt = s.lmt.setChan ch (d.trip (clamped ch v) u.tmb.ms) := reported_lmt ..
  have rPpc : r.ppc = s.ppc := reported_ppc
  have actions : (enterFault ch d (clamped ch v) u).lmt.actionSet = r.lmt.carried := by rw [enterFault_lmt, rLmt]; rfl
  have mem (b : Action) : b ∈ r.lmt.carried ↔ (b ≠ .none ∧ a = b) ∨ b ∈ s.lmt.actionSet := by
    rw [rLmt, carried]
    exact mem_carried_setChan tripped
  have old (b : Action) : b ∈ r.lmt.actionSet ↔ b ∈ s.lmt.actionSet := by rw [rLmt]; rfl
  have joins {b : Action} (h : a = b) (ne : b ≠ .none) : b ∈ r.lmt.carried := (mem b).2 (.inl ⟨ne, h⟩)
  have inSet {b : Action} (h : a = b) (ne : b ≠ .none) : b ∈ (enterFault ch d (clamped ch v) u).lmt.actionSet := by
    rw [actions]; exact joins h ne
  obtain ⟨tally, off⟩ := enterFault_ends (s := u) (ch := ch) (d := d) (v := clamped ch v) legal
  refine ⟨?_, tally, inSet rfl, fun b hb => ?_, fun b hb => ?_, fun h => ?_, fun h => ?_, fun h => ?_, fun h => ?_,
    fun h => ⟨?_, fun new => ?_⟩, fun h f => ?_, fun h => ⟨?_, ?_⟩, off⟩
  · rw [enterFault_chan, ← sat255_eq_min]; rfl
  · rw [actions]; exact (mem b).2 (.inr hb)
  · rw [actions] at hb
    exact ((mem b).1 hb).imp_left fun ⟨_, h⟩ => h.symm
  · exact chargeStopped_of_laws (p := .a) pathsT setpointsT
      (h.imp (inSet · (by decide)) (inSet · (by decide)))
  · exact chargeStopped_of_laws (p := .b) pathsT setpointsT
      (h.imp (inSet · (by decide)) (inSet · (by decide)))
  · exact isolated_of_laws (p := .a) pathsT setpointsT (inSet h (by decide))
  · exact isolated_of_laws (p := .b) pathsT setpointsT (inSet h (by decide))
  · rw [enterFault_ppc]
    refine recompute_inputOpen (joins h (by decide)) fun before => ?_
    rw [rPpc, switch]
    exact List.contains_iff_mem.2 ((old _).1 before)
  · rw [enterFault_ppc]
    refine recompute_zeroed (joins h (by decide)) fun before => new ?_
    rw [h]
    exact (old _).1 before
  · exact fanFull_of_law fansT (inSet h (by decide)) f
  · rw [enterFault_ppc]
    refine recompute_ltr (joins h (by decide)) fun before => ?_
    rw [rPpc]
    exact ltr.2 (.inr (.inr ((old _).1 before)))
  · rw [enterFault_ppc]
    exact recompute_handed.throttle.trans (congrArg Ppc.throttle rPpc)

end Sys2Proof.Machine

namespace Sys2Proof.Machine

/-! ## CLEAR_FAULTS and READ_TALLY (R32, R73, R148, R172) -/

section
variable {s : State} {ch : Fin 16}

/-! The channels of a clear (R32) -/

/-- One channel's part of a clear. -/
def clearOne (t : State) (ch : Fin 16) : State := if (t.lmt.chans.get ch).state = .held then clearChan ch t else t

/-- LMT's part of a clear, up to the recomputation of the action set. -/
def clearEach (s : State) : State := (List.finRange 16).foldl clearOne s

theorem clearHeld_eq : clearHeld s = recomputeActions (clearEach s) := rfl

theorem clearOne_held (h : (s.lmt.chans.get ch).state = .held) : clearOne s ch = clearChan ch s := if_pos h

theorem clearOne_other (h : (s.lmt.chans.get ch).state ≠ .held) : clearOne s ch = s := if_neg h

theorem clearOne_handed (s : State) (ch : Fin 16) : Handed s (clearOne s ch) := by
  by_cases h : (s.lmt.chans.get ch).state = .held
  · rw [clearOne_held h]
    exact Handed.trans (t := { s with lmt := s.lmt.setChan ch ((s.lmt.chans.get ch).enter .normal) })
      ⟨id, rfl, rfl, rfl, rfl, rfl, rfl, fun _ => .rfl⟩ (route_handed ..)
  · rw [clearOne_other h]
    exact .refl s

theorem clearHeld_handed : Handed s (clearHeld s) :=
  Handed.trans (t := clearEach s) (Handed.foldl clearOne_handed (List.finRange 16) s) recompute_handed

theorem clearOne_entries : (clearOne s ch).lmt.entries = s.lmt.entries := by
  by_cases h : (s.lmt.chans.get ch).state = .held
  · rw [clearOne_held h, clearChan_lmt]; rfl
  · rw [clearOne_other h]

theorem clearEach_entries : (clearEach s).lmt.entries = s.lmt.entries := by
  have fold (chs : List (Fin 16)) (u : State) : (chs.foldl clearOne u).lmt.entries = u.lmt.entries := by
    induction chs generalizing u with
    | nil => rfl
    | cons ch chs ih => exact (ih _).trans clearOne_entries
  rw [clearEach]
  exact fold _ s

theorem clearOne_self : ((clearOne s ch).lmt.chans.get ch).state ≠ .held := by
  by_cases h : (s.lmt.chans.get ch).state = .held
  · rw [clearOne_held h, clearChan_lmt, Lmt.setChan, Table.get_set_self]
    exact (by decide : LimitState.normal ≠ .held)
  · rwa [clearOne_other h]

theorem clearOne_ne {i : Fin 16} (h : i ≠ ch) : (clearOne s ch).lmt.chans.get i = s.lmt.chans.get i := by
  by_cases held : (s.lmt.chans.get ch).state = .held
  · rw [clearOne_held held, clearChan_lmt, Lmt.setChan, Table.get_set_ne _ _ h]
  · rw [clearOne_other held]

/-- A clear leaves no channel in HELD. -/
theorem foldl_clearOne_ne_held {i : Fin 16} (chs : List (Fin 16)) (s : State)
    (h : i ∈ chs ∨ (s.lmt.chans.get i).state ≠ .held) : ((chs.foldl clearOne s).lmt.chans.get i).state ≠ .held := by
  induction chs generalizing s with
  | nil => exact h.resolve_left List.not_mem_nil
  | cons ch chs ih =>
    refine ih _ ?_
    by_cases same : i = ch
    · exact .inr (same ▸ clearOne_self)
    · rw [clearOne_ne same]
      exact h.imp_left fun mem => (List.mem_cons.1 mem).resolve_left same

theorem foldl_clearOne_cleared (i : Fin 16) (chs : List (Fin 16)) (s : State) :
    Cleared (s.lmt.chans.get i) ((chs.foldl clearOne s).lmt.chans.get i) := foldl_clear_chan i chs s

theorem foldl_clearOne_chan {i : Fin 16} (chs : List (Fin 16)) (mem : i ∈ chs) (s : State) :
    (chs.foldl clearOne s).lmt.chans.get i =
      if (s.lmt.chans.get i).state = .held then (s.lmt.chans.get i).enter .normal else s.lmt.chans.get i := by
  obtain same | ⟨held, normal⟩ := foldl_clearOne_cleared i chs s
  · have left := foldl_clearOne_ne_held chs s (.inl mem)
    rw [if_neg (by rw [← same]; exact left), same]
  · rw [if_pos held, normal]

theorem clearEach_chan (i : Fin 16) : (clearEach s).lmt.chans.get i =
    if (s.lmt.chans.get i).state = .held then (s.lmt.chans.get i).enter .normal else s.lmt.chans.get i := by
  rw [clearEach]
  exact foldl_clearOne_chan _ (List.mem_finRange i) s

/-- Every channel cleared tallies one LIMIT_CLEARED (R32, R172). -/
theorem foldl_clearOne_tally (chs : List (Fin 16)) (nodup : chs.Nodup) (s : State) (n : Nat)
    (hn : n = (chs.filter fun ch => (s.lmt.chans.get ch).state = .held).length) :
    (n = 0 → SameTally .limitCleared s (chs.foldl clearOne s)) ∧
    (0 < n → (chs.foldl clearOne s).evr.tally.get EventCode.limitCleared.idx =
      min 255 (s.evr.tally.get EventCode.limitCleared.idx + n)) := by
  induction chs generalizing s n with
  | nil =>
    subst hn
    exact ⟨fun _ => rfl, fun h => absurd h (Nat.lt_irrefl 0)⟩
  | cons ch chs ih =>
    obtain ⟨notIn, nodup⟩ := List.nodup_cons.1 nodup
    have rest : (chs.filter fun i => ((clearOne s ch).lmt.chans.get i).state = .held) =
        chs.filter fun i => (s.lmt.chans.get i).state = .held :=
      List.filter_congr fun i hi => by
        rw [clearOne_ne fun same : i = ch => notIn (same ▸ hi)]
    obtain ⟨none, some⟩ := ih nodup (clearOne s ch) _ (congrArg List.length rest.symm)
    rw [List.foldl_cons]
    by_cases held : (s.lmt.chans.get ch).state = .held
    · have once : Tallied .limitCleared s (clearOne s ch) := by
        rw [clearOne_held held, clearChan]
        exact route_tallied_after (by rfl) _ _
      rw [List.filter_cons_of_pos (by simpa using held), List.length_cons] at hn
      refine ⟨fun zero => by omega, fun _ => ?_⟩
      rw [Tallied] at once
      by_cases zero : (chs.filter fun i => (s.lmt.chans.get i).state = .held).length = 0
      · rw [hn, zero, none zero, once]
      · rw [hn, some (Nat.pos_of_ne_zero zero), once]
        omega
    · rw [List.filter_cons_of_neg (by simpa using held)] at hn
      rw [clearOne_other held] at none some ⊢
      rw [hn]
      exact ⟨none, some⟩

/-! The bytes of a clear (log 11) -/

theorem putChannels_channelsIn (l : Lmt) (st : LimitState) : putChannels (channelsIn l st) =
    put2 (flagSet ((List.finRange 16).map fun ch => decide ((l.chans.get ch).state = st)) : Nat) := by
  have mem (ch : Fin 16) : (channelsIn l st).contains ch = decide ((l.chans.get ch).state = st) := by
    rw [Bool.eq_iff_iff, List.contains_iff_mem, decide_eq_true_eq, channelsIn, List.mem_filter, decide_eq_true_eq]
    exact and_iff_right (List.mem_finRange ch)
  simp only [putChannels, mem]

theorem clearHeld_chan (i : Fin 16) : (clearHeld s).lmt.chans.get i = (clearEach s).lmt.chans.get i := by
  rw [clearHeld_eq, recomputeActions_lmt]

/-- The channels in FAULT are the same before and after a clear. -/
theorem clearHeld_fault (i : Fin 16) :
    decide (((clearHeld s).lmt.chans.get i).state = .fault) = decide ((s.lmt.chans.get i).state = .fault) := by
  rw [clearHeld_chan, clearEach_chan]
  by_cases held : (s.lmt.chans.get i).state = .held
  · rw [if_pos held, held]; rfl
  · rw [if_neg held]

theorem lockedFans_congr {t u : State}
    (h : ∀ f, (t.fnc.fans.get f).state = .stallLockout ↔ (u.fnc.fans.get f).state = .stallLockout) :
    lockedFans t = lockedFans u := by
  have one := h .one
  have two := h .two
  simp only [PerFan.get] at one two
  simp only [lockedFans, one, two]

theorem lockedFans_clearLatches (t : State) : lockedFans (clearLatches t) = lockedFans t := rfl

theorem lockedFans_clearHeld : lockedFans (clearLatches (clearHeld s)) = lockedFans s := by
  rw [lockedFans_clearLatches]
  exact lockedFans_congr clearHeld_handed.lockout

theorem clearBytes_eq : clearBytes s =
    put2 (flagSet ((List.finRange 16).map fun ch => decide ((s.lmt.chans.get ch).state = .held)) : Nat) ++
      put2 (flagSet ((List.finRange 16).map fun ch => decide ((s.lmt.chans.get ch).state = .fault)) : Nat) ++
      [BitVec.ofNat 8 ((s.ppc.charge.a.latch.isSome).toNat + 2 * (s.ppc.charge.b.latch.isSome).toNat),
        BitVec.ofNat 8 ((decide (s.fnc.fans.one.state = .stallLockout)).toNat +
          2 * (decide (s.fnc.fans.two.state = .stallLockout)).toNat)] := by
  have charge : (clearHeld s).ppc.charge = s.ppc.charge := clearHeld_handed.charge
  rw [clearBytes, putChannels_channelsIn, putChannels_channelsIn, lockedFans_clearHeld, latchedPacks, charge, lockedFans,
    putFlags_two, putFlags_two]
  simp only [clearHeld_fault, List.append_assoc]
  rfl

/-! PPC's and FNC's parts (R73, R148) -/

theorem clearLatch_eq (c : Charge) : c.clearLatch =
    if c.latch = none then c else { c with latch := none, preTimer := 0, fastTimer := 0, due := none } := by
  unfold Charge.clearLatch
  cases c.latch <;> rfl

theorem unlocked_other {x : FanState} (full : Bool) (h : x.state ≠ .stallLockout) : x.unlocked full = x := if_neg h

theorem unlocked_free {x : FanState} (h : x.state = .stallLockout) :
    x.unlocked false = { x with state := .off, retries := 0 } := by
  rw [FanState.unlocked, if_pos h]; rfl

theorem unlocked_full {x : FanState} (h : x.state = .stallLockout) :
    x.unlocked true = { x with state := .kick, retries := 0, demand := 1000, kickTimer := some 300 } := by
  rw [FanState.unlocked, if_pos h]; rfl

theorem unlocked_state (x : FanState) (full : Bool) : (x.unlocked full).state ≠ .stallLockout := by
  by_cases h : x.state = .stallLockout
  · cases full with
    | true => rw [unlocked_full h]; exact (by decide : FanMode.kick ≠ .stallLockout)
    | false => rw [unlocked_free h]; exact (by decide : FanMode.off ≠ .stallLockout)
  · rwa [unlocked_other full h]

/-! READ_TALLY (R172) -/

theorem foldl_clear_tally (cs : List EventCode) (t : Table Nat 35) (c : EventCode) :
    (cs.foldl (fun t d => t.set d.idx 0) t).get c.idx = if c ∈ cs then 0 else t.get c.idx := by
  induction cs generalizing t with
  | nil => simp
  | cons d cs ih =>
    rw [List.foldl_cons, ih]
    by_cases same : c = d
    · subst same
      simp [Table.get_set_self]
    · rw [Table.get_set_ne _ _ fun h => same (EventCode.idx_injective h)]
      simp [same]

/-! The clear as a whole -/

/-- What PPC's and FNC's parts of a clear leave to LMT's. -/
theorem unlockFans_clearLatches (t : State) : (unlockFans (clearLatches t)).lmt = t.lmt ∧
    (unlockFans (clearLatches t)).ppt = t.ppt ∧ (unlockFans (clearLatches t)).swi = t.swi ∧
    (unlockFans (clearLatches t)).slc = t.slc ∧ (unlockFans (clearLatches t)).evr = t.evr ∧
    (unlockFans (clearLatches t)).ppc.charge = t.ppc.charge.map Charge.clearLatch ∧
    (unlockFans (clearLatches t)).fnc.fans = t.fnc.fans.map fun x => x.unlocked (t.lmt.actionSet.contains .fanFull) :=
  ⟨rfl, rfl, rfl, rfl, rfl, rfl, rfl⟩

theorem clearAll_fan (f : Fan) : (clearAll s).fnc.fans.get f =
    ((clearHeld s).fnc.fans.get f).unlocked ((clearHeld s).lmt.actionSet.contains .fanFull) := by
  obtain ⟨-, -, -, -, -, -, fans⟩ := unlockFans_clearLatches (clearHeld s)
  rw [clearAll, fans, PerFan.get_map]

theorem clearAll_charge (p : Pack) : (clearAll s).ppc.charge.get p =
    if (s.ppc.charge.get p).latch = none then s.ppc.charge.get p
    else { s.ppc.charge.get p with latch := none, preTimer := 0, fastTimer := 0, due := none } := by
  obtain ⟨-, -, -, -, -, charge, -⟩ := unlockFans_clearLatches (clearHeld s)
  rw [clearAll, charge, clearHeld_handed.charge, PerPack.get_map, clearLatch_eq]

theorem clearAll_leaves : (clearAll s).lmt = (clearHeld s).lmt ∧ (clearAll s).ppt = s.ppt ∧ (clearAll s).swi = s.swi ∧
    (clearAll s).slc = s.slc ∧ (clearAll s).evr = (clearHeld s).evr := by
  obtain ⟨lmt, ppt, swi, slc, evr, -, -⟩ := unlockFans_clearLatches (clearHeld s)
  have handed : Handed s (clearHeld s) := clearHeld_handed
  rw [clearAll]
  exact ⟨lmt, ppt.trans handed.ppt, swi.trans handed.swi, slc.trans handed.slc, evr⟩

theorem clearHeld_carried : (clearHeld s).lmt.entries = s.lmt.entries ∧
    (clearHeld s).lmt.actionSet = (clearHeld s).lmt.carried := by
  rw [clearHeld_eq]
  exact ⟨by rw [recomputeActions_lmt, clearEach_entries], recompute_carried⟩

theorem clearHeld_tally (n : Nat) (hn : n = ((List.finRange 16).filter fun ch => (s.lmt.chans.get ch).state = .held).length)
    (pos : 0 < n) : (clearHeld s).evr.tally.get EventCode.limitCleared.idx =
      min 255 (s.evr.tally.get EventCode.limitCleared.idx + n) := by
  rw [clearHeld_eq, recompute_sameTally (c := .limitCleared) rfl, clearEach]
  exact (foldl_clearOne_tally _ (List.nodup_finRange 16) s n hn).2 pos

/-- A fan returned from lockout is OFF, or in KICK under FAN_FULL (R148). -/
theorem clearAll_locked {f : Fan} (h : (s.fnc.fans.get f).state = .stallLockout) :
    ((clearAll s).fnc.fans.get f).retries = 0 ∧
    (Action.fanFull ∈ (clearAll s).lmt.actionSet → ((clearAll s).fnc.fans.get f).state = .kick ∧
      ((clearAll s).fnc.fans.get f).demand = 1000 ∧ ((clearAll s).fnc.fans.get f).drive = 1000) ∧
    (Action.fanFull ∉ (clearAll s).lmt.actionSet → ((clearAll s).fnc.fans.get f).state = .off) := by
  have locked : ((clearHeld s).fnc.fans.get f).state = .stallLockout := (clearHeld_handed.lockout f).2 h
  rw [clearAll_fan, clearAll_leaves.1, ← List.contains_iff_mem]
  cases (clearHeld s).lmt.actionSet.contains .fanFull with
  | true =>
    rw [unlocked_full locked]
    exact ⟨rfl, fun _ => ⟨rfl, rfl, rfl⟩, fun h => absurd rfl h⟩
  | false =>
    rw [unlocked_free locked]
    exact ⟨rfl, nofun, fun _ => rfl⟩

theorem answerWith_accept (tag : Nat) (t : State) (data : List Byte) :
    answerWith tag (accept t data) = enqueueReply ⟨tag, .ok, data, false⟩ t := rfl

theorem clearFaults_eq : clearFaults [] s = accept (clearAll s) (clearBytes s) := if_neg (not_not.2 rfl)

end

/-- Settles O52: the three parts of a clear, and the tallies that a reading returns and clears. -/
theorem clearFaultsAndTalliesAnswer : Obligations.ClearFaultsAndTalliesAnswer := by
  intro s tag
  refine ⟨fun args ne => ⟨fun head => ?_, fun head => ?_⟩, fun head => ?_, fun head => ?_⟩
  · exact exec_refused (owner := clearFaults) rfl head (if_pos (ne_nil_length ne))
  · exact exec_refused (owner := readTally) rfl head (if_pos (ne_nil_length ne))
  · let u := popRequest s
    have run : exec .clearFaults s = .next (enqueueReply ⟨tag, .ok, clearBytes u, false⟩ (clearAll u)) := by
      rw [exec_at_head (owner := clearFaults) rfl head, clearFaults_eq, answerWith_accept]
    obtain ⟨lmt, ppt, swi, slc, evr⟩ := clearAll_leaves (s := u)
    have entries : (clearAll u).lmt.entries = s.lmt.entries := by rw [lmt]; exact clearHeld_carried.1
    have carried : (clearAll u).lmt.actionSet = (clearAll u).lmt.carried := by rw [lmt]; exact clearHeld_carried.2
    have chan (ch : Fin 16) : (clearAll u).lmt.chans.get ch =
        if (u.lmt.chans.get ch).state = .held then (u.lmt.chans.get ch).enter .normal else u.lmt.chans.get ch := by
      rw [lmt, clearHeld_chan]; exact clearEach_chan ch
    have charge := clearAll_charge (s := u)
    have free (f : Fan) : ((clearAll u).fnc.fans.get f).state ≠ .stallLockout := by
      rw [clearAll_fan]; exact unlocked_state _ _
    have locked (f : Fan) := clearAll_locked (s := u) (f := f)
    have tally (n : Nat) := clearHeld_tally (s := u) n
    rw [← evr] at tally
    generalize clearAll u = w at run lmt ppt swi slc evr entries carried chan charge free locked tally
    refine ⟨_, run, chan, entries, carried, charge, free, locked, tally, ppt, swi, ?_⟩
    have queued : (enqueueReply ⟨tag, .ok, clearBytes u, false⟩ w).slc.replies =
        w.slc.replies ++ [⟨tag, .ok, clearBytes u, false⟩] := rfl
    rw [queued, List.getLast?_concat, clearBytes_eq]
    rfl
  · intro codes
    let t : State := { s with evr := s.evr.clearTallies (codes.take 28) }
    have run : exec .readTally s = .next (answered tag .ok (tallyBytes s.evr) t) :=
      exec_answered (owner := readTally) (u := t) rfl head rfl
    refine ⟨t, run, rfl, fun c hc => ?_, fun c hc => ?_, rfl, rfl⟩
    · exact (foldl_clear_tally _ _ c).trans (if_pos hc)
    · exact (foldl_clear_tally _ _ c).trans (if_neg hc)

end Sys2Proof.Machine

namespace Sys2Proof.Machine

/-! ## The telemetry frame at the end of a pass (R178, section 11.2) -/

section
variable {s t u : State} {p : Pack} {w : Sweep}

/-! The due mark and the slot stay until the end of the pass -/

/-- The telemetry slot and its due mark are left alone. -/
def SameFrame (s t : State) : Prop := t.evr.due = s.evr.due ∧ t.evr.telemetry = s.evr.telemetry

theorem SameFrame.of_evr (h : t.evr = s.evr) : SameFrame s t := by rw [SameFrame, h]; exact ⟨rfl, rfl⟩

theorem SameFrame.trans (h : SameFrame s t) (k : SameFrame t u) : SameFrame s u :=
  ⟨k.1.trans h.1, k.2.trans h.2⟩

theorem route_sameFrame (c : EventCode) (n : Nat) (v : Int) (h : t.evr = s.evr := by rfl) :
    SameFrame s (route c n v t) :=
  SameFrame.trans (.of_evr h) ⟨route_evr_due .., route_evr_telemetry ..⟩

theorem decideBattery_sameFrame : SameFrame s (decideBattery s) := by
  have low : SameFrame s (decideLow s) := by
    unfold decideLow
    split
    · split
      · exact .of_evr rfl
      · exact route_sameFrame ..
    · exact .of_evr rfl
  refine low.trans ?_
  unfold decideBattery decideCritical
  split
  · split
    · exact .of_evr rfl
    · exact (route_sameFrame ..).trans (.of_evr rfl)
  · split <;> exact .of_evr rfl

theorem repath_sameFrame : SameFrame s (repath s) :=
  SameFrame.trans (t := redecidePaths s) (.of_evr rfl) decideBattery_sameFrame

theorem adapterChanged_sameFrame : SameFrame s (adapterChanged s) := by
  refine SameFrame.trans (.of_evr ?_) decideBattery_sameFrame
  split
  · exact setMode_evr ..
  · split
    · exact setMode_evr ..
    · rfl

theorem setPhase_sameFrame (ph : Phase) : SameFrame s (setPhase p ph s) := by
  unfold setPhase
  split
  · exact .of_evr rfl
  · exact route_sameFrame ..

theorem decidePhase_sameFrame (lim : Band) (x : Option StepView) : SameFrame s (decidePhase p lim x s) := by
  unfold decidePhase
  cases (s.ppt.ports.get p).state <;> dsimp only
  case active | stale =>
    split
    · exact setPhase_sameFrame _
    · cases x with
      | none => exact .of_evr rfl
      | some v => dsimp only; split; exacts [.of_evr rfl, setPhase_sameFrame _]
  all_goals exact setPhase_sameFrame _

theorem phaseStep_sameFrame : SameFrame s (phaseStep p s) := by
  have band : (stepBand p s).evr = s.evr := by unfold stepBand; dsimp only; split <;> rfl
  exact (SameFrame.of_evr band).trans ((decidePhase_sameFrame _ _).trans (.of_evr (handFigures_evr _ _)))

theorem examineVad_sameFrame : SameFrame s (examineVad s) := by
  obtain ⟨n, h⟩ | h | ⟨-, h⟩ | ⟨-, h⟩ := examineVad_cases s <;> rw [h]
  · exact .of_evr rfl
  · exact .of_evr rfl
  · exact (route_sameFrame ..).trans adapterChanged_sameFrame
  · exact (route_sameFrame ..).trans adapterChanged_sameFrame

theorem examineAid_sameFrame : SameFrame s (examineAid s) := by
  unfold examineAid
  dsimp only
  split
  · exact route_sameFrame ..
  · exact .of_evr rfl

theorem allocationPass_sameFrame : SameFrame s (allocationPass w s) := by
  refine SameFrame.trans (t := throttleStage (uncovered s) s) ?_ (.of_evr allocationPass_evr)
  obtain ⟨v, e, rfl | ⟨d, x, -, rfl⟩⟩ := throttleStage_cases (uncovered s) s <;> rw [e]
  · exact .of_evr rfl
  · exact (route_sameFrame ..).trans (.of_evr rfl)

theorem examineBay_sameFrame : SameFrame s (examineBay s) := by
  unfold examineBay bayQuiet bayRefuse
  dsimp only
  split
  · exact .of_evr rfl
  split
  · split
    · split
      · exact .of_evr rfl
      · exact (route_sameFrame ..).trans repath_sameFrame
    · exact .of_evr rfl
  · split
    · exact .of_evr rfl
    · exact route_sameFrame ..

/-- The state of a completion that its end finds. -/
theorem completed_sameFrame : SameFrame s (examineBay (allocationPass w (passed s))) :=
  examineVad_sameFrame.trans (examineAid_sameFrame.trans (phaseStep_sameFrame.trans (phaseStep_sameFrame.trans
    (allocationPass_sameFrame.trans examineBay_sameFrame))))

/-- The frame is made of the samples, PPC, FNC and SSC. -/
theorem telemetryFrame_congr (latest : t.sws.latest = s.sws.latest) (ppc : t.ppc = s.ppc) (fnc : t.fnc = s.fnc)
    (ssc : t.ssc = s.ssc) : telemetryFrame t = telemetryFrame s := by
  simp only [telemetryFrame, telemetryPack, telemetryFan, latest, ppc, fnc, ssc]

theorem endOfPass_due (h : s.evr.due = true) : endOfPass s =
    { s with evr := { (s.evr.setBulk .telemetry (some (telemetryFrame s))) with due := false } } := if_pos h

theorem endOfPass_idle (h : s.evr.due = false) : endOfPass s = s := if_neg (by rw [h]; decide)

/-- The end of a completion: a due frame is built of the state that the completion leaves (R178). -/
theorem completed_telemetry (done : SweepDone s w) (ht : exec .sweepCompletion s = .next t) : t.evr.due = false ∧
    (s.evr.due = false → t.evr.telemetry = s.evr.telemetry) ∧
    (s.evr.due = true → t.evr.telemetry = some (telemetryFrame t)) := by
  let v := examineBay (allocationPass w (passed s))
  have same : SameFrame s v := completed_sameFrame
  obtain ⟨t', run, -, -, -, left⟩ := completion_stages s w done
  obtain rfl : t' = t := by rw [run] at ht; injection ht
  cases due : s.evr.due with
  | true =>
    have ended : endOfPass v = _ := endOfPass_due (same.1.trans due)
    have frame : telemetryFrame t' = telemetryFrame v := by
      rw [left, ended]
      exact telemetryFrame_congr rfl rfl rfl rfl
    rw [frame, left, ended]
    exact ⟨rfl, nofun, fun _ => rfl⟩
  | false =>
    have ended : endOfPass v = v := endOfPass_idle (same.1.trans due)
    rw [left, ended]
    exact ⟨same.1.trans due, fun _ => same.2, nofun⟩

/-! The frame, byte by byte -/

theorem put2_length (v : Int) : (put2 v).length = 2 := rfl

theorem put4_length (v : Int) : (put4 v).length = 4 := rfl

theorem telemetryPack_length (s : State) (p : Pack) : (telemetryPack s p).length = 8 := rfl

theorem telemetryFan_length (s : State) (f : Fan) : (telemetryFan s f).length = 5 := rfl

theorem telemetryFrame_length (s : State) : (telemetryFrame s).length = 60 := rfl

end

end Sys2Proof.Machine

namespace Sys2Proof.Machine

/-! ## The settings (R74, R86, R121, R132, R139, R143, R164, R179) -/

section
variable {s u : State} {num tag : Nat} {args : List Byte} {owner : List Byte → State → Answer} {c : Instr}
  {data : List Byte} {b : Bool} {clamped : Prop}

/-- A setting in its turn, answered OK_CLAMPED exactly where a value was clamped (0.3). -/
theorem exec_setting (run : exec c s = .next (runRequest num owner s)) (head : RequestAtHead s num args tag)
    (h : owner args (popRequest s) = acceptClamped b (popRequest u) data) (hb : b = true ↔ clamped) :
    (clamped → exec c s = .next (answered tag .okClamped data u)) ∧
    (¬ clamped → exec c s = .next (answered tag .ok data u)) := by
  refine ⟨fun yes => exec_answered run head ?_, fun no => exec_answered run head ?_⟩
  · rw [h, hb.2 yes]; rfl
  · rw [h, Bool.eq_false_iff.2 fun yes => no (hb.1 yes)]; rfl

/-- A setting in its turn, answered OK. -/
theorem exec_accepted (run : exec c s = .next (runRequest num owner s)) (head : RequestAtHead s num args tag)
    (h : owner args (popRequest s) = accept (popRequest u) data) :
    exec c s = .next (answered tag .ok data u) := exec_answered run head h

theorem byte_of_toNat {x : Byte} {n : Nat} (h : x.toNat = n) : x = BitVec.ofNat 8 n := by
  rw [← h, BitVec.ofNat_toNat, BitVec.setWidth_eq]

/-- The nearer end of a range, as a maximum and a minimum. -/
theorem clampNat_max {lo hi : Nat} (h : lo ≤ hi) (v : Nat) :
    clampNat lo hi v = (max lo (min hi v), decide (max lo (min hi v) ≠ v)) := by
  unfold clampNat
  split
  · have : max lo (min hi v) = lo := by omega
    rw [this, decide_eq_true (by omega)]
  · split
    · have : max lo (min hi v) = hi := by omega
      rw [this, decide_eq_true (by omega)]
    · have : max lo (min hi v) = v := by omega
      rw [this, decide_eq_false (by omega)]

theorem clampInt_max {lo hi : Int} (h : lo ≤ hi) (v : Int) :
    clampInt lo hi v = (max lo (min hi v), decide (v < lo ∨ hi < v)) := by
  unfold clampInt
  split
  · have : max lo (min hi v) = lo := by omega
    rw [this, decide_eq_true (by omega)]
  · split
    · have : max lo (min hi v) = hi := by omega
      rw [this, decide_eq_true (by omega)]
    · have : max lo (min hi v) = v := by omega
      rw [this, decide_eq_false (by omega)]

/-- A 2-byte field is read as it was sent (R183). -/
theorem arg2_put2 {v : Nat} (h : v < 65536) (front back : List Byte) :
    arg2 (front ++ (put2 (v : Int) ++ back)) front.length = v := by
  have first : (front ++ (put2 (v : Int) ++ back)).getD front.length 0 = BitVec.ofNat 8 (v / 256) := by
    rw [put2_nat, List.getD_append_right _ _ _ _ le_rfl]; simp
  have second : (front ++ (put2 (v : Int) ++ back)).getD (front.length + 1) 0 = BitVec.ofNat 8 (v % 256) := by
    rw [put2_nat, List.getD_append_right _ _ _ _ (Nat.le_succ _)]; simp
  rw [arg2, arg1, arg1, first, second, BitVec.toNat_ofNat, BitVec.toNat_ofNat]
  omega

theorem arg2_put2_append {v : Nat} (h : v < 65536) (back : List Byte) : arg2 (put2 (v : Int) ++ back) 0 = v :=
  arg2_put2 h [] back

theorem arg2_put2_self {v : Nat} (h : v < 65536) : arg2 (put2 (v : Int)) 0 = v := by
  have := arg2_put2 h [] []
  rwa [List.append_nil] at this

theorem arg2_cons_put2 {v : Nat} (h : v < 65536) (x : Byte) : arg2 (x :: put2 (v : Int)) 1 = v := by
  have := arg2_put2 h [x] []
  rwa [List.append_nil] at this

/-! SET_BOOST (R86) -/

theorem setBoost_takes {flag floor : Byte} (h : flag.toNat ≤ 1) : setBoost [flag, floor] s =
    acceptClamped (decide (max 5 (min 90 floor.toNat) ≠ floor.toNat))
      { s with ppc := s.ppc.withBoost (decide (flag.toNat = 1)) (max 5 (min 90 floor.toNat)) }
      (put1 flag.toNat ++ put1 (max 5 (min 90 floor.toNat))) := by
  have field : arg1 [flag, floor] 0 = flag.toNat := rfl
  have clamps : clampNat 5 90 (arg1 [flag, floor] 1) = _ := clampNat_max (by decide) floor.toNat
  rw [setBoost, if_neg (by simp), field, if_neg (not_lt.2 h), clamps]

/-! SET_CHARGE_INHIBIT (R74) -/

/-- One pack's inhibit and the setpoints it zeroes. -/
theorem inhibitPack_get (x : Ppc) (on : Bool) (p q : Pack) :
    (x.inhibitPack on p).charge.get q =
      (if q = p then { x.charge.get q with inhibit := on } else x.charge.get q) ∧
    (x.inhibitPack on p).setpoints.get q =
      if q = p ∧ on = true then (x.setpoints.get q).noCharge else x.setpoints.get q := by
  cases on <;> cases p <;> cases q <;> exact ⟨rfl, rfl⟩

/-- The packs of a selector, each inhibited once. -/
def Ppc.inhibited (x : Ppc) (on : Bool) (ps : List Pack) : Ppc := ps.foldl (fun y p => y.inhibitPack on p) x

theorem inhibited_frame (x : Ppc) (on : Bool) (ps : List Pack) : x.inhibited on ps =
    { x with charge := (x.inhibited on ps).charge, setpoints := (x.inhibited on ps).setpoints } := by
  have frame : ∃ charge setpoints, x.inhibited on ps = { x with charge := charge, setpoints := setpoints } := by
    induction ps generalizing x with
    | nil => exact ⟨x.charge, x.setpoints, rfl⟩
    | cons p ps ih =>
      obtain ⟨charge, setpoints, h⟩ := ih (x.inhibitPack on p)
      refine ⟨charge, setpoints, h.trans ?_⟩
      cases on <;> rfl
  obtain ⟨charge, setpoints, h⟩ := frame
  rw [h]

theorem inhibited_get (x : Ppc) (on : Bool) (ps : List Pack) (q : Pack) :
    (x.inhibited on ps).charge.get q =
      (if q ∈ ps then { x.charge.get q with inhibit := on } else x.charge.get q) ∧
    (x.inhibited on ps).setpoints.get q =
      if q ∈ ps ∧ on = true then (x.setpoints.get q).noCharge else x.setpoints.get q := by
  induction ps generalizing x with
  | nil => simp [Ppc.inhibited]
  | cons p ps ih =>
    obtain ⟨charge, setpoints⟩ := ih (x.inhibitPack on p)
    obtain ⟨charge', setpoints'⟩ := inhibitPack_get x on p q
    have step : x.inhibited on (p :: ps) = (x.inhibitPack on p).inhibited on ps := rfl
    rw [step, charge, setpoints, charge', setpoints']
    by_cases here : q = p <;> by_cases there : q ∈ ps <;> cases on <;> simp [here, there, Setpoints.noCharge]

/-- The packs that a selector names (R74). -/
theorem mem_selectedPacks {sel : Byte} (h : sel.toNat ≤ 2) (p : Pack) :
    p ∈ selectedPacks sel.toNat ↔ sel = 2 ∨ sel = BitVec.ofNat 8 (packNum p) := by
  have cases : sel = 0 ∨ sel = 1 ∨ sel = 2 := by
    have : sel.toNat = 0 ∨ sel.toNat = 1 ∨ sel.toNat = 2 := by omega
    exact this.imp byte_of_toNat (Or.imp byte_of_toNat byte_of_toNat)
  obtain rfl | rfl | rfl := cases <;> cases p <;> decide

theorem setChargeInhibit_takes {sel flag : Byte} (hs : sel.toNat ≤ 2) (hf : flag.toNat ≤ 1) :
    setChargeInhibit [sel, flag] s =
      accept { s with ppc := s.ppc.inhibited (decide (flag.toNat = 1)) (selectedPacks sel.toNat) }
        (putFlags [(s.ppc.inhibited (decide (flag.toNat = 1)) (selectedPacks sel.toNat)).charge.a.inhibit,
          (s.ppc.inhibited (decide (flag.toNat = 1)) (selectedPacks sel.toNat)).charge.b.inhibit]) := by
  have sel' : arg1 [sel, flag] 0 = sel.toNat := rfl
  have flag' : arg1 [sel, flag] 1 = flag.toNat := rfl
  rw [setChargeInhibit, if_neg (by simp), sel', flag', if_neg (not_or.2 ⟨not_lt.2 hs, not_lt.2 hf⟩)]
  rfl

/-! SET_BATTERY_THRESHOLDS (R162 to R164) -/

theorem decideLow_tallied (holds : batteryLowHolds s = true) (low : s.ssc.low = false) :
    Tallied .batteryLow s (decideLow s) := by
  unfold decideLow
  rw [if_pos holds, if_neg (by rw [low]; decide)]
  exact route_tallied_after (by rfl) _ _

theorem decideLow_sameTally {c : EventCode} (h : c ≠ .batteryLow) (hs : c ≠ .stateChange) :
    SameTally c s (decideLow s) := by
  unfold decideLow
  split
  · split
    · rfl
    · exact SameTally.after (route_sameTally _ _ h hs) rfl
  · rfl

theorem decideCritical_sameTally {c : EventCode} (h : c ≠ .batteryCritical) (hs : c ≠ .stateChange) :
    SameTally c s (decideCritical s) := by
  unfold decideCritical
  split
  · split
    · rfl
    · exact SameTally.after (u := startGrace _) (route_sameTally _ _ h hs) rfl
  · split <;> rfl

/-- The critical condition reached: its event, and 30 s of grace (R163). -/
theorem decideCritical_enters (holds : batteryCriticalHolds s = true) (critical : s.ssc.critical = false) :
    Tallied .batteryCritical s (decideCritical s) ∧ (decideCritical s).ssc.graceTimer = some 30000 := by
  unfold decideCritical
  rw [if_pos holds, if_neg (by rw [critical]; decide)]
  exact ⟨(route_tallied_after (by rfl) _ _).same rfl, rfl⟩

theorem decideCritical_leaves (holds : batteryCriticalHolds s = false) (critical : s.ssc.critical = true) :
    (decideCritical s).ssc.graceTimer = none := by
  unfold decideCritical
  rw [if_neg (by rw [holds]; decide), if_pos critical]

/-- What the two decisions do where a flag changes (R162, R163). -/
theorem decideBattery_changes :
    ((decideBattery s).ssc.low = true → s.ssc.low = false → Tallied .batteryLow s (decideBattery s)) ∧
    ((decideBattery s).ssc.critical = true → s.ssc.critical = false →
      Tallied .batteryCritical s (decideBattery s) ∧ (decideBattery s).ssc.graceTimer = some 30000) ∧
    ((decideBattery s).ssc.critical = false → s.ssc.critical = true → (decideBattery s).ssc.graceTimer = none) := by
  obtain ⟨-, -, -, before, low⟩ := decideLow_ssc (s := s)
  obtain ⟨-, -, -, low', critical⟩ := decideCritical_ssc (s := decideLow s)
  rw [decideBattery, low', low, critical, ← before]
  refine ⟨fun holds clear => ?_, fun holds clear => ?_, decideCritical_leaves⟩
  · exact (decideLow_tallied holds clear).same (decideCritical_sameTally (by decide) (by decide))
  · obtain ⟨tallied, grace⟩ := decideCritical_enters holds clear
    exact ⟨(decideLow_sameTally (by decide) (by decide)).tallied tallied, grace⟩

theorem decideBattery_thresholds : (decideBattery s).ssc.lowThreshold = s.ssc.lowThreshold ∧
    (decideBattery s).ssc.criticalThreshold = s.ssc.criticalThreshold := by
  obtain ⟨-, low, critical, -, -⟩ := decideLow_ssc (s := s)
  obtain ⟨-, low', critical', -, -⟩ := decideCritical_ssc (s := decideLow s)
  rw [decideBattery, low', critical', low, critical]
  exact ⟨rfl, rfl⟩

/-- The state of SET_BATTERY_THRESHOLDS, before its reply (R164). -/
def withThresholds (low critical : Nat) (s : State) : State :=
  decideBattery { s with ssc := { s.ssc with lowThreshold := low, criticalThreshold := critical } }

theorem withThresholds_leaves {t : State} {low critical : Nat} (ht : t = withThresholds low critical s) :
    (t.ssc.lowThreshold = low ∧ t.ssc.criticalThreshold = critical ∧ t.ssc.low = batteryLowHolds t ∧
      t.ssc.critical = batteryCriticalHolds t) ∧
    ((t.ssc.low = true → s.ssc.low = false → Tallied .batteryLow s t) ∧
      (t.ssc.critical = true → s.ssc.critical = false →
        Tallied .batteryCritical s t ∧ t.ssc.graceTimer = some 30000) ∧
      (t.ssc.critical = false → s.ssc.critical = true → t.ssc.graceTimer = none)) ∧
    t.ppc = s.ppc ∧ t.ppt = s.ppt ∧ t.lmt = s.lmt ∧ t.swi = s.swi ∧ t.slc = s.slc := by
  subst ht
  let u : State := { s with ssc := { s.ssc with lowThreshold := low, criticalThreshold := critical } }
  obtain ⟨lowFlag, criticalFlag⟩ := decideBattery_flags (s := u)
  obtain ⟨low', critical'⟩ := decideBattery_thresholds (s := u)
  exact ⟨⟨low', critical', lowFlag, criticalFlag⟩, decideBattery_changes, decideBattery_ppc, decideBattery_ppt,
    decideBattery_lmt, decideBattery_swi, decideBattery_slc⟩

theorem setBatteryThresholds_takes (low critical : Byte) :
    let l := max 5 (min 50 low.toNat)
    let c := max 2 (min (l - 1) critical.toNat)
    setBatteryThresholds [low, critical] s =
      acceptClamped (decide (l ≠ low.toNat) || decide (c ≠ critical.toNat)) (withThresholds l c s)
        (batteryBytes (withThresholds l c s).ssc) := by
  intro l c
  have field : arg1 [low, critical] 0 = low.toNat := rfl
  have clampL : clampNat 5 50 low.toNat = (l, decide (l ≠ low.toNat)) := clampNat_max (by decide) _
  have clampC : clampNat 2 (l - 1) (arg1 [low, critical] 1) = (c, decide (c ≠ critical.toNat)) :=
    clampNat_max (by omega) _
  simp only [setBatteryThresholds, if_neg (show ¬ [low, critical].length ≠ 2 by simp), field, clampL, clampC]
  rfl

/-! SET_HOST_TEMPS (R139) -/

/-- The slots that a mask names. -/
def namedSlots (args : List Byte) : List (Fin 4) := (List.finRange 4).filter fun i => argBit args 0 i.val

theorem namedTemps_eq (args : List Byte) : namedTemps args =
    (namedSlots args).zipIdx.map fun x => (x.1, clampInt (-400) 1500 (arg2s args (1 + 2 * x.2))) := rfl

theorem namedTemps_length (args : List Byte) : (namedTemps args).length = (namedSlots args).length := by
  rw [namedTemps_eq, List.length_map, List.length_zipIdx]

/-- A slot refreshed by each of some values, one value for a slot. -/
theorem foldl_refreshSlot (xs : List (Fin 4 × Int × Bool)) (nodup : (xs.map Prod.fst).Nodup) (s : State) :
    (xs.foldl refreshSlot s = { s with fnc := { s.fnc with slots := (xs.foldl refreshSlot s).fnc.slots } }) ∧
    (∀ x ∈ xs, (xs.foldl refreshSlot s).fnc.slots.get x.1 = ⟨x.2.1, true, some 5000⟩) ∧
    ∀ i, i ∉ xs.map Prod.fst → (xs.foldl refreshSlot s).fnc.slots.get i = s.fnc.slots.get i := by
  induction xs generalizing s with
  | nil => exact ⟨rfl, fun x hx => absurd hx List.not_mem_nil, fun _ _ => rfl⟩
  | cons y xs ih =>
    obtain ⟨notIn, nodup⟩ := List.nodup_cons.1 nodup
    obtain ⟨frame, taken, left⟩ := ih nodup (refreshSlot s y)
    have first (i : Fin 4) : (refreshSlot s y).fnc.slots.get i =
        if i = y.1 then ⟨y.2.1, true, some 5000⟩ else s.fnc.slots.get i := Table.get_set ..
    rw [List.foldl_cons]
    refine ⟨frame, fun x hx => ?_, fun i hi => ?_⟩
    · obtain rfl | hx := List.mem_cons.1 hx
      · rw [left _ notIn, first, if_pos rfl]
      · exact taken x hx
    · obtain ⟨ne, hi⟩ := not_or.1 (mt List.mem_cons.2 hi)
      rw [left i hi, first, if_neg ne]

theorem namedTemps_slots (args : List Byte) : (namedTemps args).map Prod.fst = namedSlots args := by
  rw [namedTemps_eq, List.map_map]
  exact List.zipIdx_map_fst 0 _

theorem mem_namedTemps {args : List Byte} {x : Fin 4 × Int × Bool} : x ∈ namedTemps args ↔
    ∃ k, (namedSlots args)[k]? = some x.1 ∧ x.2 = clampInt (-400) 1500 (arg2s args (1 + 2 * k)) := by
  rw [namedTemps_eq, List.mem_map]
  constructor
  · rintro ⟨⟨i, k⟩, mem, rfl⟩
    exact ⟨k, List.mk_mem_zipIdx_iff_getElem?.1 mem, rfl⟩
  · rintro ⟨k, mem, value⟩
    exact ⟨(x.1, k), List.mk_mem_zipIdx_iff_getElem?.2 mem, Prod.ext rfl value.symm⟩

/-- Some value of the named slots is clamped (R139). -/
theorem namedTemps_clamped {args : List Byte} : ((namedTemps args).any fun x => x.2.2) = true ↔
    ∃ k, k < (namedSlots args).length ∧
      (arg2s args (1 + 2 * k) < -400 ∨ 1500 < arg2s args (1 + 2 * k)) := by
  rw [List.any_eq_true]
  constructor
  · rintro ⟨x, mem, clamped⟩
    obtain ⟨k, named, value⟩ := mem_namedTemps.1 mem
    rw [value, clampInt_max (by decide)] at clamped
    exact ⟨k, (List.getElem?_eq_some_iff.1 named).1, of_decide_eq_true clamped⟩
  · rintro ⟨k, lt, clamped⟩
    refine ⟨((namedSlots args)[k], clampInt (-400) 1500 (arg2s args (1 + 2 * k))), ?_, ?_⟩
    · exact mem_namedTemps.2 ⟨k, List.getElem?_eq_getElem lt, rfl⟩
    · rw [clampInt_max (by decide)]
      exact decide_eq_true clamped

/-- The slots after SET_HOST_TEMPS (R139). -/
theorem refreshed_slots (args : List Byte) (s : State) :
    let t := (namedTemps args).foldl refreshSlot s
    t = { s with fnc := { s.fnc with slots := t.fnc.slots } } ∧
    (∀ (k : Nat) (i : Fin 4), (namedSlots args)[k]? = some i →
      t.fnc.slots.get i = ⟨max (-400) (min 1500 (arg2s args (1 + 2 * k))), true, some 5000⟩) ∧
    ∀ i, i ∉ namedSlots args → t.fnc.slots.get i = s.fnc.slots.get i := by
  have nodup : ((namedTemps args).map Prod.fst).Nodup := by
    rw [namedTemps_slots]
    exact (List.nodup_finRange 4).filter _
  obtain ⟨frame, taken, left⟩ := foldl_refreshSlot _ nodup s
  refine ⟨frame, fun k i named => ?_, fun i hi => left i (by rw [namedTemps_slots]; exact hi)⟩
  have value := taken (i, clampInt (-400) 1500 (arg2s args (1 + 2 * k))) (mem_namedTemps.2 ⟨k, named, rfl⟩)
  rwa [clampInt_max (by decide)] at value

theorem setHostTemps_takes {args : List Byte} (hm : 1 ≤ arg1 args 0) (hm' : arg1 args 0 ≤ 15)
    (len : args.length = 1 + 2 * (namedSlots args).length) : setHostTemps args s =
      acceptClamped ((namedTemps args).any fun x => x.2.2) ((namedTemps args).foldl refreshSlot s)
        (slotsBytes ((namedTemps args).foldl refreshSlot s).fnc.slots) := by
  rw [setHostTemps, if_neg (by omega), if_neg (by omega), if_neg (by rw [namedTemps_length]; omega)]

/-! SET_FAN_OVERRIDE (R143) -/

theorem setFanOverride_off {args : List Byte} (len : args.length = 3) (h : arg2 args 0 = 0) :
    setFanOverride args s = accept { s with fnc := { s.fnc with overrideDuty := 0, overrideTimer := none } }
      (put2 0 ++ put2 0) := by
  rw [setFanOverride, if_neg (not_not.2 len), if_pos h]
  rfl

theorem setFanOverride_takes {args : List Byte} (len : args.length = 3) (h : arg2 args 0 ≠ 0) :
    let e := max 1 (min 60 (arg1 args 2))
    setFanOverride args s =
      acceptClamped (decide (min 1000 (arg2 args 0) ≠ arg2 args 0) || decide (e ≠ arg1 args 2))
        { s with fnc := { s.fnc with overrideDuty := min 1000 (arg2 args 0), overrideTimer := some (1000 * e) } }
        (put2 ((min 1000 (arg2 args 0) : Nat) : Int) ++ put2 ((1000 * e : Nat) : Int)) := by
  intro e
  have duty : clampNat 0 1000 (arg2 args 0) = (min 1000 (arg2 args 0), decide (min 1000 (arg2 args 0) ≠ arg2 args 0)) := by
    rw [clampNat_max (Nat.zero_le _), Nat.zero_max]
  have expiry : clampNat 1 60 (arg1 args 2) = (e, decide (e ≠ arg1 args 2)) := clampNat_max (by decide) _
  simp only [setFanOverride, if_neg (not_not.2 len), if_neg h, duty, expiry, Nat.mul_comm e]
  rfl

/-! SET_KEY_DEBOUNCE (R121) -/

theorem setKeyDebounce_takes (press release : Byte) :
    let p := max 1 (min 15 press.toNat)
    let r := max 1 (min 15 release.toNat)
    setKeyDebounce [press, release] s =
      acceptClamped (decide (p ≠ press.toNat) || decide (r ≠ release.toNat))
        { s with kms := { s.kms with pressCount := p, releaseCount := r } } (put1 p ++ put1 r) := by
  intro p r
  have clampP : clampNat 1 15 (arg1 [press, release] 0) = (p, decide (p ≠ press.toNat)) := clampNat_max (by decide) _
  have clampR : clampNat 1 15 (arg1 [press, release] 1) = (r, decide (r ≠ release.toNat)) := clampNat_max (by decide) _
  simp only [setKeyDebounce, if_neg (show ¬ [press, release].length ≠ 2 by simp), clampP, clampR]

/-! SET_SWITCH_DEBOUNCE (R132) -/

/-- The selector of an input (R132). -/
def inputSelector : SwitchInput → Byte
  | .lid => 0
  | .hinge => 1
  | .pwrbtn => 2
  | .baylatch => 3

theorem selectorInput_eq (i : SwitchInput) : selectorInput (inputSelector i).toNat = some i := by cases i <;> rfl

theorem selectorInput_none {n : Nat} (h : 4 ≤ n) : selectorInput n = none := by
  rw [selectorInput, if_neg (by omega), if_neg (by omega), if_neg (by omega), if_neg (by omega)]

theorem setSwitchDebounce_query : setSwitchDebounce [0xFF] s = accept s (switchBytes s.swi) := rfl

theorem setSwitchDebounce_long (v : Int) : setSwitchDebounce (0xFF :: put2 v) s = refuse .badLength s := rfl

theorem setSwitchDebounce_unknown {args : List Byte} (ne : args ≠ []) (h : 4 ≤ arg1 args 0) (h' : arg1 args 0 ≠ 0xFF) :
    setSwitchDebounce args s = refuse .badArgument s := by
  rw [setSwitchDebounce, if_neg (Nat.not_lt.2 (List.length_pos_iff.2 ne)), if_neg h', selectorInput_none h]

theorem setSwitchDebounce_input {args : List Byte} {i : SwitchInput} (ne : args ≠ [])
    (h : arg1 args 0 = (inputSelector i).toNat) : setSwitchDebounce args s =
      if args.length ≠ 3 then refuse .badLength s
      else acceptClamped (decide (max 5 (min 500 (arg2 args 1)) ≠ arg2 args 1))
        { s with swi := s.swi.setInput i { s.swi.input i with time := max 5 (min 500 (arg2 args 1)) } }
        (switchBytes (s.swi.setInput i { s.swi.input i with time := max 5 (min 500 (arg2 args 1)) })) := by
  have small : (inputSelector i).toNat ≠ 0xFF := by cases i <;> decide
  rw [setSwitchDebounce, if_neg (Nat.not_lt.2 (List.length_pos_iff.2 ne)), h, if_neg small, selectorInput_eq]
  simp only [clampNat_max (show 5 ≤ 500 by decide)]
  rfl

theorem inputSelector_of_lt {x : Byte} (h : x.toNat < 4) : ∃ i, x = inputSelector i := by
  have : x.toNat = 0 ∨ x.toNat = 1 ∨ x.toNat = 2 ∨ x.toNat = 3 := by omega
  obtain h | h | h | h := this
  · exact ⟨.lid, byte_of_toNat h⟩
  · exact ⟨.hinge, byte_of_toNat h⟩
  · exact ⟨.pwrbtn, byte_of_toNat h⟩
  · exact ⟨.baylatch, byte_of_toNat h⟩

/-! SET_TELEMETRY (R179) -/

theorem setTelemetry_off {args : List Byte} (len : args.length = 2) (h : arg2 args 0 = 0) : setTelemetry args s =
    accept { s with evr := { s.evr with period := 0, periodTimer := none, due := false } } (put2 0) := by
  rw [setTelemetry, if_neg (not_not.2 len), if_pos h]
  rfl

theorem setTelemetry_takes {args : List Byte} (len : args.length = 2) (h : arg2 args 0 ≠ 0) :
    let n := max 50 (min 5000 (arg2 args 0))
    setTelemetry args s = acceptClamped (decide (n ≠ arg2 args 0))
      { s with evr := { s.evr with period := n, periodTimer := some n, due := true } } (put2 (n : Int)) := by
  intro n
  have clamps : clampNat 50 5000 (arg2 args 0) = (n, decide (n ≠ arg2 args 0)) := clampNat_max (by decide) _
  have period : s.evr.withPeriod n = { s.evr with period := n, periodTimer := some n, due := true } := if_neg (by omega)
  rw [setTelemetry, if_neg (not_not.2 len), if_neg h]
  simp only [clamps, period]

end

end Sys2Proof.Machine

namespace Sys2Proof.Machine

section
variable {s : State} {c : Prop} {b : Bool}

/-! ## The settings' replies -/

theorem batteryBytes_eq (x : Ssc) : batteryBytes x =
    [BitVec.ofNat 8 x.lowThreshold, BitVec.ofNat 8 x.criticalThreshold, BitVec.ofNat 8 (x.combinedSoc.getD 0xFF),
        BitVec.ofNat 8 (x.low.toNat + 2 * x.critical.toNat)] ++ put2 (x.graceTimer.getD 0) ++
      [BitVec.ofNat 8 x.state.num, BitVec.ofNat 8 x.mode.num, BitVec.ofNat 8 x.startCause.num,
        BitVec.ofNat 8 x.wakeCause] := by
  rw [batteryBytes, putFlags_two]
  rfl

theorem slotsBytes_eq (t : Table HostSlot 4) : slotsBytes t =
    t.list.flatMap fun x => put2 x.value ++ [BitVec.ofNat 8 x.refreshed.toNat] := rfl

/-- The slots do not hang on the request buffer. -/
theorem foldl_refreshSlot_pop (xs : List (Fin 4 × Int × Bool)) (s : State) :
    xs.foldl refreshSlot (popRequest s) = popRequest (xs.foldl refreshSlot s) := by
  induction xs generalizing s with
  | nil => rfl
  | cons x xs ih => exact ih (refreshSlot s x)

theorem switchBytes_eq (w : Swi) : switchBytes w =
    (([.lid, .hinge, .pwrbtn, .baylatch] : List SwitchInput).flatMap fun i => inputBytes (w.input i)) ++
      put1 w.holdStage.num ++ put2 (w.holdCount : Nat) := by
  simp only [switchBytes, List.flatMap_cons, List.flatMap_nil, List.append_nil, List.append_assoc, Swi.input]

theorem okIf_eq (h : b = true ↔ c) [Decidable c] : okIf b = if c then .okClamped else .ok := by
  simp only [okIf, h]

end

/-- Settles O54: each setting by its answer, and the completion by the frame that its end builds. -/
theorem settingsAreClampedAndKept : Obligations.SettingsAreClampedAndKept := by
  intro s tag answers refuses
  refine ⟨fun args => ?_, fun flag floor head => ?_, fun sel flag head => ?_, ?_, fun low critical head => ?_,
    fun args ne head => ?_, fun v seconds hv head => ?_, fun press release head => ?_, ?_, fun head => ?_,
    fun sel v hv head => ?_, fun v hv head => ?_, fun due => ?_, fun idle => ?_, fun w t done ht => ?_⟩
  · intro short
    refine ⟨fun head len => ?_, fun head len => ?_, fun head len => ?_, fun head len => ?_, fun head len => ?_,
      fun head len => ?_, fun head => ⟨fun len => ?_, fun first len => ?_, fun ne first len => ?_⟩, fun head len => ?_⟩
    · exact exec_refused (owner := setBoost) rfl head (if_pos len)
    · exact exec_refused (owner := setChargeInhibit) rfl head (if_pos len)
    · exact exec_refused (owner := setBatteryThresholds) rfl head (if_pos len)
    · exact exec_refused (owner := setHostTemps) rfl head (if_pos (by rw [len]; decide))
    · exact exec_refused (owner := setFanOverride) rfl head (if_pos len)
    · exact exec_refused (owner := setKeyDebounce) rfl head (if_pos len)
    · exact exec_refused (owner := setSwitchDebounce) rfl head (if_pos (by rw [len]; decide))
    · obtain ⟨rest, rfl⟩ := List.head?_eq_some_iff.1 first
      exact exec_refused (owner := setSwitchDebounce) rfl head (if_neg len)
    · obtain ⟨x, rest, rfl⟩ := List.exists_cons_of_ne_nil ne
      obtain ⟨i, rfl⟩ := inputSelector_of_lt first
      exact exec_refused (owner := setSwitchDebounce) rfl head ((setSwitchDebounce_input ne rfl).trans (if_pos len))
    · exact exec_refused (owner := setTelemetry) rfl head (if_pos len)
  · intro n
    refine ⟨fun bad => ?_, fun on => ?_, fun off => ?_⟩
    · exact exec_refused (owner := setBoost) rfl head (if_pos bad)
    · subst on
      exact exec_setting (owner := setBoost) rfl head (setBoost_takes (by decide)) decide_eq_true_iff
    · subst off
      exact exec_setting (owner := setBoost) rfl head (setBoost_takes (by decide)) decide_eq_true_iff
  · refine ⟨fun bad => exec_refused (owner := setChargeInhibit) rfl head (if_pos bad), fun hs hf => ?_⟩
    let x := s.ppc.inhibited (decide (flag = 1)) (selectedPacks sel.toNat)
    have named (p : Pack) := mem_selectedPacks hs p
    have turned : decide (flag.toNat = 1) = decide (flag = 1) :=
      decide_eq_decide.2 ⟨byte_of_toNat, fun h => by rw [h]; rfl⟩
    refine ⟨{ s with ppc := x }, ?_, ?_, fun p => ?_⟩
    · have data := setChargeInhibit_takes (s := popRequest s) hs hf
      rw [putFlags_two, turned] at data
      exact exec_accepted (owner := setChargeInhibit) (u := { s with ppc := x }) rfl head data
    · exact congrArg (fun y => { s with ppc := y }) (inhibited_frame ..)
    · intro selected
      obtain ⟨charge, setpoints⟩ := inhibited_get s.ppc (decide (flag = 1)) (selectedPacks sel.toNat) p
      exact ⟨fun h => charge.trans (if_pos ((named p).2 h)), fun h => charge.trans (if_neg (mt (named p).1 h)),
        fun h on => setpoints.trans (if_pos ⟨(named p).2 h, decide_eq_true on⟩),
        fun h => setpoints.trans (if_neg fun k => h ⟨(named p).1 k.1, of_decide_eq_true k.2⟩)⟩
  · exact batteryBytes_eq s.ssc
  · intro l c
    obtain ⟨t, ht⟩ : ∃ t, t = withThresholds l c (popRequest s) := ⟨_, rfl⟩
    have taken : exec .setBatteryThresholds s = .next (answerWith tag
        (acceptClamped (decide (l ≠ low.toNat) || decide (c ≠ critical.toNat)) t (batteryBytes t.ssc))) := by
      rw [ht, exec_at_head (owner := setBatteryThresholds) rfl head]
      exact congrArg (fun a => Host.Outcome.next (answerWith tag a)) (setBatteryThresholds_takes low critical)
    obtain ⟨⟨lowT, criticalT, lowF, criticalF⟩, ⟨lows, enters, leaves⟩, ppc, ppt, lmt, swi, slc⟩ :=
      withThresholds_leaves ht
    refine ⟨_, taken, lowT, criticalT, lowF, criticalF, lows, enters, leaves, ppc, ppt, lmt, swi, ?_⟩
    have clamped : (decide (l ≠ low.toNat) || decide (c ≠ critical.toNat)) = true ↔
        l ≠ low.toNat ∨ c ≠ critical.toNat := by
      rw [Bool.or_eq_true, decide_eq_true_iff, decide_eq_true_iff]
    have queue : t.slc.replies = s.slc.replies := by rw [slc]; rfl
    rw [← okIf_eq clamped, ← queue]
    rfl
  · intro mask named
    refine ⟨fun bad => ?_, fun hm hm' len => ?_, fun hm hm' len => ?_⟩
    · refine exec_refused (owner := setHostTemps) rfl head ?_
      rw [setHostTemps, if_neg (Nat.not_lt.2 (List.length_pos_iff.2 ne)), if_pos bad]
    · refine exec_refused (owner := setHostTemps) rfl head ?_
      have others : args.length ≠ 1 + 2 * (namedTemps args).length := by rw [namedTemps_length]; exact len
      rw [setHostTemps, if_neg (Nat.not_lt.2 (List.length_pos_iff.2 ne)), if_neg (by omega), if_pos others]
    · obtain ⟨frame, taken, left⟩ := refreshed_slots args s
      refine ⟨(namedTemps args).foldl refreshSlot s, ?_, frame, taken, left⟩
      have takes := setHostTemps_takes (s := popRequest s) hm hm' len
      rw [foldl_refreshSlot_pop] at takes
      exact exec_setting (owner := setHostTemps) rfl head takes namedTemps_clamped
  · have field : arg2 (put2 (v : Int) ++ [seconds]) 0 = v := arg2_put2_append hv _
    have len : (put2 (v : Int) ++ [seconds]).length = 3 := rfl
    intro e
    refine ⟨fun zero => ?_, fun pos => ?_⟩
    · exact exec_accepted (owner := setFanOverride) rfl head (setFanOverride_off len (field.trans zero))
    · have takes := setFanOverride_takes (s := popRequest s) len (by rw [field]; exact pos)
      rw [field] at takes
      refine exec_setting (owner := setFanOverride) rfl head takes ?_
      have last : arg1 (put2 (v : Int) ++ [seconds]) 2 = seconds.toNat := rfl
      rw [last, Bool.or_eq_true, decide_eq_true_iff, decide_eq_true_iff]
      exact or_congr_left (by omega)
  · intro p r
    refine exec_setting (owner := setKeyDebounce) rfl head (setKeyDebounce_takes press release) ?_
    rw [Bool.or_eq_true, decide_eq_true_iff, decide_eq_true_iff]
  · rw [switchBytes_eq]
    refine congrArg₂ (· ++ ·) (congrArg₂ (· ++ ·) (List.flatMap_congr fun i _ => ?_) ?_) rfl
    · generalize s.swi.input i = x
      obtain ⟨time, level, run, reference, due⟩ := x
      cases level with
      | none => rfl
      | some v => cases v <;> rfl
    · cases s.swi.holdStage <;> rfl
  · exact exec_accepted (owner := setSwitchDebounce) rfl head setSwitchDebounce_query
  · have field : arg2 (sel :: put2 (v : Int)) 1 = v := arg2_cons_put2 hv _
    refine ⟨fun query => ?_, fun large other => ?_, fun i hi => ?_⟩
    · subst query
      exact exec_refused (owner := setSwitchDebounce) rfl head (setSwitchDebounce_long _)
    · exact exec_refused (owner := setSwitchDebounce) rfl head (setSwitchDebounce_unknown nofun large
        fun h => other (byte_of_toNat h))
    · intro d w
      have chosen : sel = inputSelector i := by rw [hi]; cases i <;> rfl
      have takes := (setSwitchDebounce_input (s := popRequest s) (args := sel :: put2 (v : Int)) (i := i) nofun
        (congrArg BitVec.toNat chosen)).trans (if_neg (not_not.2 rfl))
      rw [field] at takes
      exact exec_setting (owner := setSwitchDebounce) rfl head takes decide_eq_true_iff
  · have field : arg2 (put2 (v : Int)) 0 = v := arg2_put2_self hv
    have len : (put2 (v : Int)).length = 2 := rfl
    intro n
    refine ⟨fun zero => ?_, fun pos => ?_⟩
    · exact exec_accepted (owner := setTelemetry) rfl head (setTelemetry_off len (field.trans zero))
    · have takes := setTelemetry_takes (s := popRequest s) len (by rw [field]; exact pos)
      rw [field] at takes
      exact exec_setting (owner := setTelemetry) rfl head takes decide_eq_true_iff
  · exact if_pos (timerDue_iff.2 due)
  · exact if_neg (mt timerDue_iff.1 idle)
  · obtain ⟨clear, kept, built⟩ := completed_telemetry done ht
    refine ⟨clear, kept, fun due => ⟨built due, telemetryFrame_length t, ?_⟩⟩
    extract_lets b fast mark pack fan
    have fans (f : Fan) : telemetryFan t f = fan f := by
      simp only [fan, telemetryFan, fanRpm, putRpm]
      cases (t.fnc.fans.get f).silent <;> cases (t.fnc.fans.get f).interval <;> rfl
    have packs (p : Pack) : telemetryPack t p = pack p := rfl
    have marks : putFlags (fastChannels.map fun ch => (t.sws.latest.get ch).clamped) =
        [b (mark 0 + 2 * mark 1 + 4 * mark 2 + 8 * mark 3 + 16 * mark 4 + 32 * mark 5 + 64 * mark 6 + 128 * mark 7)] := by
      refine congrArg (fun n => [BitVec.ofNat 8 n]) ?_
      simp only [fastChannels, List.map_cons, List.map_nil, flagSet, mark]
      omega
    rw [telemetryFrame, fans, fans, packs, packs, marks]
    rfl

end Sys2Proof.Machine

namespace Sys2Proof.Machine

/-! ## The table loads (R10, R45, R60, R83, R119, R136, R170) -/

section
variable {s : State} {args : List Byte}

/-! LOAD_SCHEDULE (R10, R11) -/

/-- Checks 2 and 3 of R10 for the slow channel of an entry. -/
def slotWellFormed (e : SlotEntry) : Prop := e.rep ∈ ([1, 2, 4, 8, 16, 32, 64] : List Nat) ∧ e.off < e.rep

theorem slotChecked_iff (e : SlotEntry) :
    (!repetitions.contains e.rep || decide (e.rep ≤ e.off)) = true ↔ ¬ slotWellFormed e := by
  simp only [Bool.or_eq_true, Bool.not_eq_true', decide_eq_true_eq, slotWellFormed, repetitions, not_and_or, not_lt,
    ← Bool.not_eq_true, List.contains_iff_mem]

theorem scheduleFits_iff {t : Table SlotEntry 8} {i : Fin 8} {e : SlotEntry} : scheduleFits t i e = true ↔
    ¬ (e.enable = true ∧ ∃ j, j ≠ i ∧ (t.get j).enable = true ∧
      e.off % min e.rep (t.get j).rep = (t.get j).off % min e.rep (t.get j).rep) := by
  simp only [scheduleFits, Bool.or_eq_true, Bool.not_eq_true', List.all_eq_true, List.mem_finRange, true_imp_iff,
    decide_eq_true_eq, SlotEntry.conflicts, not_and, not_exists, ← Bool.not_eq_true]
  constructor
  · rintro (off | fits) on j ne enabled same
    · exact off on
    · obtain (rfl | disabled) | apart := fits j
      · exact ne rfl
      · exact disabled enabled
      · exact apart same
  · intro h
    by_cases on : e.enable = true
    · refine .inr fun j => ?_
      by_cases ne : j = i
      · exact .inl (.inl ne)
      · by_cases enabled : (t.get j).enable = true
        · exact .inr (h on j ne enabled)
        · exact .inl (.inr enabled)
    · exact .inl on

theorem loadSchedule_at {i : Fin 8} (len : args.length = 4) (h : arg1 args 0 = 8 + i.val) :
    let e : SlotEntry := ⟨argFlag args 1, arg1 args 2, arg1 args 3⟩
    loadSchedule args s =
      if !repetitions.contains e.rep || decide (e.rep ≤ e.off) then refuse .invalidTable s
      else if scheduleFits s.sws.schedule i e then accept { s with sws := loadSlot i e s.sws } []
      else refuse .invalidTable s := by
  intro e
  have range : 8 ≤ arg1 args 0 ∧ arg1 args 0 < 16 := by omega
  have index : (⟨arg1 args 0 - 8, by omega⟩ : Fin 8) = i := Fin.ext (by simp only [h]; omega)
  rw [loadSchedule, if_neg (not_not.2 len), dif_pos range]
  simp only [index]
  rfl

theorem loadSchedule_outside (len : args.length = 4) (h : arg1 args 0 < 8 ∨ 15 < arg1 args 0) :
    loadSchedule args s = refuse .badArgument s := by
  rw [loadSchedule, if_neg (not_not.2 len), dif_neg (by omega)]

theorem loadSlot_disables {i : Fin 8} {e : SlotEntry} {x : Sws} (h : (x.schedule.get i).enable = true ∧ e.enable = false) :
    loadSlot i e x = { x with
      schedule := x.schedule.set i e
      latest := x.latest.set (slowChannel i) noSample
      sweep := x.sweep.map fun w => if w.slot = some i ∧ w.slotDone = false then { w with slot := none } else w } :=
  if_pos (by rw [h.1, h.2]; rfl)

theorem loadSlot_plain {i : Fin 8} {e : SlotEntry} {x : Sws}
    (h : ¬ ((x.schedule.get i).enable = true ∧ e.enable = false)) :
    loadSlot i e x = { x with schedule := x.schedule.set i e } := if_neg (by simpa using h)

/-! LOAD_PROFILE (R60) -/

theorem strictlyRising_iff {l : List Int} : strictlyRising l = true ↔ l.Pairwise fun x y => x < y := by
  induction l with
  | nil => exact iff_of_true rfl .nil
  | cons x l ih =>
    cases l with
    | nil => exact iff_of_true rfl (List.pairwise_singleton _ _)
    | cons y l =>
      rw [strictlyRising, Bool.and_eq_true, decide_eq_true_eq, ih, List.pairwise_cons (a := x)]
      refine ⟨fun ⟨hxy, h⟩ => ⟨fun z hz => ?_, h⟩, fun ⟨hx, h⟩ => ⟨hx y (List.mem_cons_self ..), h⟩⟩
      obtain rfl | hz := List.mem_cons.1 hz
      · exact hxy
      · exact hxy.trans ((List.pairwise_cons.1 h).1 z hz)

theorem inRange_iff {lo hi v : Nat} : inRange lo hi v = true ↔ lo ≤ v ∧ v ≤ hi := by simp [inRange]

/-- The ranges of R59. -/
theorem profileValid_iff {x : Profile} : profileValid x = true ↔
    x.bounds.Pairwise (fun u v => u < v) ∧ (∀ b ∈ x.bounds, -200 ≤ b ∧ b ≤ 800) ∧
      (∀ b ∈ x.bands, b.chargeLimit ≤ 8064 ∧ 3000 ≤ b.cellVoltage ∧ b.cellVoltage ≤ 4500 ∧ b.dischargeLimit ≤ 8064) ∧
      x.hyst ≤ 100 ∧ 2500 ≤ x.preThreshold ∧ x.preThreshold ≤ 3300 ∧ x.preCurrent ≤ 1024 ∧ 64 ≤ x.taperCurrent ∧
      x.taperCurrent ≤ 2048 ∧ 50 ≤ x.rechargeDelta ∧ x.rechargeDelta ≤ 300 ∧ 50 ≤ x.rechargeSoc ∧
      x.rechargeSoc ≤ 99 ∧ 60 ≤ x.fastLimit ∧ x.fastLimit ≤ 600 := by
  simp only [profileValid, Bool.and_eq_true, strictlyRising_iff, List.all_eq_true, decide_eq_true_eq, inRange_iff, and_assoc]

theorem loadProfile_at {i : Fin 4} (ne : args ≠ []) (h : arg1 args 0 / 16 = i.val) : loadProfile args s =
    if arg1 args 0 % 16 < 1 ∨ 6 < arg1 args 0 % 16 then refuse .invalidTable s
    else if args.length ≠ 11 + 8 * (arg1 args 0 % 16) then refuse .badLength s
    else if profileValid (profileOf args (arg1 args 0 % 16)) then
      accept (setProfile i (profileOf args (arg1 args 0 % 16)) s) []
    else refuse .invalidTable s := by
  have index (lt : arg1 args 0 / 16 < 4) : (⟨arg1 args 0 / 16, lt⟩ : Fin 4) = i := Fin.ext h
  rw [loadProfile, if_neg (Nat.not_lt.2 (List.length_pos_iff.2 ne)), dif_pos (h ▸ i.isLt), index]

theorem loadProfile_outside (ne : args ≠ []) (h : 4 ≤ arg1 args 0 / 16) :
    loadProfile args s = refuse .badArgument s := by
  rw [loadProfile, if_neg (Nat.not_lt.2 (List.length_pos_iff.2 ne)), dif_neg (Nat.not_lt.2 h)]

theorem noteProfile_eq (c : Charge) (id : Nat) : c.noteProfile id =
    { c with profileFresh := c.profileFresh || decide (c.lastProfile = some id) } := by
  unfold Charge.noteProfile
  split
  · next h => simp [h]
  · next h => simp [h]

theorem setProfile_eq (i : Fin 4) (x : Profile) : setProfile i x s = { s with
    ppc := { s.ppc with
      profiles := s.ppc.profiles.set i x
      charge := s.ppc.charge.map fun c =>
        { c with profileFresh := c.profileFresh || decide (c.lastProfile = some i.val) } } } := by
  simp only [setProfile, noteProfile_eq]

/-! LOAD_ADAPTER (R83) and LOAD_PASS_FILTER (R45) -/

theorem adapterEntryValid_iff {e : AdapterEntry} : adapterEntryValid e = true ↔
    e.low ≤ e.high ∧ e.high ≤ 3300 ∧ 1000 ≤ e.rating ∧ e.rating ≤ 16000 := by
  simp only [adapterEntryValid, Bool.and_eq_true, decide_eq_true_eq, inRange_iff]
  omega

theorem loadAdapter_at {i : Fin 8} (len : args.length = 8) (h : arg1 args 0 = i.val) : loadAdapter args s =
    if argFlag args 1 then accept (setAdapterEntry i none s) []
    else if adapterEntryValid ⟨arg2 args 2, arg2 args 4, arg2 args 6⟩ then
      accept (setAdapterEntry i (some ⟨arg2 args 2, arg2 args 4, arg2 args 6⟩) s) []
    else refuse .invalidTable s := by
  have index (lt : arg1 args 0 < 8) : (⟨arg1 args 0, lt⟩ : Fin 8) = i := Fin.ext h
  rw [loadAdapter, if_neg (not_not.2 len), dif_pos (h ▸ i.isLt), index]

theorem loadAdapter_outside (len : args.length = 8) (h : 8 ≤ arg1 args 0) :
    loadAdapter args s = refuse .badArgument s := by
  rw [loadAdapter, if_neg (not_not.2 len), dif_neg (Nat.not_lt.2 h)]

theorem loadPassFilter_outside (len : args.length = 5) (h : 8 ≤ arg1 args 0) :
    loadPassFilter args s = refuse .badArgument s := by
  rw [loadPassFilter, if_neg (not_not.2 len), dif_neg (Nat.not_lt.2 h)]

theorem loadPassFilter_empties {i : Fin 8} (len : args.length = 5) (h : arg1 args 0 = i.val)
    (empty : argFlag args 1 = true) : loadPassFilter args s = accept (setFilter i none s) [] := by
  have index (lt : arg1 args 0 < 8) : (⟨arg1 args 0, lt⟩ : Fin 8) = i := Fin.ext h
  rw [loadPassFilter, if_neg (not_not.2 len), dif_pos (h ▸ i.isLt), index, if_pos empty]

theorem verdictOf_num (v : Verdict) : verdictOf v.num = some v := by cases v <;> rfl

theorem verdictOf_none {n : Nat} (h : 2 < n) : verdictOf n = none := by
  rw [verdictOf, if_neg (by omega), if_neg (by omega), if_neg (by omega)]

theorem loadPassFilter_refuses {i : Fin 8} (len : args.length = 5) (h : arg1 args 0 = i.val)
    (full : argFlag args 1 = false) (bad : arg1 args 3 < arg1 args 2 ∨ 2 < arg1 args 4) :
    loadPassFilter args s = refuse .invalidTable s := by
  rw [loadPassFilter, if_neg (not_not.2 len), dif_pos (h ▸ i.isLt), if_neg (by rw [full]; decide)]
  cases verdict : verdictOf (arg1 args 4) with
  | none => rfl
  | some v => exact if_pos (bad.resolve_right fun gt => by rw [verdictOf_none gt] at verdict; cases verdict)

theorem loadPassFilter_fills {i : Fin 8} {v : Verdict} (len : args.length = 5) (h : arg1 args 0 = i.val)
    (full : argFlag args 1 = false) (order : arg1 args 2 ≤ arg1 args 3) (verdict : arg1 args 4 = v.num) :
    loadPassFilter args s = accept (setFilter i (some ⟨arg1 args 2, arg1 args 3, v⟩) s) [] := by
  have index (lt : arg1 args 0 < 8) : (⟨arg1 args 0, lt⟩ : Fin 8) = i := Fin.ext h
  rw [loadPassFilter, if_neg (not_not.2 len), dif_pos (h ▸ i.isLt), if_neg (by rw [full]; decide), verdict,
    verdictOf_num, index]
  exact if_neg (Nat.not_lt.2 order)

/-! LOAD_FAN_CURVE (R136) -/

theorem fanOf_num (f : Fan) : fanOf (fanNum f) = some f := by cases f <;> rfl

theorem fanOf_none {n : Nat} (h : n ≠ 1 ∧ n ≠ 2) : fanOf n = none := by rw [fanOf, if_neg h.1, if_neg h.2]

theorem curveValid_iff {mask : Nat} {x : Curve} : curveValid mask x = true ↔
    mask < 128 ∧ x.hyst ≤ 100 ∧ x.minDuty ≤ 1000 ∧ x.failsafe ≤ 1000 ∧
      (∀ q ∈ x.points, -400 ≤ q.1 ∧ q.1 ≤ 1500 ∧ q.2 ≤ 1000) ∧ x.points.Pairwise (fun u v => u.1 < v.1) := by
  simp only [curveValid, Bool.and_eq_true, decide_eq_true_eq, List.all_eq_true, ascending_iff, and_assoc]

theorem loadFanCurve_set {f : Fan} {i : Fin 3} (len : 2 ≤ args.length) (hf : arg1 args 0 = fanNum f)
    (h : arg1 args 1 = i.val) : loadFanCurve args s = loadFanSet f i args s := by
  have index (lt : arg1 args 1 < 3) : (⟨arg1 args 1, lt⟩ : Fin 3) = i := Fin.ext h
  rw [loadFanCurve, if_neg (by omega), hf, fanOf_num]
  dsimp only
  rw [dif_pos (h ▸ i.isLt), index]

theorem loadFanCurve_config {f : Fan} (len : 2 ≤ args.length) (hf : arg1 args 0 = fanNum f) (h : arg1 args 1 = 3) :
    loadFanCurve args s = loadFanConfig f args s := by
  rw [loadFanCurve, if_neg (by omega), hf, fanOf_num]
  dsimp only
  rw [dif_neg (by omega), if_pos h]

theorem loadFanCurve_refuses (len : 2 ≤ args.length) (h : arg1 args 0 ≠ 1 ∧ arg1 args 0 ≠ 2 ∨ 3 < arg1 args 1) :
    loadFanCurve args s = refuse .badArgument s := by
  rw [loadFanCurve, if_neg (by omega)]
  cases fan : fanOf (arg1 args 0) with
  | none => rfl
  | some f =>
    have set : 3 < arg1 args 1 := h.resolve_left fun none => by rw [fanOf_none none] at fan; cases fan
    exact (dif_neg (by omega)).trans (if_neg (by omega))

theorem stallCheckOff_retry {x : FanState} (m : PartMode) (h : x.state = .stallRetry) : x.stallCheckOff m =
    { x with
      state := .running
      retries := 0
      kickTimer := none
      silenceTimer := if m = .full then some 1000 else x.silenceTimer } := by
  rw [FanState.stallCheckOff, if_pos h, FanState.enterRunning_eq]

theorem loadConfig_frees {f : Fan} {c : FanConfig} (h : (s.fnc.configs.get f).stallCheck = true ∧ c.stallCheck = false ∧
    (s.fnc.fans.get f).state = .stallRetry) : loadConfig f c s =
      { s with fnc := { s.fnc with
        configs := s.fnc.configs.set f c
        fans := s.fnc.fans.set f { s.fnc.fans.get f with
          state := .running
          retries := 0
          kickTimer := none
          silenceTimer := if s.ssc.mode = .full then some 1000 else (s.fnc.fans.get f).silenceTimer } } } := by
  obtain ⟨checked, off, retry⟩ := h
  rw [loadConfig, if_pos (by rw [checked, off]; rfl), stallCheckOff_retry _ retry]
  rfl

theorem loadConfig_plain {f : Fan} {c : FanConfig} (h : ¬ ((s.fnc.configs.get f).stallCheck = true ∧
    c.stallCheck = false ∧ (s.fnc.fans.get f).state = .stallRetry)) :
    loadConfig f c s = { s with fnc := { s.fnc with configs := s.fnc.configs.set f c } } := by
  have same : s.fnc.fans.set f (s.fnc.fans.get f) = s.fnc.fans := by cases f <;> rfl
  unfold loadConfig
  dsimp only
  split
  · next off =>
    rw [Bool.and_eq_true, Bool.not_eq_true'] at off
    have other : (s.fnc.fans.get f).state ≠ .stallRetry := fun retry => h ⟨off.1, off.2, retry⟩
    rw [FanState.stallCheckOff, if_neg other, setFan, same]
  · rfl

/-! LOAD_POLICY (R170) -/

theorem policyCode_num {c : EventCode} (h : c ≠ .gap) : policyCode c.num = some c := by
  cases c with
  | gap => exact absurd rfl h
  | _ => rfl

theorem policyCode_none {n : Nat} (h : n = 0x20 ∨ n = 0 ∨ 0x23 < n) : policyCode n = none := by
  refine List.find?_eq_none.2 fun c _ => ?_
  have bounds : 1 ≤ c.num ∧ c.num ≤ 0x23 := by cases c <;> decide
  have gap : c.num = 0x20 → c = .gap := by cases c <;> decide
  simp only [Bool.and_eq_true, decide_eq_true_eq, not_and, not_not]
  exact fun same => gap (by omega)

theorem classOf_num (x : PolicyClass) : classOf x.num = some x := by cases x <;> rfl

theorem classOf_none {n : Nat} (h : 2 < n) : classOf n = none := by
  rw [classOf, if_neg (by omega), if_neg (by omega), if_neg (by omega)]

theorem mayStart_iff {c : EventCode} :
    c.mayStart = true ↔ c ∈ ([.powerButton, .lid, .adapterAttach, .keyWake] : List EventCode) := by
  cases c <;> decide

theorem urgentCodes_eq (t : Table Policy 35) (q : List EventRecord) : urgentCodes t q =
    allCodes.filter fun d => decide (d ≠ .gap ∧ (t.get d.idx).cls = .urgent) || decide (∃ r ∈ q, r.code = d) := by
  refine List.filter_congr fun d _ => ?_
  rw [Bool.eq_iff_iff]
  simp only [Bool.or_eq_true, Bool.and_eq_true, decide_eq_true_eq, List.any_eq_true]

theorem loadPolicy_at {c : EventCode} {cls : PolicyClass} (len : args.length = 3) (hc : c ≠ .gap)
    (h : arg1 args 0 = c.num) (hcls : arg1 args 1 = cls.num) :
    let p : Policy := ⟨cls, argBit args 2 0, argBit args 2 1⟩
    loadPolicy args s =
      if p.start && !c.mayStart then refuse .invalidTable s
      else if (urgentCodes (setPolicy s.evr c p) s.evr.urgent).length > 8 then refuse .invalidTable s
      else accept { s with evr := { s.evr with policy := setPolicy s.evr c p } }
        (put1 cls.num ++ putFlags [p.wake, p.start]) := by
  intro p
  rw [loadPolicy, if_neg (not_not.2 len), h, policyCode_num hc]
  dsimp only
  rw [hcls, classOf_num]

theorem loadPolicy_unknown (len : args.length = 3) (h : arg1 args 0 = 0x20 ∨ arg1 args 0 = 0 ∨ 0x23 < arg1 args 0) :
    loadPolicy args s = refuse .badArgument s := by
  rw [loadPolicy, if_neg (not_not.2 len), policyCode_none h]

theorem loadPolicy_class {c : EventCode} (len : args.length = 3) (hc : c ≠ .gap) (h : arg1 args 0 = c.num)
    (hcls : 2 < arg1 args 1) : loadPolicy args s = refuse .invalidTable s := by
  rw [loadPolicy, if_neg (not_not.2 len), h, policyCode_num hc]
  dsimp only
  rw [classOf_none hcls]

/-! LOAD_KEYROW (R119) -/

theorem loadKeyrow_at {row : Fin 8} (ne : args ≠ []) (h : arg1 args 0 = row.val) : loadKeyrow args s =
    if args.length ≠ 55 then refuse .badLength s
    else if (List.range 18).any fun c => keyFlagsBad args (1 + 3 * c) then refuse .invalidTable s
    else accept { s with kms := s.kms.loadRow row args } [] := by
  have index (lt : arg1 args 0 < 8) : (⟨arg1 args 0, lt⟩ : Fin 8) = row := Fin.ext h
  rw [loadKeyrow, if_neg (Nat.not_lt.2 (List.length_pos_iff.2 ne)), dif_pos (h ▸ row.isLt), index]

theorem loadKeyrow_outside (ne : args ≠ []) (h : 8 ≤ arg1 args 0) : loadKeyrow args s = refuse .badArgument s := by
  rw [loadKeyrow, if_neg (Nat.not_lt.2 (List.length_pos_iff.2 ne)), dif_neg (Nat.not_lt.2 h)]

/-- A flag field that names a flag that does not exist (R119). -/
theorem keyFlags_bad_iff : ((List.range 18).any fun c => keyFlagsBad args (1 + 3 * c)) = true ↔
    ∃ c, c < 18 ∧ 8 ≤ arg1 args (3 + 3 * c) := by
  have field (c : Nat) : 1 + 3 * c + 2 = 3 + 3 * c := by omega
  simp only [List.any_eq_true, List.mem_range, keyFlagsBad, decide_eq_true_eq, ge_iff_le, field]

theorem loadRow_get (k : Kms) (row : Fin 8) (p : Fin 144) : (k.loadRow row args).translation.get p =
    if p.val / 18 = row.val then keyEntryAt args (1 + 3 * (p.val % 18)) else k.translation.get p := by
  have rows : keyRow p = row ↔ p.val / 18 = row.val := Fin.ext_iff
  simp only [Kms.loadRow, Table.get_ofFn, rows]
  rfl

theorem keyEntryAt_eq (c : Nat) : keyEntryAt args (1 + 3 * c) =
    ⟨arg1 args (1 + 3 * c), arg1 args (2 + 3 * c), argBit args (3 + 3 * c) 0, argBit args (3 + 3 * c) 1,
      argBit args (3 + 3 * c) 2⟩ := by
  rw [keyEntryAt, show 1 + 3 * c + 1 = 2 + 3 * c by omega, show 1 + 3 * c + 2 = 3 + 3 * c by omega]

end

end Sys2Proof.Machine

namespace Sys2Proof.Machine

/-! ## The answers of the table loads (R10, R45, R60, R83, R119, R136, R170) -/

section
variable {s : State} {args : List Byte} {tag : Nat}

theorem loadSchedule_answers (head : RequestAtHead s 0x13 args tag) (len : args.length = 4) {i : Fin 8}
    (h : arg1 args 0 = 8 + i.val) :
    let e : SlotEntry := ⟨argFlag args 1, arg1 args 2, arg1 args 3⟩
    let clash := e.enable = true ∧ ∃ j, j ≠ i ∧ (s.sws.schedule.get j).enable = true ∧
      e.off % min e.rep (s.sws.schedule.get j).rep = (s.sws.schedule.get j).off % min e.rep (s.sws.schedule.get j).rep
    (¬ slotWellFormed e ∨ clash → exec .loadSchedule s = .next (answered tag .invalidTable [] s)) ∧
    (slotWellFormed e → ¬ clash → exec .loadSchedule s = .next (answered tag .ok []
      { s with sws := loadSlot i e s.sws })) := by
  intro e clash
  have fits : scheduleFits (popRequest s).sws.schedule i e = true ↔ ¬ clash := scheduleFits_iff
  refine ⟨fun bad => exec_refused (owner := loadSchedule) rfl head ((loadSchedule_at len h).trans ?_),
    fun good free => exec_accepted (owner := loadSchedule) rfl head ((loadSchedule_at len h).trans ?_)⟩
  · by_cases good : slotWellFormed e
    · rw [if_neg (mt (slotChecked_iff e).1 (not_not.2 good)),
        if_neg (mt fits.1 (not_not.2 (bad.resolve_left (not_not.2 good))))]
    · rw [if_pos ((slotChecked_iff e).2 good)]
  · rw [if_neg (mt (slotChecked_iff e).1 (not_not.2 good)), if_pos (fits.2 free)]
    rfl

theorem loadProfile_answers (head : RequestAtHead s 0x10 args tag) (ne : args ≠ []) {i : Fin 4}
    (h : arg1 args 0 / 16 = i.val) :
    let n := arg1 args 0 % 16
    let x := profileOf args n
    (n = 0 ∨ 6 < n → exec .loadProfile s = .next (answered tag .invalidTable [] s)) ∧
    (1 ≤ n → n ≤ 6 → args.length ≠ 11 + 8 * n → exec .loadProfile s = .next (answered tag .badLength [] s)) ∧
    (1 ≤ n → n ≤ 6 → args.length = 11 + 8 * n →
      (¬ profileValid x = true → exec .loadProfile s = .next (answered tag .invalidTable [] s)) ∧
      (profileValid x = true → exec .loadProfile s = .next (answered tag .ok [] (setProfile i x s)))) := by
  intro n x
  refine ⟨fun bad => exec_refused (owner := loadProfile) rfl head ((loadProfile_at ne h).trans (if_pos (by omega))),
    fun pos le len => exec_refused (owner := loadProfile) rfl head ((loadProfile_at ne h).trans ?_),
    fun pos le len => ⟨fun bad => exec_refused (owner := loadProfile) rfl head ((loadProfile_at ne h).trans ?_),
      fun good => exec_accepted (owner := loadProfile) rfl head ((loadProfile_at ne h).trans ?_)⟩⟩
  · rw [if_neg (by omega), if_pos len]
  · rw [if_neg (by omega), if_neg (not_not.2 len), if_neg bad]
  · rw [if_neg (by omega), if_neg (not_not.2 len), if_pos good]
    rfl

theorem profileOf_lengths {n : Nat} (h : 1 ≤ n) :
    (profileOf args n).bands.length = n ∧ (profileOf args n).bounds.length + 1 = n := by
  have one : n - 1 + 1 = n := by omega
  exact ⟨by simp [profileOf, bandsAt], by simpa [profileOf, boundsAt] using one⟩

theorem loadAdapter_answers (head : RequestAtHead s 0x11 args tag) (len : args.length = 8) {i : Fin 8}
    (h : arg1 args 0 = i.val) :
    let e : AdapterEntry := ⟨arg2 args 2, arg2 args 4, arg2 args 6⟩
    (argFlag args 1 = true →
      exec .loadAdapter s = .next (answered tag .ok [] (setAdapterEntry i none s))) ∧
    (argFlag args 1 = false →
      (adapterEntryValid e = true →
        exec .loadAdapter s = .next (answered tag .ok [] (setAdapterEntry i (some e) s))) ∧
      (¬ adapterEntryValid e = true → exec .loadAdapter s = .next (answered tag .invalidTable [] s))) := by
  refine ⟨fun empty => exec_accepted (owner := loadAdapter) rfl head ((loadAdapter_at len h).trans (if_pos empty)),
    fun full => ?_⟩
  have filled : ¬ argFlag args 1 = true := by rw [full]; decide
  exact ⟨fun good => exec_accepted (owner := loadAdapter) rfl head
      ((loadAdapter_at len h).trans ((if_neg filled).trans (if_pos good))),
    fun bad => exec_refused (owner := loadAdapter) rfl head
      ((loadAdapter_at len h).trans ((if_neg filled).trans (if_neg bad)))⟩

theorem loadPassFilter_answers (head : RequestAtHead s 0x17 args tag) (len : args.length = 5) {i : Fin 8}
    (h : arg1 args 0 = i.val) :
    (argFlag args 1 = true →
      exec .loadPassFilter s = .next (answered tag .ok [] (setFilter i none s))) ∧
    (argFlag args 1 = false →
      (arg1 args 3 < arg1 args 2 ∨ 2 < arg1 args 4 →
        exec .loadPassFilter s = .next (answered tag .invalidTable [] s)) ∧
      (∀ v : Verdict, arg1 args 2 ≤ arg1 args 3 → arg1 args 4 = v.num → exec .loadPassFilter s =
        .next (answered tag .ok [] (setFilter i (some ⟨arg1 args 2, arg1 args 3, v⟩) s)))) :=
  ⟨fun empty => exec_accepted (owner := loadPassFilter) rfl head (loadPassFilter_empties len h empty),
    fun full =>
      ⟨fun bad => exec_refused (owner := loadPassFilter) rfl head (loadPassFilter_refuses len h full bad),
        fun _ order verdict => exec_accepted (owner := loadPassFilter) rfl head
          (loadPassFilter_fills len h full order verdict)⟩⟩

theorem loadFanSet_answers (head : RequestAtHead s 0x14 args tag) {f : Fan} (hf : arg1 args 0 = fanNum f) {i : Fin 3}
    (hi : arg1 args 1 = i.val) (len : 4 ≤ args.length) :
    let n := arg1 args 3
    (n < 2 ∨ 8 < n → exec .loadFanCurve s = .next (answered tag .invalidTable [] s)) ∧
    (2 ≤ n → n ≤ 8 → args.length ≠ 9 + 4 * n → exec .loadFanCurve s = .next (answered tag .badLength [] s)) ∧
    (2 ≤ n → n ≤ 8 → args.length = 9 + 4 * n →
      (¬ curveValid (arg1 args 2) (curveAt args) = true →
        exec .loadFanCurve s = .next (answered tag .invalidTable [] s)) ∧
      (curveValid (arg1 args 2) (curveAt args) = true →
        exec .loadFanCurve s = .next (answered tag .ok [] (loadCurve f i (curveAt args) s)))) := by
  intro n
  have set (t : State) : loadFanCurve args t = loadFanSet f i args t := loadFanCurve_set (by omega) hf hi
  refine ⟨fun bad => exec_refused (owner := loadFanCurve) rfl head ((set _).trans ?_),
    fun two eight other => exec_refused (owner := loadFanCurve) rfl head ((set _).trans ?_),
    fun two eight whole => ⟨fun bad => exec_refused (owner := loadFanCurve) rfl head ((set _).trans ?_),
      fun good => exec_accepted (owner := loadFanCurve) rfl head ((set _).trans ?_)⟩⟩
  · rw [loadFanSet, if_neg (by omega), if_pos bad]
  · rw [loadFanSet, if_neg (by omega), if_neg (by omega), if_pos other]
  · rw [loadFanSet, if_neg (by omega), if_neg (by omega), if_neg (not_not.2 whole), if_neg bad]
  · rw [loadFanSet, if_neg (by omega), if_neg (by omega), if_neg (not_not.2 whole), if_pos good]
    rfl

theorem loadConfig_popRequest (f : Fan) (c : FanConfig) :
    loadConfig f c (popRequest s) = popRequest (loadConfig f c s) := by
  unfold loadConfig
  dsimp only
  rw [apply_ite popRequest]
  rfl

theorem loadFanConfig_answers (head : RequestAtHead s 0x14 args tag) {f : Fan} (hf : arg1 args 0 = fanNum f)
    (hi : arg1 args 1 = 3) (len : args.length = 4) :
    let ranged := 1 ≤ arg1 args 2 ∧ arg1 args 2 ≤ 4 ∧ arg1 args 3 ≤ 1
    (¬ ranged → exec .loadFanCurve s = .next (answered tag .invalidTable [] s)) ∧
    (ranged → exec .loadFanCurve s = .next (answered tag .ok []
      (loadConfig f ⟨arg1 args 2, decide (arg1 args 3 = 1)⟩ s))) := by
  intro ranged
  have config (t : State) : loadFanCurve args t = loadFanConfig f args t := loadFanCurve_config (by omega) hf hi
  refine ⟨fun bad => exec_refused (owner := loadFanCurve) rfl head ((config _).trans ?_),
    fun good => exec_accepted (owner := loadFanCurve) rfl head ((config _).trans ?_)⟩
  · rw [loadFanConfig, if_neg (not_not.2 len), if_pos (by omega)]
  · rw [loadFanConfig, if_neg (not_not.2 len), if_neg (by omega), loadConfig_popRequest]

theorem loadFanCurve_lengths (head : RequestAtHead s 0x14 args tag) :
    (args.length < 2 → exec .loadFanCurve s = .next (answered tag .badLength [] s)) ∧
    (2 ≤ args.length → arg1 args 0 = 1 ∨ arg1 args 0 = 2 →
      (arg1 args 1 < 3 → args.length < 4 → exec .loadFanCurve s = .next (answered tag .badLength [] s)) ∧
      (arg1 args 1 = 3 → args.length ≠ 4 → exec .loadFanCurve s = .next (answered tag .badLength [] s))) := by
  refine ⟨fun short => exec_refused (owner := loadFanCurve) rfl head (if_pos short), fun two hf => ?_⟩
  obtain ⟨f, hf⟩ : ∃ f, arg1 args 0 = fanNum f := hf.elim (⟨.one, ·⟩) (⟨.two, ·⟩)
  exact ⟨fun lt short => exec_refused (owner := loadFanCurve) rfl head
      ((loadFanCurve_set (i := ⟨_, lt⟩) two hf rfl).trans (if_pos short)),
    fun three other => exec_refused (owner := loadFanCurve) rfl head
      ((loadFanCurve_config two hf three).trans (if_pos other))⟩

theorem loadPolicy_answers (head : RequestAtHead s 0x15 args tag) (len : args.length = 3) {c : EventCode} (hc : c ≠ .gap)
    (h : arg1 args 0 = c.num) {cls : PolicyClass} (hcls : arg1 args 1 = cls.num) :
    let policy : Policy := ⟨cls, argBit args 2 0, argBit args 2 1⟩
    let table := s.evr.policy.set c.idx policy
    let startBad := policy.start = true ∧ c ∉ ([.powerButton, .lid, .adapterAttach, .keyWake] : List EventCode)
    let urgent := urgentCodes table s.evr.urgent
    (startBad ∨ 8 < urgent.length → exec .loadPolicy s = .next (answered tag .invalidTable [] s)) ∧
    (¬ startBad → urgent.length ≤ 8 → exec .loadPolicy s = .next (answered tag .ok
      [BitVec.ofNat 8 cls.num, BitVec.ofNat 8 (policy.wake.toNat + 2 * policy.start.toNat)]
      { s with evr := { s.evr with policy := table } })) := by
  intro policy table startBad urgent
  have start : (policy.start && !c.mayStart) = true ↔ startBad := by
    rw [Bool.and_eq_true, Bool.not_eq_true', Bool.eq_false_iff, ne_eq, mayStart_iff]
  refine ⟨fun bad => exec_refused (owner := loadPolicy) rfl head ((loadPolicy_at len hc h hcls).trans ?_),
    fun may few => exec_accepted (owner := loadPolicy) rfl head ((loadPolicy_at len hc h hcls).trans ?_)⟩
  · by_cases bad' : startBad
    · exact if_pos (start.2 bad')
    · rw [if_neg (mt start.1 bad')]
      exact if_pos (bad.resolve_left bad')
  · rw [if_neg (mt start.1 may), putFlags_two]
    exact if_neg (Nat.not_lt.2 few)

theorem loadKeyrow_answers (head : RequestAtHead s 0x16 args tag) (ne : args ≠ []) {row : Fin 8}
    (h : arg1 args 0 = row.val) :
    (args.length ≠ 55 → exec .loadKeyrow s = .next (answered tag .badLength [] s)) ∧
    (args.length = 55 →
      ((∃ c, c < 18 ∧ 8 ≤ arg1 args (3 + 3 * c)) → exec .loadKeyrow s = .next (answered tag .invalidTable [] s)) ∧
      ((∀ c, c < 18 → arg1 args (3 + 3 * c) < 8) → exec .loadKeyrow s = .next (answered tag .ok []
        { s with kms := s.kms.loadRow row args }))) := by
  refine ⟨fun other => exec_refused (owner := loadKeyrow) rfl head ((loadKeyrow_at ne h).trans (if_pos other)),
    fun len => ⟨fun bad => exec_refused (owner := loadKeyrow) rfl head ((loadKeyrow_at ne h).trans ?_),
      fun good => exec_accepted (owner := loadKeyrow) rfl head ((loadKeyrow_at ne h).trans ?_)⟩⟩
  · rw [if_neg (not_not.2 len), if_pos (keyFlags_bad_iff.2 bad)]
  · have good' : ¬ ∃ c, c < 18 ∧ 8 ≤ arg1 args (3 + 3 * c) := fun ⟨c, lt, ge⟩ => Nat.not_lt.2 ge (good c lt)
    rw [if_neg (not_not.2 len), if_neg (mt keyFlags_bad_iff.1 good')]
    rfl

end

/-- Settles O50: the first failing check of each load decides its reply, and an accepted load replaces its one entry. -/
theorem loadsReplaceOneEntry : Obligations.LoadsReplaceOneEntry := by
  intro s args tag answers
  have wrong {num : Nat} {c : Instr} {owner : List Byte → State → Answer}
      (run : exec c s = .next (runRequest num owner s)) (head : RequestAtHead s num args tag)
      (h : owner args (popRequest s) = refuse .badLength (popRequest s)) : answers c .badLength s :=
    exec_refused run head h
  refine ⟨⟨fun head h => wrong (owner := loadSchedule) rfl head (if_pos h),
      fun head h => wrong (owner := loadProfile) rfl head (if_pos (by rw [h]; exact Nat.zero_lt_one)),
      fun head h => wrong (owner := loadAdapter) rfl head (if_pos h),
      fun head h => wrong (owner := loadPassFilter) rfl head (if_pos h), loadFanCurve_lengths,
      fun head h => wrong (owner := loadPolicy) rfl head (if_pos h),
      fun head h => wrong (owner := loadKeyrow) rfl head (if_pos (by rw [h]; exact Nat.zero_lt_one))⟩,
    fun head len => ?schedule, fun head ne => ?profile, fun head len => ?adapter, fun head len => ?filter,
    fun head len => ?curve, fun head len => ?policy, fun head ne => ?keyrow⟩
  case schedule =>
    refine ⟨fun out => exec_refused (owner := loadSchedule) rfl head (loadSchedule_outside len out), fun i h => ?_⟩
    obtain ⟨refused, loaded⟩ := loadSchedule_answers head len h
    refine ⟨refused, fun good free => ⟨fun off => ?_, fun plain => ?_⟩⟩
    · exact (loaded good free).trans (by rw [loadSlot_disables off]; rfl)
    · exact (loaded good free).trans (by rw [loadSlot_plain plain])
  case profile =>
    refine ⟨fun out => exec_refused (owner := loadProfile) rfl head (loadProfile_outside ne out), fun i h => ?_⟩
    obtain ⟨bands, length, whole⟩ := loadProfile_answers head ne h
    refine ⟨bands, length, fun pos le len => ⟨fun bad => ?_, fun good => ?_⟩⟩
    · exact (whole pos le len).1 (mt profileValid_iff.1 bad)
    · obtain ⟨bandCount, boundCount⟩ := profileOf_lengths (args := args) pos
      exact ⟨bandCount, boundCount, ((whole pos le len).2 (profileValid_iff.2 good)).trans (by rw [setProfile_eq])⟩
  case adapter =>
    refine ⟨fun out => exec_refused (owner := loadAdapter) rfl head (loadAdapter_outside len out), fun i h => ?_⟩
    obtain ⟨empty, full⟩ := loadAdapter_answers head len h
    exact ⟨empty, fun filled => ⟨fun good => (full filled).1 (adapterEntryValid_iff.2 good),
      fun bad => (full filled).2 (mt adapterEntryValid_iff.1 bad)⟩⟩
  case filter =>
    exact ⟨fun out => exec_refused (owner := loadPassFilter) rfl head (loadPassFilter_outside len out),
      fun i h => loadPassFilter_answers head len h⟩
  case curve =>
    refine ⟨fun bad => exec_refused (owner := loadFanCurve) rfl head (loadFanCurve_refuses len bad),
      fun f hf => ⟨fun i hi four => ?_, fun hi four => ?_⟩⟩
    · obtain ⟨count, length, whole⟩ := loadFanSet_answers head hf hi four
      refine ⟨count, length, fun two eight len => ⟨fun bad => ?_, fun good => ⟨?_, ?_⟩⟩⟩
      · exact (whole two eight len).1 (mt curveValid_iff.1 bad)
      · exact (List.length_map ..).trans List.length_range
      · exact (whole two eight len).2 (curveValid_iff.2 good)
    · obtain ⟨bad, good⟩ := loadFanConfig_answers head hf hi four
      refine ⟨bad, fun ranged => ⟨fun plain => ?_, fun freed => ?_⟩⟩
      · exact (good ranged).trans (by rw [loadConfig_plain plain])
      · exact (good ranged).trans (by rw [loadConfig_frees freed])
  case policy =>
    refine ⟨fun out => exec_refused (owner := loadPolicy) rfl head (loadPolicy_unknown len out), fun c hc h =>
      ⟨fun out => exec_refused (owner := loadPolicy) rfl head (loadPolicy_class len hc h out), fun cls hcls => ?_⟩⟩
    obtain ⟨refused, accepted⟩ := loadPolicy_answers head len hc h hcls
    exact ⟨fun bad => refused (by rwa [urgentCodes_eq]), fun may few => accepted may (by rwa [urgentCodes_eq])⟩
  case keyrow =>
    refine ⟨fun out => exec_refused (owner := loadKeyrow) rfl head (loadKeyrow_outside ne out), fun row h => ?_⟩
    obtain ⟨length, whole⟩ := loadKeyrow_answers head ne h
    refine ⟨length, fun len => ⟨(whole len).1, fun good => ⟨_, (whole len).2 good, rfl, fun p => ?_⟩⟩⟩
    exact ⟨fun other => (loadRow_get ..).trans (if_neg other),
      fun same => (loadRow_get ..).trans ((if_pos same).trans (keyEntryAt_eq _))⟩

end Sys2Proof.Machine

namespace Sys2Proof.Machine

/-! ## LOAD_LIMIT and RESTORE_DEFAULTS (R17 to R19, R31, R34, R189) -/

section
variable {s : State} {args : List Byte} {ch : Fin 16} {e : LimitEntry}

/-! The checks of LOAD_LIMIT (R18) -/

theorem limitInRange_iff {l : Option Int} : limitInRange ch l = true ↔ ∀ v ∈ l, clamped ch v = v := by
  have range := clampRange_le ch
  cases l with
  | none => simp [limitInRange]
  | some v =>
    simp only [limitInRange, Bool.and_eq_true, decide_eq_true_eq, Option.mem_def, Option.some.injEq, forall_eq', clamped]
    omega

theorem limitsLe_iff {x y : Option Int} : limitsLe x y = true ↔ ∀ a ∈ x, ∀ b ∈ y, a ≤ b := by
  cases x <;> cases y <;> simp [limitsLe]

theorem pairApart_iff {low high : Option Int} {hyst : Int} :
    pairApart low high hyst = true ↔ ∀ l ∈ low, ∀ h ∈ high, l ≠ h ∧ 2 * hyst ≤ h - l := by
  cases low <;> cases high <;> simp [pairApart]

theorem pairwise_option {α : Type} {R : α → α → Prop} (x : Option α) : x.toList.Pairwise R := by
  cases x <;> simp

/-- Checks 2 to 5 of R18. -/
theorem limitEntryValid_iff : limitEntryValid ch e = true ↔
    e.hyst ≤ 1000 ∧ 1 ≤ e.deglitch ∧ e.deglitch ≤ 15 ∧
      (∀ l ∈ e.faultLow.toList ++ e.warnLow.toList ++ e.warnHigh.toList ++ e.faultHigh.toList, clamped ch l = l) ∧
      (e.faultLow.toList ++ e.warnLow.toList ++ e.warnHigh.toList ++ e.faultHigh.toList).Pairwise (fun u v => u ≤ v) ∧
      (∀ l ∈ e.warnLow, ∀ h ∈ e.warnHigh, l ≠ h ∧ 2 * e.hyst ≤ h - l) ∧
      (∀ l ∈ e.faultLow, ∀ h ∈ e.faultHigh, l ≠ h ∧ 2 * e.hyst ≤ h - l) := by
  have inClamp : (∀ l ∈ e.faultLow.toList ++ e.warnLow.toList ++ e.warnHigh.toList ++ e.faultHigh.toList,
      clamped ch l = l) ↔ limitInRange ch e.warnLow = true ∧ limitInRange ch e.warnHigh = true ∧
        limitInRange ch e.faultLow = true ∧ limitInRange ch e.faultHigh = true := by
    simp only [List.mem_append, Option.mem_toList, or_imp, forall_and, limitInRange_iff]
    tauto
  have ordered : (e.faultLow.toList ++ e.warnLow.toList ++ e.warnHigh.toList ++ e.faultHigh.toList).Pairwise
      (fun u v => u ≤ v) ↔ limitsLe e.faultLow e.warnLow = true ∧ limitsLe e.faultLow e.warnHigh = true ∧
        limitsLe e.faultLow e.faultHigh = true ∧ limitsLe e.warnLow e.warnHigh = true ∧
        limitsLe e.warnLow e.faultHigh = true ∧ limitsLe e.warnHigh e.faultHigh = true := by
    simp only [List.pairwise_append, pairwise_option, List.mem_append, Option.mem_toList, or_imp, forall_and,
      limitsLe_iff, true_and]
    tauto
  rw [inClamp, ordered]
  simp only [limitEntryValid, Bool.and_eq_true, decide_eq_true_eq, pairApart_iff]
  tauto

theorem actionOf_num (a : Action) : allActions[a.num]? = some a := by cases a <;> rfl

theorem actionOf_none {n : Nat} (h : 10 ≤ n) : allActions[n]? = none := List.getElem?_eq_none h

theorem loadLimit_at {a : Action} (len : args.length = 16) (h : arg1 args 0 = ch.val) (ha : arg1 args 14 = a.num) :
    loadLimit args s =
      if limitEntryValid ch (limitEntryAt args 1 a) then accept (loadLimitEntry ch (limitEntryAt args 1 a) s) []
      else refuse .invalidTable s := by
  have index (lt : arg1 args 0 < 16) : (⟨arg1 args 0, lt⟩ : Fin 16) = ch := Fin.ext h
  rw [loadLimit, if_neg (not_not.2 len), dif_pos (h ▸ ch.isLt), ha, actionOf_num, index]

theorem loadLimit_outside (len : args.length = 16) (h : 16 ≤ arg1 args 0) :
    loadLimit args s = refuse .badArgument s := by
  rw [loadLimit, if_neg (not_not.2 len), dif_neg (Nat.not_lt.2 h)]

theorem loadLimit_action (len : args.length = 16) (h : arg1 args 0 = ch.val) (ha : 10 ≤ arg1 args 14) :
    loadLimit args s = refuse .invalidTable s := by
  rw [loadLimit, if_neg (not_not.2 len), dif_pos (h ▸ ch.isLt), actionOf_none ha]

/-! The load itself (R19, R31) -/

/-- An entry replaced, with the runs and the state of its channel: those kept under enable on, NORMAL under enable off. -/
def withEntry (ch : Fin 16) (e : LimitEntry) (c : LimitChan) (s : State) : State :=
  { s with lmt := { s.lmt with entries := s.lmt.entries.set ch e, chans := s.lmt.chans.set ch c } }

/-- The state in which a load recomputes the action set. -/
def loadedLimit (ch : Fin 16) (e : LimitEntry) (s : State) : State :=
  if e.enable then { s with lmt := { s.lmt with entries := s.lmt.entries.set ch e } }
  else
    let t := withEntry ch e ((s.lmt.chans.get ch).enter .normal) s
    if (s.lmt.chans.get ch).state = .fault ∨ (s.lmt.chans.get ch).state = .held then route .limitCleared ch.val 0 t
    else t

theorem loadLimitEntry_eq : loadLimitEntry ch e s =
    if (e.enable && assertsOff (s.lmt.entries.get ch) e (s.lmt.chans.get ch)) = true then
      forceOff .fault (recomputeActions (loadedLimit ch e s))
    else recomputeActions (loadedLimit ch e s) := by
  unfold loadLimitEntry loadedLimit
  cases e.enable with
  | false => rfl
  | true => rfl

theorem loadedLimit_entries : (loadedLimit ch e s).lmt.entries = s.lmt.entries.set ch e := by
  unfold loadedLimit
  dsimp only
  split
  · rfl
  · split
    · rw [route_lmt]; rfl
    · rfl

theorem loadedLimit_enabled (h : e.enable = true) : loadedLimit ch e s =
    { s with lmt := { s.lmt with entries := s.lmt.entries.set ch e } } := if_pos h

theorem loadedLimit_disabled (h : e.enable = false) :
    (loadedLimit ch e s).lmt.chans = s.lmt.chans.set ch ((s.lmt.chans.get ch).enter .normal) := by
  unfold loadedLimit
  dsimp only
  rw [if_neg (by rw [h]; decide)]
  split
  · rw [route_lmt]; rfl
  · rfl

theorem loadedLimit_tallied (h : e.enable = false)
    (state : (s.lmt.chans.get ch).state = .fault ∨ (s.lmt.chans.get ch).state = .held) :
    Tallied .limitCleared s (loadedLimit ch e s) := by
  unfold loadedLimit
  dsimp only
  rw [if_neg (by rw [h]; decide), if_pos state]
  exact route_tallied_after (by rfl) _ _

theorem loadedLimit_handed : Handed s (loadedLimit ch e s) := by
  have entry (l : Lmt) : Handed s { s with lmt := l } := ⟨id, rfl, rfl, rfl, rfl, rfl, rfl, fun _ => .rfl⟩
  unfold loadedLimit
  dsimp only
  split
  · exact entry _
  · split
    · exact (entry _).trans (route_handed ..)
    · exact entry _

/-- What a recomputation, asserting SYSTEM_OFF or not, leaves as it was. -/
theorem asserted_leaves {u : State} (handed : Handed s u) (asserts : Prop) [Decidable asserts] :
    let t := if asserts then forceOff .fault (recomputeActions u) else recomputeActions u
    t.lmt = { u.lmt with actionSet := u.lmt.carried } ∧ t.ppt = s.ppt ∧ t.swi = s.swi := by
  have recomputed : Handed s (recomputeActions u) := handed.trans recompute_handed
  dsimp only
  split
  · rw [forceOff_lmt, forceOff_ppt, forceOff_swi]
    exact ⟨recomputeActions_lmt, recomputed.ppt, recomputed.swi⟩
  · exact ⟨recomputeActions_lmt, recomputed.ppt, recomputed.swi⟩

theorem loadLimitEntry_leaves : (loadLimitEntry ch e s).lmt =
      { (loadedLimit ch e s).lmt with actionSet := (loadedLimit ch e s).lmt.carried } ∧
    (loadLimitEntry ch e s).ppt = s.ppt ∧ (loadLimitEntry ch e s).swi = s.swi := by
  rw [loadLimitEntry_eq]
  exact asserted_leaves loadedLimit_handed _

theorem restoreLimits_leaves : (restoreLimits s).lmt.entries = defaultLimits ∧
    (restoreLimits s).lmt.chans = s.lmt.chans ∧ (restoreLimits s).lmt.actionSet = (restoreLimits s).lmt.carried ∧
    (restoreLimits s).ppt = s.ppt ∧ (restoreLimits s).swi = s.swi := by
  let u : State := { s with lmt := { s.lmt with entries := defaultLimits } }
  have leaves : (restoreLimits s).lmt = { u.lmt with actionSet := u.lmt.carried } ∧
      (restoreLimits s).ppt = s.ppt ∧ (restoreLimits s).swi = s.swi :=
    asserted_leaves ⟨id, rfl, rfl, rfl, rfl, rfl, rfl, fun _ => .rfl⟩ _
  obtain ⟨lmt, ppt, swi⟩ := leaves
  rw [lmt]
  exact ⟨rfl, rfl, rfl, ppt, swi⟩

theorem loadLimitEntry_entries : (loadLimitEntry ch e s).lmt.entries = s.lmt.entries.set ch e := by
  rw [loadLimitEntry_leaves.1]
  exact loadedLimit_entries

theorem loadLimitEntry_carried : (loadLimitEntry ch e s).lmt.actionSet = (loadLimitEntry ch e s).lmt.carried := by
  rw [loadLimitEntry_leaves.1]
  rfl

/-- The sampler keeps all but its countdown, which OFF sets anew. -/
theorem loadLimitEntry_sws : (loadLimitEntry ch e s).sws =
    { s.sws with countdown := (loadLimitEntry ch e s).sws.countdown } := by
  obtain ⟨latest, schedule, counter, sweep⟩ := sws_fields (sws_of_keeps fun _ => loadLimitEntry_keeps (s := s) ch e)
  dsimp only
  rw [← latest, ← schedule, ← counter, ← sweep]

theorem loadLimitEntry_chan_ne {i : Fin 16} (h : i ≠ ch) :
    (loadLimitEntry ch e s).lmt.chans.get i = s.lmt.chans.get i := by
  cases on : e.enable with
  | true => rw [loadLimitEntry_chans_on on]
  | false => rw [(loadLimitEntry_lmt_off on).1, Table.get_set_ne _ _ h]

/-- A load with enable off tallies one LIMIT_CLEARED where it clears the channel (R19, R172). -/
theorem loadLimitEntry_tallied (h : e.enable = false)
    (state : (s.lmt.chans.get ch).state = .fault ∨ (s.lmt.chans.get ch).state = .held) :
    Tallied .limitCleared s (loadLimitEntry ch e s) := by
  rw [loadLimitEntry_eq, h, Bool.false_and, if_neg (by decide)]
  exact (loadedLimit_tallied h state).same (recompute_sameTally rfl)

/-- SYSTEM_OFF given to a channel in FAULT takes the system to OFF (R31). -/
theorem loadLimitEntry_off (h : e.enable = true) (fault : (s.lmt.chans.get ch).state = .fault)
    (new : e.action = .systemOff) (old : (s.lmt.entries.get ch).action ≠ .systemOff) (legal : PolicyLegal s.evr) :
    (loadLimitEntry ch e s).ssc.state = .off := by
  have asserts : (e.enable && assertsOff (s.lmt.entries.get ch) e (s.lmt.chans.get ch)) = true := by
    simp [assertsOff, h, fault, new, old]
  have policy : (recomputeActions (loadedLimit ch e s)).evr.policy = s.evr.policy :=
    (loadedLimit_handed.trans recompute_handed).policy
  rw [loadLimitEntry_eq, if_pos asserts]
  exact (forceOff_off .fault (by simpa only [PolicyLegal, policy] using legal)).1

/-! RESTORE_DEFAULTS (R189) -/

theorem restorePolicy_eq : restorePolicy s = if (urgentCodes defaultPolicy s.evr.urgent).length > 8 then refuse .notNow s
    else accept { s with evr := { s.evr with policy := defaultPolicy } } [] := rfl

end

/-- Settles O51: what LOAD_LIMIT's entry does to its channel, and each of the eight restored tables. -/
theorem limitLoadsAndDefaultsAct : Obligations.LimitLoadsAndDefaultsAct := by
  intro s args tag
  refine ⟨fun head len => exec_refused (owner := loadLimit) rfl head (if_pos len), fun head len =>
    ⟨fun out => exec_refused (owner := loadLimit) rfl head (loadLimit_outside len out), fun ch h =>
      ⟨fun out => exec_refused (owner := loadLimit) rfl head (loadLimit_action len h out), fun a ha => ?limit⟩⟩,
    fun head => ?restore⟩
  case limit =>
    intro limit e ordered apart inClamp valid
    have run := exec_at_head (c := .loadLimit) (owner := loadLimit) rfl head
    have entry : limitEntryAt args 1 a = e := rfl
    rw [loadLimit_at len h ha, entry] at run
    refine ⟨fun bad => ?_, fun good => ⟨answerWith tag (accept (loadLimitEntry ch e (popRequest s)) []), ?_, ?_⟩⟩
    · rw [run, if_neg (mt limitEntryValid_iff.1 bad)]
      rfl
    · rw [run, if_pos (limitEntryValid_iff.2 good)]
    · refine ⟨loadLimitEntry_entries (s := popRequest s), loadLimitEntry_carried (s := popRequest s),
        fun d ne => loadLimitEntry_chan_ne (s := popRequest s) ne, fun on => ?_, fun off => ?_, fun off state => ?_,
        fun on fault new old legal => loadLimitEntry_off (s := popRequest s) on fault new old legal,
        loadLimitEntry_sws (s := popRequest s), loadLimitEntry_leaves.2.1, loadLimitEntry_leaves.2.2,
        answerWith_getLast ..⟩
      · exact congrArg (·.get ch) (loadLimitEntry_chans_on (s := popRequest s) on)
      · refine (congrArg (·.get ch) (loadLimitEntry_lmt_off (s := popRequest s) off).1).trans ?_
        exact Table.get_set_self ..
      · exact loadLimitEntry_tallied (s := popRequest s) off state
  case restore =>
    intro restores
    have whole {t : State} (num : Byte) (one : args = [num])
        (h : restoreDefaults [num] (popRequest s) = accept (popRequest t) []) : restores t :=
      exec_accepted (owner := restoreDefaults) rfl head (one ▸ h)
    refine ⟨fun h => ?_, fun n rest h out => ?_, fun n m rest h ne le => ?_, fun h => whole 1 h rfl, fun h => ?_,
      fun h => whole 3 h rfl, fun h => whole 4 h rfl, fun h => whole 5 h rfl, fun h => ?_, fun h => whole 7 h rfl,
      fun h => whole 8 h rfl⟩
    · exact exec_refused (owner := restoreDefaults) rfl head (if_pos (by rw [h]; exact Nat.zero_lt_one))
    · have range : arg1 args 0 < 1 ∨ 8 < arg1 args 0 := by
        rw [h]
        refine out.imp_left fun zero => ?_
        rw [zero]
        exact Nat.zero_lt_one
      refine exec_refused (owner := restoreDefaults) rfl head ?_
      rw [restoreDefaults, if_neg (by rw [h]; exact Nat.not_lt.2 (Nat.le_add_left ..)), if_pos range]
    · have pos : n.toNat ≠ 0 := fun zero => ne (BitVec.eq_of_toNat_eq zero)
      have range : ¬ (arg1 args 0 < 1 ∨ 8 < arg1 args 0) := by
        rw [h]
        exact not_or.2 ⟨Nat.not_lt.2 (Nat.pos_of_ne_zero pos), Nat.not_lt.2 le⟩
      refine exec_refused (owner := restoreDefaults) rfl head ?_
      rw [restoreDefaults, if_neg (by rw [h]; exact Nat.not_lt.2 (Nat.le_add_left ..)), if_neg range,
        if_pos (by rw [h]; simp)]
    · obtain ⟨entries, chans, carried, ppt, swi⟩ := restoreLimits_leaves (s := popRequest s)
      have run : exec .restoreDefaults s = .next (answerWith tag (accept (restoreLimits (popRequest s)) [])) := by
        rw [exec_at_head (c := .restoreDefaults) (owner := restoreDefaults) rfl head, h]
        rfl
      exact ⟨_, run, entries, chans, carried, ppt, swi, answerWith_getLast ..⟩
    · intro urgent
      have policy : restoreDefaults args (popRequest s) = restorePolicy (popRequest s) := by rw [h]; rfl
      have codes : urgentCodes defaultPolicy (popRequest s).evr.urgent = urgent := urgentCodes_eq ..
      refine ⟨fun few => exec_accepted (owner := restoreDefaults) rfl head (policy.trans ?_),
        fun many => exec_refused (owner := restoreDefaults) rfl head (policy.trans ?_)⟩
      · rw [restorePolicy_eq, codes, if_neg (Nat.not_lt.2 few)]
        rfl
      · rw [restorePolicy_eq, codes, if_pos many]

end Sys2Proof.Machine

namespace Sys2Proof.Machine

/-! ## The bytes of the reading requests (R14, R33, R58, R99, R122, R150, R188, R189) -/

section
variable {s : State}

/-! Flags in one byte -/

theorem flagSet_testBit (bs : List Bool) (i : Nat) : (flagSet bs).testBit i = bs.getD i false := by
  induction bs generalizing i with
  | nil => simp [flagSet]
  | cons b bs ih =>
    have bit : flagSet (b :: bs) = 2 ^ 1 * flagSet bs + b.toNat := by rw [flagSet]; omega
    have small : b.toNat < 2 ^ 1 := by cases b <;> decide
    rw [bit, Nat.testBit_two_pow_mul_add _ small]
    cases i with
    | zero => cases b <;> rfl
    | succ i => rw [if_neg (by omega), Nat.add_sub_cancel, ih, List.getD_cons_succ]

theorem flagSet_lt (bs : List Bool) : flagSet bs < 2 ^ bs.length := by
  induction bs with
  | nil => exact Nat.one_pos
  | cons b bs ih =>
    have small : b.toNat ≤ 1 := Bool.toNat_le b
    rw [flagSet, List.length_cons, Nat.pow_succ]
    omega

theorem putFlags_three (a b c : Bool) : putFlags [a, b, c] = [BitVec.ofNat 8 (a.toNat + 2 * b.toNat + 4 * c.toNat)] := by
  refine congrArg (fun n => [BitVec.ofNat 8 n]) ?_
  simp only [flagSet]
  omega

theorem putFlags_four (a b c d : Bool) :
    putFlags [a, b, c, d] = [BitVec.ofNat 8 (a.toNat + 2 * b.toNat + 4 * c.toNat + 8 * d.toNat)] := by
  refine congrArg (fun n => [BitVec.ofNat 8 n]) ?_
  simp only [flagSet]
  omega

theorem alarmFlags_eq (x : Alarms) : putFlags x.flags =
    [BitVec.ofNat 8 (x.overCharge.toNat + 2 * x.overTemp.toNat + 4 * x.terminateCharge.toNat +
      8 * x.terminateDischarge.toNat + 16 * x.cellImbalance.toNat)] := by
  refine congrArg (fun n => [BitVec.ofNat 8 n]) ?_
  simp only [Alarms.flags, flagSet]
  omega

theorem sourceFlags_eq (m : Sources) : putFlags m.flags =
    [BitVec.ofNat 8 (m.tch.toNat + 2 * m.tsk.toNat + 4 * m.tfz.toNat + 8 * m.h0.toNat + 16 * m.h1.toNat +
      32 * m.h2.toNat + 64 * m.h3.toNat)] := by
  refine congrArg (fun n => [BitVec.ofNat 8 n]) ?_
  simp only [Sources.flags, flagSet]
  omega

/-! Channels, faults, packs and status -/

theorem channelBytes_eq (x : Sample) (now : Stamp) : channelBytes x now =
    if x.valid = true then [BitVec.ofNat 8 (1 + 2 * x.clamped.toNat)] ++ put2 x.value ++ [BitVec.ofNat 8 x.sweep] ++
      put2 (min 65535 (now - x.stamp).toNat : Nat)
    else [0, 0, 0, 0, 0, 0] := by
  unfold channelBytes
  split
  · next valid => rw [putFlags_two, valid]; rfl
  · rfl

theorem channelsIn_length (l : Lmt) (st : LimitState) :
    (channelsIn l st).length = ((List.finRange 16).map fun ch => (l.chans.get ch).state).count st := by
  rw [List.count, List.countP_map, List.countP_eq_length_filter]
  rfl

theorem faultSummary_eq (l : Lmt) : faultSummary l =
    (let states : List LimitState := (List.finRange 16).map fun ch => (l.chans.get ch).state
    l.actionSet.map (fun a => BitVec.ofNat 8 a.num) ++ states.map (fun x => BitVec.ofNat 8 x.num) ++
      [BitVec.ofNat 8 (states.count .fault), BitVec.ofNat 8 (states.count .held)]) := by
  simp only [faultSummary, channelsIn_length, put1, ← List.map_eq_flatMap, List.map_map, List.append_assoc]
  rfl

theorem faultDetail_eq (e : LimitEntry) (c : LimitChan) : faultDetail e c =
    [BitVec.ofNat 8 e.enable.toNat, BitVec.ofNat 8 c.state.num, BitVec.ofNat 8 e.action.num,
      BitVec.ofNat 8 c.warnRun, BitVec.ofNat 8 c.faultRun, BitVec.ofNat 8 c.returnRun,
      BitVec.ofNat 8 (c.tripValue.isSome.toNat + 2 * c.tripStamp.isSome.toNat), BitVec.ofNat 8 c.tripCount] ++
      put2 (c.tripValue.getD 0) ++ putStamp (c.tripStamp.getD 0) := by
  rw [faultDetail, tripBytes, putFlags_two]
  rfl

theorem recordBytes_length (r : Option PackRecord) (now : Stamp) : (recordBytes r now).length = 22 := by
  cases r <;> rfl

theorem packBytes_length (p : Pack) : (packBytes p s).length = 28 + 2 * (if p = .b then 1 else 0) := by
  cases p <;> simp only [packBytes, List.length_append, recordBytes_length] <;> rfl

theorem packBytes_empty {p : Pack} (h : (s.ppt.ports.get p).record = none) :
    ((packBytes p s).drop 6).take 22 = List.replicate 22 0 := by
  unfold packBytes
  dsimp only
  rw [h]
  cases p <;> rfl

theorem statusBytes_popRequest : statusBytes (popRequest s) =
    [if s.slc.linkUp = true then 0 else 1, if ∃ r ∈ s.slc.replies, r.linkDown = true then 1 else 0,
      BitVec.ofNat 8 s.slc.checkErrors, BitVec.ofNat 8 s.slc.framingErrors, BitVec.ofNat 8 s.slc.overrun.toNat,
      BitVec.ofNat 8 (s.slc.requests.length - 1), BitVec.ofNat 8 s.slc.replies.length,
      BitVec.ofNat 8 s.ssc.state.num, BitVec.ofNat 8 s.ssc.mode.num] := by
  have down : put1 (!s.slc.linkUp).toNat = [if s.slc.linkUp = true then 0 else 1] := by
    cases s.slc.linkUp <;> rfl
  have pending : putFlag (linkDownPending s.slc) =
      [if ∃ r ∈ s.slc.replies, r.linkDown = true then 1 else 0] := by
    have any : linkDownPending s.slc = true ↔ ∃ r ∈ s.slc.replies, r.linkDown = true := List.any_eq_true
    simp only [← any]
    cases linkDownPending s.slc <;> rfl
  have requests : put1 (popRequest s).slc.requests.length = [BitVec.ofNat 8 (s.slc.requests.length - 1)] :=
    congrArg put1 List.length_tail
  rw [← List.singleton_append, ← down, ← List.singleton_append, ← pending]
  have pending' : linkDownPending (popRequest s).slc = linkDownPending s.slc := rfl
  rw [statusBytes, requests, pending']
  rfl

end

/-! ## The key map (R122) -/

section
variable {k : Kms}

/-- The DOWN positions that a READ_KEYMAP lists. -/
def Kms.listed (k : Kms) : List (Fin 144) := k.downKeys.take 28

theorem listed_length : k.listed.length = min 28 k.downKeys.length := List.length_take

/-- The masks of the key map, behind the count. -/
def keymapMasks (k : Kms) : List Byte := put1 k.downKeys.length ++ (List.range 18).map (keymapByte k.listed)

/-- The codes that a READ_KEYMAP shows. -/
def keymapCodes (k : Kms) : List Byte :=
  k.listed.map fun p => if (k.positions.get p).silent = true then 0 else BitVec.ofNat 8 (k.positions.get p).code

/-- The marks of unreported positions, bit 31 the truncated mark. -/
def marksOf (k : Kms) : Nat :=
  flagSet (k.listed.map fun p => !(k.positions.get p).announced) + 2147483648 * (decide (28 < k.downKeys.length)).toNat

theorem shownCode_eq (r : PosRec) : BitVec.ofNat 8 (shownCode r) = if r.silent = true then 0 else BitVec.ofNat 8 r.code := by
  rw [shownCode, apply_ite (BitVec.ofNat 8)]
  rfl

theorem keymapBytes_eq : keymapBytes k = keymapMasks k ++ (keymapCodes k ++ put4 (marksOf k : Nat)) := by
  have codes : (k.listed.flatMap fun p => put1 (shownCode (k.positions.get p))) = keymapCodes k := by
    simp only [put1, ← List.map_eq_flatMap, shownCode_eq, keymapCodes]
  rw [← codes, ← List.append_assoc]
  rfl

theorem keymapMasks_length : (keymapMasks k).length = 19 := by
  rw [keymapMasks, List.length_append, List.length_map, List.length_range]
  rfl

theorem keymapCodes_length : (keymapCodes k).length = min 28 k.downKeys.length := by
  rw [keymapCodes, List.length_map, listed_length]

theorem keymapBytes_length : (keymapBytes k).length = 23 + min 28 k.downKeys.length := by
  have marks : (put4 (marksOf k : Nat)).length = 4 := rfl
  rw [keymapBytes_eq, List.length_append, List.length_append, keymapMasks_length, keymapCodes_length, marks]
  omega

theorem keymapBytes_codes : ((keymapBytes k).drop 19).take (min 28 k.downKeys.length) = keymapCodes k := by
  rw [keymapBytes_eq, List.drop_left' keymapMasks_length, List.take_left' keymapCodes_length]

theorem keymapBytes_marks : (keymapBytes k).drop (19 + min 28 k.downKeys.length) = put4 (marksOf k : Nat) := by
  rw [keymapBytes_eq, ← List.drop_drop, List.drop_left' keymapMasks_length, List.drop_left' keymapCodes_length]

/-- The bit of a position in the byte of its group of eight. -/
theorem keymapByte_bit (p : Fin 144) :
    (keymapByte k.listed (p.val / 8)).getLsbD (p.val % 8) = decide (p ∈ k.listed) := by
  have lt : p.val % 8 < 8 := Nat.mod_lt _ (by decide)
  have split : 8 * (p.val / 8) + p.val % 8 = p.val := Nat.div_add_mod ..
  rw [keymapByte, BitVec.getLsbD_ofNat, decide_eq_true lt, Bool.true_and, flagSet_testBit,
    List.getD_eq_getElem?_getD, List.getElem?_map, List.getElem?_range lt, Option.map_some, Option.getD_some, split,
    Bool.eq_iff_iff, List.any_eq_true, decide_eq_true_iff]
  constructor
  · rintro ⟨q, mem, same⟩
    obtain rfl : q = p := Fin.ext (of_decide_eq_true same)
    exact mem
  · exact fun mem => ⟨p, mem, decide_eq_true rfl⟩

theorem keymapBytes_bit (p : Fin 144) :
    ((keymapBytes k).getD (1 + p.val / 8) 0).getLsbD (p.val % 8) = decide (p ∈ k.listed) := by
  have group : p.val / 8 < 18 := by omega
  have byte : (keymapBytes k).getD (1 + p.val / 8) 0 = keymapByte k.listed (p.val / 8) := by
    rw [keymapBytes_eq, List.getD_append _ _ _ _ (by rw [keymapMasks_length]; omega), keymapMasks, put1,
      List.singleton_append, Nat.add_comm, List.getD_cons_succ, List.getD_eq_getElem?_getD, List.getElem?_map,
      List.getElem?_range group]
    rfl
  rw [byte, keymapByte_bit]

theorem marksOf_eq : marksOf k = 2 ^ 31 * (decide (28 < k.downKeys.length)).toNat +
    flagSet (k.listed.map fun p => !(k.positions.get p).announced) := Nat.add_comm ..

/-- The list of unreported marks is short of the truncated mark. -/
theorem unreported_lt : flagSet (k.listed.map fun p => !(k.positions.get p).announced) < 2 ^ 31 := by
  have length : (k.listed.map fun p => !(k.positions.get p).announced).length ≤ 31 := by
    rw [List.length_map, listed_length]
    omega
  exact (flagSet_lt _).trans_le (Nat.pow_le_pow_right (by decide) length)

theorem marksOf_lt : marksOf k < 4294967296 := by
  have small := unreported_lt (k := k)
  have mark := Bool.toNat_le (decide (28 < k.downKeys.length))
  rw [marksOf_eq]
  omega

theorem marksOf_truncated : (marksOf k).testBit 31 = true ↔ 28 < k.downKeys.length := by
  rw [marksOf_eq, Nat.testBit_two_pow_mul_add _ unreported_lt, if_neg (Nat.lt_irrefl 31)]
  by_cases h : 28 < k.downKeys.length <;> simp [h]

theorem marksOf_unreported {i : Nat} (h : i < 31) : (marksOf k).testBit i = true ↔
    ∃ p, k.listed[i]? = some p ∧ (k.positions.get p).announced = false := by
  rw [marksOf_eq, Nat.testBit_two_pow_mul_add _ unreported_lt, if_pos h, flagSet_testBit,
    List.getD_eq_getElem?_getD, List.getElem?_map]
  cases k.listed[i]? <;> simp

end

end Sys2Proof.Machine

namespace Sys2Proof.Machine

/-! ## The answers of the reading requests (R14, R33, R58, R99, R122, R150, R188, R189) -/

section
variable {s : State} {args : List Byte} {n : Nat}

theorem slotBytes_length (l : List HostSlot) : (l.flatMap slotBytes).length = 5 * l.length := by
  have each (x : HostSlot) : (slotBytes x).length = 5 := rfl
  simp [List.length_flatMap, each, Nat.mul_comm]

theorem fansBytes_length : (fansBytes s).length = 68 := by
  have slots : (s.fnc.slots.list.flatMap slotBytes).length = 20 := by rw [slotBytes_length, s.fnc.slots.size]
  simp only [fansBytes, List.length_append, slots]
  rfl

theorem allocPackBytes_length (c : Charge) (m : PathMode) (f : PackFigures) (x : Setpoints) :
    (allocPackBytes c m f x).length = 20 := rfl

theorem allocationBytes_length (c : Ppc) : (allocationBytes c).length = 87 := by
  have adapter : (adapterBytes c.adapter).length = 7 := rfl
  have pass : (passBytes c.alloc c.iLim).length = 31 := rfl
  simp only [allocationBytes, List.length_append, adapter, pass, allocPackBytes_length]
  rfl

/-- The bytes of one pack's part of a READ_ALLOCATION. -/
theorem allocPackBytes_eq (d : Charge) (m : PathMode) (f : PackFigures) (x : Setpoints) : allocPackBytes d m f x =
    [BitVec.ofNat 8 d.phase.num, BitVec.ofNat 8 (d.band.getD 0xFF), BitVec.ofNat 8 m.num,
        BitVec.ofNat 8 (f.chargeEligible.toNat + 2 * f.boostEligible.toNat)] ++
      put2 f.c ++ put2 f.b ++ put2 d.cap ++ put2 d.vChg ++ put2 d.iDmax ++ put2 x.chargeI ++ put2 x.chargeV ++
      put2 x.boost := by
  rw [allocPackBytes, putFlags_two]
  rfl

/-- The bytes of a READ_ALLOCATION before its packs. -/
theorem allocationBytes_eq (c : Ppc) : allocationBytes c =
    [BitVec.ofNat 8 c.adapter.aid.isSome.toNat, BitVec.ofNat 8 c.adapter.state.num, BitVec.ofNat 8 c.adapter.cls] ++
      put2 c.adapter.iAL ++ put2 (c.adapter.aid.getD 0) ++ put2 c.iHL ++
      [BitVec.ofNat 8 c.eta, BitVec.ofNat 8 c.boostOn.toNat, BitVec.ofNat 8 c.boostFloor] ++
      [BitVec.ofNat 8 c.alloc.made.toNat, BitVec.ofNat 8 c.alloc.sweep] ++ putStamp c.alloc.stamp ++
      [BitVec.ofNat 8 c.alloc.mode.num] ++ put2 c.alloc.iEff ++ put2 c.iLim ++ put4 c.alloc.pIn ++ put4 c.alloc.pUse ++
      put4 c.alloc.pSys ++ put4 c.alloc.h ++ put4 c.alloc.u ++
      [BitVec.ofNat 8 c.throttle.state.num, BitVec.ofNat 8 c.throttle.count, BitVec.ofNat 8 c.ltr.toNat] ++
      allocPackBytes (c.charge.get .a) (c.path.get .a).mode (c.alloc.packs.get .a) (c.setpoints.get .a) ++
      allocPackBytes (c.charge.get .b) (c.path.get .b).mode (c.alloc.packs.get .b) (c.setpoints.get .b) ++
      [BitVec.ofNat 8 c.bay.state.num] := by
  simp only [allocationBytes, adapterBytes, passBytes, put1, putFlag, putFlags, flagSet, put2Opt, List.append_assoc,
    List.cons_append, List.nil_append, Nat.mul_zero, Nat.add_zero]
  rfl

/-- The bytes of one fan's part of a READ_FANS, its speed given. -/
theorem fanBytes_eq {g : FanConfig} {x : FanState} {rpm : Nat} (h : fanRpm g x = rpm) : fanBytes g x =
    [BitVec.ofNat 8 x.interval.isSome.toNat, BitVec.ofNat 8 x.state.num] ++ put2 x.drive ++ put2 x.demand ++
      put2 x.curveDuty ++ put2 (x.governing.getD (-32768)) ++ put2 x.reference ++
      [BitVec.ofNat 8 x.fresh.toNat, BitVec.ofNat 8 x.retries] ++ put2 (x.interval.getD 0 : Nat) ++
      [BitVec.ofNat 8 x.silent.toNat] ++ put2 (min 65535 rpm : Nat) ++
      [BitVec.ofNat 8 g.ppr, BitVec.ofNat 8 g.stallCheck.toNat] := by
  rw [← h]
  rfl

/-- The bytes of a READ_FANS. -/
theorem fansBytes_eq : fansBytes s =
    [BitVec.ofNat 8 s.fnc.set.num, BitVec.ofNat 8 (decide (Action.fanFull ∈ s.lmt.actionSet)).toNat] ++
      put2 s.fnc.overrideDuty ++ put2 (s.fnc.overrideTimer.getD 0 : Nat) ++
      fanBytes (s.fnc.configs.get .one) (s.fnc.fans.get .one) ++
      fanBytes (s.fnc.configs.get .two) (s.fnc.fans.get .two) ++ s.fnc.slots.list.flatMap slotBytes := by
  have full : s.lmt.actionSet.contains .fanFull = decide (Action.fanFull ∈ s.lmt.actionSet) := List.contains_eq_mem ..
  rw [fansBytes, full]
  rfl

theorem limitBytes_eq (e : LimitEntry) : limitBytes e =
    [BitVec.ofNat 8 (e.warnLow.isSome.toNat + 2 * e.warnHigh.isSome.toNat + 4 * e.faultLow.isSome.toNat +
        8 * e.faultHigh.isSome.toNat), BitVec.ofNat 8 e.enable.toNat] ++
      put2 (e.warnLow.getD 0) ++ put2 (e.warnHigh.getD 0) ++ put2 (e.faultLow.getD 0) ++ put2 (e.faultHigh.getD 0) ++
      put2 e.hyst ++ [BitVec.ofNat 8 e.deglitch, BitVec.ofNat 8 e.action.num,
        BitVec.ofNat 8 (e.reportWarning.toNat + 2 * e.reportFault.toNat)] := by
  rw [limitBytes, putFlags_four, putFlags_two]
  rfl

theorem keyEntryBytes_eq (e : KeyEntry) : keyEntryBytes e = [BitVec.ofNat 8 e.base, BitVec.ofNat 8 e.fn,
    BitVec.ofNat 8 (e.fnKey.toNat + 2 * e.wake.toNat + 4 * e.isolated.toNat)] := by
  rw [keyEntryBytes, putFlags_three]
  rfl

theorem policyBytes_eq (t : Table Policy 35) : policyBytes t =
    (allCodes.filter fun c => decide (c ≠ .gap)).flatMap fun c =>
      [BitVec.ofNat 8 c.num, BitVec.ofNat 8 (t.get c.idx).cls.num,
        BitVec.ofNat 8 ((t.get c.idx).wake.toNat + 2 * (t.get c.idx).start.toNat)] := by
  simp only [policyBytes, putFlags_two]
  rfl

/-! The table a READ_TABLE names (R189) -/

theorem readTable_outside (ne : args ≠ []) (h : arg1 args 0 < 1 ∨ 8 < arg1 args 0) :
    readTable args s = refuse .badArgument s := by
  rw [readTable, if_neg (Nat.not_lt.2 (List.length_pos_iff.2 ne)), if_neg (by omega), if_neg (by omega),
    if_neg (by omega), if_neg (by omega), if_neg (by omega), if_neg (by omega), if_neg (by omega), if_neg (by omega)]

theorem readWhole_refuses (data : List Byte) (h : args.length ≠ 1) : readWhole args data s = refuse .badLength s :=
  if_pos h

theorem readLimits_at {ch : Fin 16} (len : args.length = 2) (h : arg1 args 1 = ch.val) :
    readLimits args s = accept s (limitBytes (s.lmt.entries.get ch)) := by
  have index (lt : arg1 args 1 < 16) : (⟨arg1 args 1, lt⟩ : Fin 16) = ch := Fin.ext h
  rw [readLimits, if_neg (not_not.2 len), dif_pos (h ▸ ch.isLt), index]

theorem readLimits_outside (len : args.length = 2) (h : 16 ≤ arg1 args 1) : readLimits args s = refuse .badArgument s := by
  rw [readLimits, if_neg (not_not.2 len), dif_neg (Nat.not_lt.2 h)]

theorem readProfiles_at {i : Fin 4} (len : args.length = 2) (h : arg1 args 1 = i.val) :
    readProfiles args s = accept s (profileBytes i.val (s.ppc.profiles.get i)) := by
  have index (lt : arg1 args 1 < 4) : (⟨arg1 args 1, lt⟩ : Fin 4) = i := Fin.ext h
  rw [readProfiles, if_neg (not_not.2 len), dif_pos (h ▸ i.isLt), index, h]

theorem readProfiles_outside (len : args.length = 2) (h : 4 ≤ arg1 args 1) :
    readProfiles args s = refuse .badArgument s := by
  rw [readProfiles, if_neg (not_not.2 len), dif_neg (Nat.not_lt.2 h)]

theorem readTranslation_at {row : Fin 8} (len : args.length = 2) (h : arg1 args 1 = row.val) :
    readTranslation args s = accept s ((List.finRange 18).flatMap fun col =>
      keyEntryBytes (s.kms.translation.get (keyAt row col))) := by
  have index (lt : arg1 args 1 < 8) : (⟨arg1 args 1, lt⟩ : Fin 8) = row := Fin.ext h
  rw [readTranslation, if_neg (not_not.2 len), dif_pos (h ▸ row.isLt), index, Kms.rowEntries, List.flatMap_map]

theorem readTranslation_outside (len : args.length = 2) (h : 8 ≤ arg1 args 1) :
    readTranslation args s = refuse .badArgument s := by
  rw [readTranslation, if_neg (not_not.2 len), dif_neg (Nat.not_lt.2 h)]

theorem readCurves_at {f : Fan} {i : Fin 3} (len : args.length = 3) (hf : arg1 args 1 = fanNum f)
    (h : arg1 args 2 = i.val) : readCurves args s = accept s (curveBytes ((s.fnc.curves.get f).get i)) := by
  have index (lt : arg1 args 2 < 3) : (⟨arg1 args 2, lt⟩ : Fin 3) = i := Fin.ext h
  rw [readCurves, if_neg (not_not.2 len), hf, fanOf_num]
  dsimp only
  rw [dif_pos (h ▸ i.isLt), index]

theorem readCurves_config {f : Fan} (len : args.length = 3) (hf : arg1 args 1 = fanNum f) (h : arg1 args 2 = 3) :
    readCurves args s = accept s (configBytes (s.fnc.configs.get f)) := by
  rw [readCurves, if_neg (not_not.2 len), hf, fanOf_num]
  dsimp only
  rw [dif_neg (by omega), if_pos h]

theorem readCurves_refuses (len : args.length = 3) (h : arg1 args 1 ≠ 1 ∧ arg1 args 1 ≠ 2 ∨ 4 ≤ arg1 args 2) :
    readCurves args s = refuse .badArgument s := by
  rw [readCurves, if_neg (not_not.2 len)]
  cases fan : fanOf (arg1 args 1) with
  | none => rfl
  | some f =>
    have set : 4 ≤ arg1 args 2 := h.resolve_left fun none => by rw [fanOf_none none] at fan; cases fan
    exact (dif_neg (by omega)).trans (if_neg (by omega))

/-! The selectors -/

theorem ofNat_toNat_lt (h : n < 256) : (BitVec.ofNat 8 n).toNat = n := by
  rw [BitVec.toNat_ofNat, Nat.mod_eq_of_lt h]

theorem readChannels_half {half : Byte} (ne : half ≠ 0) (ne' : half ≠ 1) :
    readChannels [half] s = refuse .badArgument s := by
  have zero : arg1 [half] 0 ≠ 0 := fun h => ne (byte_of_toNat h)
  have one : arg1 [half] 0 ≠ 1 := fun h => ne' (byte_of_toNat h)
  rw [readChannels, if_neg (not_not.2 List.length_singleton), if_neg zero, if_neg one]

theorem readPack_selector {sel : Byte} (ne : sel ≠ 0) (ne' : sel ≠ 1) : readPack [sel] s = refuse .badArgument s := by
  have zero : arg1 [sel] 0 ≠ 0 := fun h => ne (byte_of_toNat h)
  have one : arg1 [sel] 0 ≠ 1 := fun h => ne' (byte_of_toNat h)
  rw [readPack, if_neg (not_not.2 List.length_singleton), packOf, if_neg zero, if_neg one]

theorem readFaults_channel {ch : Fin 16} {sel : Byte} (h : sel.toNat = ch.val) :
    readFaults [sel] s = accept s (faultDetail (s.lmt.entries.get ch) (s.lmt.chans.get ch)) := by
  have sel' : arg1 [sel] 0 = ch.val := h
  have index (lt : arg1 [sel] 0 < 16) : (⟨arg1 [sel] 0, lt⟩ : Fin 16) = ch := Fin.ext h
  rw [readFaults, if_neg (not_not.2 List.length_singleton), if_neg (by omega), dif_pos (sel' ▸ ch.isLt), index]

theorem readFaults_selector {sel : Byte} (ne : sel ≠ 0xFF) (ge : 16 ≤ sel.toNat) :
    readFaults [sel] s = refuse .badArgument s := by
  have all : arg1 [sel] 0 ≠ 0xFF := fun h => ne (byte_of_toNat h)
  have outside : 16 ≤ arg1 [sel] 0 := ge
  rw [readFaults, if_neg (not_not.2 List.length_singleton), if_neg all, dif_neg (Nat.not_lt.2 outside)]

/-! READ_TABLE -/

variable {tag : Nat} {data : List Byte}

/-- A READ_TABLE of the table its first byte names, answered with the table's bytes. -/
theorem readTable_ok (head : RequestAtHead s 0x18 args tag) {table : List Byte → State → Answer}
    (named : readTable args (popRequest s) = table args (popRequest s))
    (h : table args (popRequest s) = accept (popRequest s) data) :
    exec .readTable s = .next (answered tag .ok data s) :=
  exec_accepted (owner := readTable) rfl head (named.trans h)

theorem readTable_refused (head : RequestAtHead s 0x18 args tag) {table : List Byte → State → Answer} {code : ResultCode}
    (named : readTable args (popRequest s) = table args (popRequest s))
    (h : table args (popRequest s) = refuse code (popRequest s)) :
    exec .readTable s = .next (answered tag code [] s) :=
  exec_refused (owner := readTable) rfl head (named.trans h)

/-- A selector that no entry of its table has. -/
theorem readTable_selectors (head : RequestAtHead s 0x18 args tag) {n : Byte}
    (h : (args = [2, n] ∧ 16 ≤ n.toNat) ∨ (args = [3, n] ∧ 4 ≤ n.toNat) ∨ (args = [7, n] ∧ 8 ≤ n.toNat)) :
    exec .readTable s = .next (answered tag .badArgument [] s) := by
  obtain ⟨rfl, ge⟩ | ⟨rfl, ge⟩ | ⟨rfl, ge⟩ := h
  · exact readTable_refused head (table := readLimits) rfl (readLimits_outside rfl ge)
  · exact readTable_refused head (table := readProfiles) rfl (readProfiles_outside rfl ge)
  · exact readTable_refused head (table := readTranslation) rfl (readTranslation_outside rfl ge)

/-- A READ_TABLE of the right table with the wrong number of bytes. -/
theorem readTable_lengths (head : RequestAtHead s 0x18 args tag) :
    (args.length ≠ 2 → (args.head? = some 2 ∨ args.head? = some 3 ∨ args.head? = some 7) →
      exec .readTable s = .next (answered tag .badLength [] s)) ∧
    (args.length ≠ 3 → args.head? = some 5 → exec .readTable s = .next (answered tag .badLength [] s)) ∧
    (args.length ≠ 1 → (args.head? = some 1 ∨ args.head? = some 4 ∨ args.head? = some 6 ∨ args.head? = some 8) →
      exec .readTable s = .next (answered tag .badLength [] s)) := by
  refine ⟨fun len first => ?_, fun len first => ?_, fun len first => ?_⟩
  · obtain first | first | first := first <;> obtain ⟨rest, rfl⟩ := List.head?_eq_some_iff.1 first
    · exact readTable_refused head (table := readLimits) rfl (if_pos len)
    · exact readTable_refused head (table := readProfiles) rfl (if_pos len)
    · exact readTable_refused head (table := readTranslation) rfl (if_pos len)
  · obtain ⟨rest, rfl⟩ := List.head?_eq_some_iff.1 first
    exact readTable_refused head (table := readCurves) rfl (if_pos len)
  · have whole {data : List Byte} (named : readTable args (popRequest s) = readWhole args data (popRequest s)) :=
      readTable_refused head (table := fun bs => readWhole bs data) named (readWhole_refuses data len)
    obtain first | first | first | first := first <;> obtain ⟨rest, rfl⟩ := List.head?_eq_some_iff.1 first <;>
      exact whole rfl

end

end Sys2Proof.Machine

namespace Sys2Proof.Machine

/-- Settles O49: each reading request by its equation, and each reply's bytes by the lemma of its layout. -/
theorem readsAnswerWithoutChange : Obligations.ReadsAnswerWithoutChange := by
  refine ⟨fun v => ⟨put2_eq v, put4_eq v⟩, fun x => rfl, rfl, rfl, rfl, rfl, rfl, rfl, rfl, rfl, rfl, rfl, rfl, rfl,
    fun s tag => ?_⟩
  intro answers b
  have refused {num : Nat} {c : Instr} {owner : List Byte → State → Answer} {args : List Byte} {code : ResultCode}
      (run : exec c s = .next (runRequest num owner s)) (head : RequestAtHead s num args tag)
      (h : owner args (popRequest s) = refuse code (popRequest s)) : answers c code [] := exec_refused run head h
  refine ⟨fun half head => ?channels, fun args len => ⟨fun head => ?_, fun head => ?_, fun head => ?_⟩, fun p => ?record,
    fun sel head => ?pack, fun head => ?allocation, ?pass, fun sel head => ?faults, fun head => ?keymap,
    fun head => ?fans, ?fanBytes, fun head => ?status, fun args ne => ⟨fun head => ?_, fun head => ?_, fun head => ?_,
    fun head => ?_⟩, fun args head => ?table⟩
  case channels =>
    intro entry
    have entries (ch : Fin 16) : channelBytes ((popRequest s).sws.latest.get ch) (popRequest s).tmb.ms = entry ch :=
      channelBytes_eq ..
    refine ⟨fun zero => exec_accepted (owner := readChannels) rfl head ?_,
      fun one => exec_accepted (owner := readChannels) rfl head ?_,
      fun ne ne' => refused (owner := readChannels) rfl head (readChannels_half ne ne')⟩
    · subst zero
      exact congrArg (accept (popRequest s)) (congrArg (_ ++ ·) (List.flatMap_congr fun ch _ => entries ch))
    · subst one
      exact congrArg (accept (popRequest s)) (congrArg (_ ++ ·) (List.flatMap_congr fun ch _ => entries ch))
  · exact refused (owner := readChannels) rfl head (if_pos len)
  · exact refused (owner := readPack) rfl head (if_pos len)
  · exact refused (owner := readFaults) rfl head (if_pos len)
  case record =>
    simp only [packBytes, recordBytes, putFlags_two, alarmFlags_eq]
    cases (s.ppt.ports.get p).record <;> cases p <;> rfl
  case pack =>
    refine ⟨fun zero => ?_, fun one => ?_, fun p none => packBytes_empty none,
      fun ne ne' => refused (owner := readPack) rfl head (readPack_selector ne ne')⟩
    · subst zero
      exact ⟨exec_accepted (owner := readPack) rfl head rfl, packBytes_length .a⟩
    · subst one
      exact ⟨exec_accepted (owner := readPack) rfl head rfl, packBytes_length .b⟩
  case allocation => exact ⟨exec_accepted (owner := readAllocation) rfl head rfl, allocationBytes_length _⟩
  case pass =>
    rw [allocationBytes_eq, allocPackBytes_eq, allocPackBytes_eq]
  case faults =>
    intro states
    refine ⟨fun all => ?_, fun ch h => ?_, fun ne ge => refused (owner := readFaults) rfl head
      (readFaults_selector ne ge)⟩
    · subst all
      exact exec_accepted (owner := readFaults) rfl head (congrArg (accept (popRequest s)) (faultSummary_eq s.lmt))
    · intro e c
      have channel : sel.toNat = ch.val := by rw [h, ofNat_toNat_lt (by omega)]
      exact exec_accepted (owner := readFaults) rfl head
        ((readFaults_channel channel).trans (congrArg (accept (popRequest s)) (faultDetail_eq e c)))
  case keymap =>
    intro down
    exact ⟨exec_accepted (owner := readKeymap) rfl head rfl, keymapBytes_length, rfl, keymapBytes_codes,
      keymapBytes_bit, marksOf s.kms, keymapBytes_marks, marksOf_lt, marksOf_truncated, fun i lt => marksOf_unreported lt⟩
  case fans => exact ⟨exec_accepted (owner := readFans) rfl head rfl, fansBytes_length⟩
  case fanBytes =>
    extract_lets fan
    have fans (f : Fan) : fanBytes (s.fnc.configs.get f) (s.fnc.fans.get f) = fan f := by
      refine fanBytes_eq ?_
      unfold fanRpm
      cases (s.fnc.fans.get f).silent <;> cases (s.fnc.fans.get f).interval <;> rfl
    rw [fansBytes_eq, fans, fans]
    rfl
  case status =>
    exact exec_accepted (owner := readStatus) rfl head (congrArg (accept (popRequest s)) statusBytes_popRequest)
  · exact refused (owner := readAllocation) rfl head (if_pos (ne_nil_length ne))
  · exact refused (owner := readKeymap) rfl head (if_pos (ne_nil_length ne))
  · exact refused (owner := readFans) rfl head (if_pos (ne_nil_length ne))
  · exact refused (owner := readStatus) rfl head (if_pos (ne_nil_length ne))
  case table =>
    obtain ⟨two, three, one⟩ := readTable_lengths head
    refine ⟨fun none => ?_, fun n rest h out => ?_, fun h => ?_, fun ch h => ?_, fun i h => ?_, fun h => ?_,
      fun f i h => ?_, fun f h => ?_, fun h => ?_, fun row h => ?_, fun h => ?_, fun n h => readTable_selectors head h,
      fun f n h bad => ?_, two, three, one⟩
    · subst none
      exact refused (owner := readTable) rfl head rfl
    · have number : arg1 args 0 = n.toNat := by rw [h]; rfl
      have zero (h : n = 0) : n.toNat = 0 := congrArg BitVec.toNat h
      exact refused (owner := readTable) rfl head (readTable_outside (h ▸ List.cons_ne_nil n rest) (by
        rw [number]
        exact out.imp_left fun h => by rw [zero h]; exact Nat.one_pos))
    · subst h
      exact exec_accepted (owner := readTable) rfl head rfl
    · have channel : arg1 args 1 = ch.val := by rw [h]; exact ofNat_toNat_lt (by omega)
      have len : args.length = 2 := by rw [h]; rfl
      exact ⟨readTable_ok head (table := readLimits) (by rw [h]; rfl) (readLimits_at len channel), rfl, limitBytes_eq _⟩
    · have profile : arg1 args 1 = i.val := by rw [h]; exact ofNat_toNat_lt (by omega)
      have len : args.length = 2 := by rw [h]; rfl
      exact ⟨readTable_ok head (table := readProfiles) (by rw [h]; rfl) (readProfiles_at len profile), rfl⟩
    · subst h
      refine exec_accepted (owner := readTable) rfl head ?_
      refine congrArg (accept (popRequest s)) (List.flatMap_congr fun e _ => ?_)
      cases e <;> rfl
    · have fan : arg1 args 1 = fanNum f := by rw [h]; cases f <;> rfl
      have set : arg1 args 2 = i.val := by rw [h]; exact ofNat_toNat_lt (by omega)
      have len : args.length = 3 := by rw [h]; rfl
      refine ⟨readTable_ok head (table := readCurves) (by rw [h]; rfl) (readCurves_at len fan set), ?_⟩
      rw [curveBytes, sourceFlags_eq]
      rfl
    · have fan : arg1 args 1 = fanNum f := by rw [h]; cases f <;> rfl
      have len : args.length = 3 := by rw [h]; rfl
      exact readTable_ok head (table := readCurves) (by rw [h]; rfl) (readCurves_config len fan (by rw [h]; rfl))
    · subst h
      exact ⟨exec_accepted (owner := readTable) rfl head rfl, rfl, policyBytes_eq _⟩
    · have index : arg1 args 1 = row.val := by rw [h]; exact ofNat_toNat_lt (by omega)
      have len : args.length = 2 := by rw [h]; rfl
      refine readTable_ok head (table := readTranslation) (by rw [h]; rfl) ((readTranslation_at len index).trans ?_)
      exact congrArg (accept (popRequest s)) (List.flatMap_congr fun col _ => keyEntryBytes_eq _)
    · subst h
      refine exec_accepted (owner := readTable) rfl head ?_
      refine congrArg (accept (popRequest s)) (List.flatMap_congr fun e _ => ?_)
      cases e <;> rfl
    · have len : args.length = 3 := by rw [h]; rfl
      have fan : arg1 args 1 = f.toNat := by rw [h]; rfl
      have set : arg1 args 2 = n.toNat := by rw [h]; rfl
      refine readTable_refused head (table := readCurves) (by rw [h]; rfl) (readCurves_refuses len ?_)
      rw [fan, set]
      exact bad.imp_left fun ⟨ne, ne'⟩ => ⟨fun h => ne (byte_of_toNat h), fun h => ne' (byte_of_toNat h)⟩

end Sys2Proof.Machine
